-- ==== Sys2Proof/Word.lean ====
section
/-! DEFINITION. The word types of the FQ-7280: registers are 32 bits wide (R1), and memories are byte-addressed. -/

namespace Sys2Proof

/-- A register word (R1). -/
abbrev Word := BitVec 32

/-- A 64-bit value: an engine register (R313) or a register pair (R2). -/
abbrev DWord := BitVec 64

/-- One byte of a memory, a frame or a message. -/
abbrev Byte := BitVec 8

/-- A register word from a number, modulo 2^32. -/
abbrev word (n : Nat) : Word := BitVec.ofNat 32 n

/-- A 64-bit value from a number, modulo 2^64. -/
abbrev dword (n : Nat) : DWord := BitVec.ofNat 64 n

/-- A byte from a number, modulo 2^8. -/
abbrev byte (n : Nat) : Byte := BitVec.ofNat 8 n

end Sys2Proof
end

