-- ==== Sys2Proof/Machine/RegTypes.lean ====
section
/-! DEFINITION. What a register table of the manual says of a register: access codes (R4), field classes (R7, R8, R9), and the
limits its stored values are held to. -/

namespace Sys2Proof.Machine

/-- Who makes a register access (R25, R26): Skylark, a function of a host port, or an engine thread. -/
inductive Master where
  | skylark
  | host (port : Fin 2) (fn : Fin 514)
  | engine (tid : Fin 8192)
  deriving DecidableEq, Repr

/-- The access codes of R4. -/
inductive Access where
  | rw | ro | wo | w1c | w1s | rc | rws | rwl
  deriving DecidableEq, Repr

/-- The field classes: Live (R7), Quiet (R8) and Shadowed (R9). -/
inductive FClass where
  | live | quiet | shadow
  deriving DecidableEq, Repr

/-- How a register of more than one word is read and written: word by word; as a 64-bit pair under R2 and R3; or latched whole on a
read of its lowest word (R2). -/
inductive RegKind where
  | plain | pair | lat
  deriving DecidableEq, Repr

/-- One field: its lowest bit counted from bit 0 of the register's first word, its width, its access code, class and reset value; the
least and greatest value it stores, a value beyond them being stored as the nearer; and the values that drop the write. -/
structure FieldD where
  lo : Nat
  width : Nat
  acc : Access
  cls : FClass
  rst : Nat
  least : Nat
  most : Nat
  bad : List Nat
  deriving DecidableEq, Repr

/-- One register or array of registers: the offset of its first word, its array dimensions as (count, stride) with the largest stride
first, its number of words, its kind and its fields. -/
structure RegD where
  base : Nat
  dims : List (Nat × Nat)
  words : Nat
  kind : RegKind
  fields : List FieldD
  deriving DecidableEq, Repr

/-- A field with no limit on what it stores. -/
def fd (lo width : Nat) (acc : Access) (cls : FClass) (rst : Nat) : FieldD :=
  ⟨lo, width, acc, cls, rst, 0, 2 ^ width - 1, []⟩

/-- The field with its stored value held between two limits. -/
def FieldD.clamp (f : FieldD) (least most : Nat) : FieldD := { f with least := least, most := most }

/-- The field with one more value whose write is dropped and logged. -/
def FieldD.forbid (f : FieldD) (v : Nat) : FieldD := { f with bad := v :: f.bad }

end Sys2Proof.Machine
end

