-- ==== Sys2Proof/Syntax.lean ====
section
/-! DEFINITION. The commands of the FQ-7280: one constructor per row of the opcode table, with the operands that come from outside
the device (who acts, on which instance, and the data that arrives). -/

namespace Sys2Proof

open Sys2Proof.Machine (Master)

/-- What an HBM word found in error holds (R32): nothing that is owned; the frame at the head of an L0 queue; the MW4 peer area; an entry of Hedgerow or of a
learned MAC table, or a row of LPM; a security association, a transport context or a queue context; bytes that the instruction `instr` of an engine
thread loads from `addr`; or the code words on which the device itself runs. -/
inductive MemOwner where
  | free
  | packet (q : Fin 131072)
  | mw4
  | hedgerow (loc : Nat)
  | lpm (row : Nat)
  | macEntry (k : Nat)
  | sa (i : Fin 2097152)
  | xpt (i : Fin 1048576)
  | queue (g : Nat)
  | engine (tid : Fin 8192) (addr : DWord) (instr : Word)
  | critical
  deriving DecidableEq, Repr

/-- What the PCS and FEC counted while a frame arrived (R106): blocks with invalid coding, codewords corrected, uncorrectable codewords,
symbols corrected. -/
structure FecNote where
  pcsErr : Nat
  corr : Nat
  uncorr : Nat
  symbols : Nat
  deriving DecidableEq, Repr


/-- An MW4 request (R227, R236): a read of `len` bytes, a write, or an AtomicOp. -/
inductive Mw4Kind where
  | rd (len : Nat)
  | wr (data : List Byte) (poisoned : Bool)
  | atomic
  deriving DecidableEq, Repr

/-- The status of a completion received (R232): successful, Unsupported Request or Completer Abort. -/
inductive CplStatus where
  | sc | ur | ca
  deriving DecidableEq, Repr

/-- The fatal link errors of R236. -/
inductive LinkFatal where
  | malformedTlp | flowControl | dataLink | overflow
  deriving DecidableEq, Repr

/-- The correctable errors of R236. -/
inductive LinkCorr where
  | receiver | badTlp | badDllp | replayRollover | replayTimeout | bufferSymbol
  deriving DecidableEq, Repr

/-- A configuration write that the device acts on and that has no row of its own (R222 to R224, R233, R237 to R242, R268, R299). -/
inductive CfgField where
  | d0
  | mse (on : Bool)
  | bmeSet
  | vfEnable (num : Nat)
  | ptmEnable (on : Bool)
  | msix (on mask : Bool)
  | maxPayload (n : Nat)
  | maxReadRequest (n : Nat)
  | cplTimeout (encoding : Nat)
  | pme (en clearStatus : Bool)
  | aspm (l1 substates l0p : Bool)
  | tagBits (n : Nat)
  | aerMask (unc sev cor : Nat)
  | aerClear (unc cor : Nat)
  deriving DecidableEq, Repr

/-- A frame that Skylark sends on a network port, without FCS (R69 to R71): whether it asks for a one-step fill, and which message of the PTP receive
queue it forwards, if it forwards one. -/
structure SkyFrame where
  bytes : List Byte
  oneStep : Bool
  fwd : Option Nat
  deriving DecidableEq, Repr

/-- What HELLO carries (R438): serial number, PRIO, IDMODE, strap ID, sending port and view. -/
structure StkHello where
  serial : Nat
  prio : Nat
  elect : Bool
  strap : Nat
  port : Nat
  view : Nat
  deriving DecidableEq, Repr

/-- A stamp as a stack message carries it. -/
structure StkStamp where
  time : Nat
  bound : Nat
  domain : Nat
  seq : Nat
  deriving DecidableEq, Repr

/-- A DATA message's metadata and frame (R448): the receiving member's queue, host receive queue or L0 queue; the packet's class, meter colour, receive
stamp, parse record and completion status; and the sending member's tag where a send entry waits for TXDONE. -/
structure StkData where
  toHost : Bool
  queue : Nat
  cls : Option Nat
  yellow : Bool
  rx : StkStamp
  prec : List Nat
  status : Nat
  tag : Option Nat
  frame : List Byte
  deriving DecidableEq, Repr

/-- What a stack message carries (R438, R444, R446 to R448); `bad` is a reserved TYPE, a LEN above 14 or a nonzero reserved bit (R440). -/
inductive StkBody where
  | hello (h : StkHello)
  | pdelayReq
  | pdelayResp (turnaround : Nat)
  | assign (view : Nat) (ids : List (Nat × Nat))
  | time (stamp : Nat) (corr : Int) (bound state epoch : Nat)
  | lookupReq (tag kdef key : Nat)
  | lookupRsp (tag : Nat) (hit : Option (List Nat))
  | txdone (tag status : Nat) (tx : Option StkStamp)
  | data (d : StkData)
  | handover (heir : Nat)
  | bad
  deriving DecidableEq, Repr

/-- A stack message: its header (R437) and what it carries. -/
structure StkMsg where
  src : Nat
  dst : Nat
  bcast : Bool
  hops : Nat
  mgen : Nat
  lseq : Nat
  lack : Nat
  body : StkBody
  deriving DecidableEq, Repr
/-- A command of the device. Each constructor is the row of the opcode table that its docstring names, with the rule that gives its effect. -/
inductive Instr where
  /-- REGISTER_WRITE (R4). -/
  | registerWrite (m : Master) (off : Nat) (be : BitVec 4) (v : Word)
  /-- LATCHED_READ (R2). -/
  | latchedRead (m : Master) (off : Nat)
  /-- READ_CLEAR (R4). -/
  | readClear (m : Master) (off : Nat)
  /-- TKU_TIME_READ (R64). -/
  | tkuTimeRead (m : Master)
  /-- FN_TIME_READ (R535). -/
  | fnTimeRead (p : Fin 2) (f : Fin 514)
  /-- TREC_READ (R83). -/
  | trecRead (m : Master)
  /-- TOP_LOCK_SET (R537). -/
  | topLockSet (m : Master)
  /-- SCRUB_STEP (R33). -/
  | scrubStep (errs : Nat) (writePending : Bool) (owner : MemOwner)
  /-- SERVO_UPDATE (R60). -/
  | servoUpdate (m : Master) (v : Word)
  /-- LOCKREQ (R58). -/
  | lockreq (m : Master)
  /-- HOLDREQ (R58). -/
  | holdreq (m : Master)
  /-- UNTRACE (R58). -/
  | untrace (m : Master)
  /-- SRC_CHANGE (R58). -/
  | srcChange (m : Master) (src : BitVec 2) (srcport : BitVec 4)
  /-- SERVO_WATCHDOG (R59). -/
  | servoWatchdog
  /-- PPSI_TIMEOUT (R59). -/
  | ppsiTimeout
  /-- STACK_TIME_LOSS (R59). -/
  | stackTimeLoss
  /-- BOUND_RECOMPUTE (R61). -/
  | boundRecompute
  /-- BUS_MESSAGE_RECEIVE (R65). -/
  | busMessageReceive (i : Fin 80)
  /-- TKU_SET (R63). -/
  | tkuSet (m : Master)
  /-- TKU_STEP (R63). -/
  | tkuStep (m : Master)
  /-- ADJ_APPLY (R63). -/
  | adjApply
  /-- ADJ_BUSY_CLEAR (R63). -/
  | adjBusyClear
  /-- TKU_COMMIT (R84). -/
  | tkuCommit (m : Master)
  /-- PTP_RECEIVE (R67). -/
  | ptpReceive (n : Fin 16)
  /-- PTM_TRIG (R77). -/
  | ptmTrig (m : Master) (p : Fin 2)
  /-- PTM_PERIOD (R77). -/
  | ptmPeriod (p : Fin 2)
  /-- PTM_RESPONSED (R77). -/
  | ptmResponsed (p : Fin 2) (masterTime : DWord) (turnaround : Nat)
  /-- TKU_PTM_FAIL (R77). -/
  | tkuPtmFail (p : Fin 2)
  /-- PPSI_EDGE (R80). -/
  | ppsiEdge (rising : Bool) (width : Nat)
  /-- PPSO_EDGE (R81). -/
  | ppsoEdge
  /-- QUADMODE_WRITE (R87). -/
  | quadmodeWrite (m : Master) (q : Fin 4) (mode : BitVec 3)
  /-- PORT_START (R98). -/
  | portStart (m : Master) (n : Fin 16)
  /-- PORT_STOP (R98). -/
  | portStop (m : Master) (n : Fin 16)
  /-- PORT_STOPPED (R98). -/
  | portStopped (n : Fin 16)
  /-- MAC_LINK_UP (R91). -/
  | macLinkUp (n : Fin 16)
  /-- MAC_LINK_DOWN (R91). -/
  | macLinkDown (n : Fin 16) (receiving : Bool)
  /-- MAC_AN_FAIL (R89). -/
  | macAnFail (n : Fin 16)
  /-- MAC_FRAME_RECEIVE (R92). -/
  | macFrameReceive (n : Fin 16) (frame : List Byte) (fec : FecNote)
  /-- PAUSE_FRAME_RECEIVE (R102). -/
  | pauseFrameReceive (n : Fin 16) (frame : List Byte)
  /-- PAUSE_HOLD_EXPIRE (R102). -/
  | pauseHoldExpire (n : Fin 16) (k : Fin 9)
  /-- MAC_PAUSE_STORM (R103). -/
  | macPauseStorm (n : Fin 16) (k : Fin 9)
  /-- PAUSE_FRAME_SEND (R101). -/
  | pauseFrameSend (n : Fin 16)
  /-- PAUSE_REFRESH (R101). -/
  | pauseRefresh (n : Fin 16)
  /-- COUNTER_SNAPSHOT (R108). -/
  | counterSnapshot (m : Master) (n : Fin 16)
  /-- PIPELINE_PASS (R143). -/
  | pipelinePass (p : Fin 4)
  /-- LOOKUP_ANSWER (R156). -/
  | lookupAnswer (p : Fin 4)
  /-- CLS_LOOKUP_TMO (R144). -/
  | clsLookupTmo (p : Fin 4)
  /-- FRAG_EXPIRE (R120). -/
  | fragExpire (p : Fin 4) (way : Fin 8192)
  /-- PRS_COMMIT (R128). -/
  | prsCommit (m : Master)
  /-- PRS_BANK_SWITCH (R129). -/
  | prsBankSwitch (p : Fin 4)
  /-- PRS_REFILL_DONE (R129). -/
  | prsRefillDone
  /-- RULE_SWAP (R146). -/
  | ruleSwap (m : Master)
  /-- CLS_SWAP_DONE (R146). -/
  | clsSwapDone
  /-- SWAP_DRAIN_DONE (R146). -/
  | swapDrainDone
  /-- EPOCH_HOLD_REVOKE (R146). -/
  | epochHoldRevoke
  /-- WRITE_RULE (R148). -/
  | writeRule (m : Master) (b : Fin 2) (i : BitVec 17)
  /-- READ_RULE (R148). -/
  | readRule (m : Master) (b : Fin 2) (i : BitVec 17)
  /-- WRITE_ALIST (R148). -/
  | writeAlist (m : Master) (b : Fin 2) (i : BitVec 17)
  /-- READ_ALIST (R148). -/
  | readAlist (m : Master) (b : Fin 2) (i : BitVec 17)
  /-- COPY_BANK (R148). -/
  | copyBank (m : Master) (b : Fin 2) (i : BitVec 17)
  /-- CLEAR_BANK (R148). -/
  | clearBank (m : Master) (b : Fin 2) (i : BitVec 17)
  /-- TBL_COMMIT (R152). -/
  | tblCommit (m : Master)
  /-- TBL_INSERT (R158). -/
  | tblInsert (m : Master) (c : Fin 4)
  /-- TBL_UPDATE (R171). -/
  | tblUpdate (m : Master) (c : Fin 4)
  /-- TBL_DELETE (R171). -/
  | tblDelete (m : Master) (c : Fin 4)
  /-- TBL_READ (R171). -/
  | tblRead (m : Master) (c : Fin 4)
  /-- READ_LOC (R171). -/
  | readLoc (m : Master) (c : Fin 4)
  /-- FLUSH_OWNER (R171). -/
  | flushOwner (m : Master) (c : Fin 4)
  /-- COMPACT (R171). -/
  | compact (m : Master) (c : Fin 4)
  /-- LPM_INSERT (R164). -/
  | lpmInsert (m : Master) (c : Fin 4)
  /-- LPM_UPDATE (R164). -/
  | lpmUpdate (m : Master) (c : Fin 4)
  /-- LPM_DELETE (R164). -/
  | lpmDelete (m : Master) (c : Fin 4)
  /-- LPM_READ (R171). -/
  | lpmRead (m : Master) (c : Fin 4)
  /-- MAC_WRITE (R171). -/
  | macWrite (m : Master) (c : Fin 4)
  /-- MAC_DELETE (R171). -/
  | macDelete (m : Master) (c : Fin 4)
  /-- MAC_READ (R171). -/
  | macRead (m : Master) (c : Fin 4)
  /-- MAC_FLUSH (R171). -/
  | macFlush (m : Master) (c : Fin 4)
  /-- LEARN_PROCESS (R166). -/
  | learnProcess (p : Fin 4)
  /-- AGE_SWEEP (R169). -/
  | ageSweep (running : Bool)
  /-- SHAPER_TICK (R186). -/
  | shaperTick
  /-- TMG_SELECT (R184). -/
  | tmgSelect (n : Fin 16)
  /-- LAUNCH_CALENDAR_ENTER (R194). -/
  | launchCalendarEnter (q : Fin 131072)
  /-- LAUNCH_INSTANT (R196). -/
  | launchInstant (n : Fin 16)
  /-- GATE_ENTRY_CHANGE (R189). -/
  | gateEntryChange (n : Fin 16)
  /-- GCL_COMMIT (R192). -/
  | gclCommit (m : Master) (n : Fin 16)
  /-- GCL_TAKE_EFFECT (R192). -/
  | gclTakeEffect (n : Fin 16)
  /-- SAMPLE_SWEEP (R198). -/
  | sampleSweep
  /-- WRITE_NODE (R200). -/
  | writeNode (m : Master) (kind : BitVec 3) (i : BitVec 18)
  /-- READ_NODE (R200). -/
  | readNode (m : Master) (kind : BitVec 3) (i : BitVec 18)
  /-- FLUSH_QUEUE (R200). -/
  | flushQueue (m : Master) (kind : BitVec 3) (i : BitVec 18)
  /-- WRITE_METER (R200). -/
  | writeMeter (m : Master) (kind : BitVec 3) (i : BitVec 18)
  /-- READ_METER (R200). -/
  | readMeter (m : Master) (kind : BitVec 3) (i : BitVec 18)
  /-- FRAME_TRANSMIT (R96). -/
  | frameTransmit (n : Fin 16) (sky : Option SkyFrame)
  /-- ORS_RELEASE (R213). -/
  | orsRelease (f : Fin 16384)
  /-- ORS_OPEN (R220). -/
  | orsOpen (m : Master) (i : Fin 16384)
  /-- ORS_MODIFY (R220). -/
  | orsModify (m : Master) (i : Fin 16384)
  /-- ORS_CLOSE (R220). -/
  | orsClose (m : Master) (i : Fin 16384)
  /-- ORS_READ (R220). -/
  | orsRead (m : Master) (i : Fin 16384)
  /-- ORS_DISABLE (R221). -/
  | orsDisable (m : Master)
  /-- MW4_REQUEST (R227). -/
  | mw4Request (p : Fin 2) (f : Fin 2) (o : Nat) (kind : Mw4Kind)
  /-- HP_COMMIT (R228). -/
  | hpCommit (m : Master) (p : Fin 2)
  /-- HP_COMMIT_BOUNDARY (R229). -/
  | hpCommitBoundary (p : Fin 2)
  /-- COMPLETION_RECEIVE (R232). -/
  | completionReceive (p : Fin 2) (tag : Nat) (f : Fin 514) (st : CplStatus) (poisoned : Bool) (data : List Byte)
  /-- HP_CPL_TIMEOUT (R233). -/
  | hpCplTimeout (p : Fin 2) (tag : Nat)
  /-- HP_PROTOCOL (R236). -/
  | hpProtocol (p : Fin 2) (err : LinkFatal) (retrain : Bool)
  /-- HP_LINK_CORR (R236). -/
  | hpLinkCorr (p : Fin 2) (err : LinkCorr)
  /-- HP_INTERNAL (R236). -/
  | hpInternal (p : Fin 2)
  /-- L1_ENTRY (R238). -/
  | l1Entry (p : Fin 2) (idle : Nat)
  /-- L0P_WIDTH_CHANGE (R238). -/
  | l0pWidthChange (p : Fin 2) (demand : Nat) (queued : Nat)
  /-- D3HOT_ENTRY (R239). -/
  | d3hotEntry (p : Fin 2) (f : Fin 514)
  /-- PME_TURN_OFF (R239). -/
  | pmeTurnOff (p : Fin 2)
  /-- PERST_ASSERT (R241). -/
  | perstAssert (p : Fin 2)
  /-- PERST_DEASSERT (R241). -/
  | perstDeassert (p : Fin 2)
  /-- HOT_RESET (R241). -/
  | hotReset (p : Fin 2)
  /-- HP_LINK_DOWN (R244). -/
  | hpLinkDown (p : Fin 2)
  /-- HP_LINK_UP (R244). -/
  | hpLinkUp (p : Fin 2) (speed : Fin 7) (width : Nat) (flit : Bool)
  /-- FLR_PF0 (R241). -/
  | flrPf0 (p : Fin 2)
  /-- FLR (R241). -/
  | flr (p : Fin 2) (f : Fin 514)
  /-- HP_RESET_DONE (R241). -/
  | hpResetDone (p : Fin 2)
  /-- BME_CLEAR (R242). -/
  | bmeClear (p : Fin 2) (f : Fin 514)
  /-- VF_DISABLE (R299). -/
  | vfDisable (p : Fin 2)
  /-- DOORBELL (R252). -/
  | doorbell (p : Fin 2) (f : Fin 514) (off : Nat) (be : BitVec 4) (v : Word)
  /-- CQ_DOORBELL (R253). -/
  | cqDoorbell (p : Fin 2) (f : Fin 514) (off : Nat) (be : BitVec 4) (v : Word)
  /-- RING_FETCH (R255). -/
  | ringFetch (g : Fin 131072)
  /-- FETCH_COMPLETE (R255). -/
  | fetchComplete (g : Fin 131072)
  /-- SEND_DISPATCH (R257). -/
  | sendDispatch (g : Fin 131072) (buffers : List (Option (List Byte)))
  /-- COAL_TIMER (R268). -/
  | coalTimer (g : Fin 131072)
  /-- QUEUE_DRAIN_DONE (R249). -/
  | queueDrainDone (g : Fin 131072)
  /-- QUEUE_STOP_TIMEOUT (R249). -/
  | queueStopTimeout (g : Fin 131072)
  /-- ADMIN_ENABLE (R271). -/
  | adminEnable (p : Fin 2) (f : Fin 514) (v : Word)
  /-- ADMIN_DISABLE (R271). -/
  | adminDisable (p : Fin 2) (f : Fin 514) (v : Word)
  /-- NOP (R274). -/
  | nop (g : Fin 131072)
  /-- CREATE_QUEUE (R275). -/
  | createQueue (g : Fin 131072)
  /-- DESTROY_QUEUE (R275). -/
  | destroyQueue (g : Fin 131072)
  /-- STOP_QUEUE (R275). -/
  | stopQueue (g : Fin 131072)
  /-- RESTART_QUEUE (R275). -/
  | restartQueue (g : Fin 131072)
  /-- QUERY_QUEUE (R276). -/
  | queryQueue (g : Fin 131072)
  /-- MODIFY_CQ (R275). -/
  | modifyCq (g : Fin 131072)
  /-- QMG_READ (R280). -/
  | qmgRead (m : Master) (index : BitVec 17)
  /-- QMG_HALT (R280). -/
  | qmgHalt (m : Master) (index : BitVec 17)
  /-- CREATE_TENANT (R289). -/
  | createTenant (g : Fin 131072)
  /-- DESTROY_TENANT (R291). -/
  | destroyTenant (g : Fin 131072)
  /-- TENANT_FREED (R291). -/
  | tenantFreed (t : Fin 1024)
  /-- MODIFY_TENANT (R290). -/
  | modifyTenant (g : Fin 131072)
  /-- QUERY_TENANT (R292). -/
  | queryTenant (g : Fin 131072)
  /-- ATTACH_VF (R293). -/
  | attachVf (g : Fin 131072)
  /-- DETACH_VF (R293). -/
  | detachVf (g : Fin 131072)
  /-- PURGE_QUEUES (R294). -/
  | purgeQueues (g : Fin 131072)
  /-- DIRTY_START (R301). -/
  | dirtyStart (g : Fin 131072)
  /-- DIRTY_STOP (R304). -/
  | dirtyStop (g : Fin 131072)
  /-- DIRTY_SYNC (R304). -/
  | dirtySync (g : Fin 131072)
  /-- DIRTY_CI_REREAD (R303). -/
  | dirtyCiReread (t : Fin 1024) (ci : Option Word)
  /-- QUIESCE (R305). -/
  | quiesce (g : Fin 131072)
  /-- QUIESCE_DONE (R305). -/
  | quiesceDone (t : Fin 1024)
  /-- FNM_QUIESCE_TMO (R305). -/
  | fnmQuiesceTmo (t : Fin 1024)
  /-- RESUME (R306). -/
  | resume (g : Fin 131072)
  /-- SAVE_STATE (R307). -/
  | saveState (g : Fin 131072)
  /-- RESTORE_STATE (R308). -/
  | restoreState (g : Fin 131072) (image : Option (List Byte))
  /-- ADD (R317). -/
  | add (t : Fin 8192) (rd : Fin 32) (ra : Fin 32) (rb : Fin 32)
  /-- SUB (R317). -/
  | sub (t : Fin 8192) (rd : Fin 32) (ra : Fin 32) (rb : Fin 32)
  /-- AND (R317). -/
  | and (t : Fin 8192) (rd : Fin 32) (ra : Fin 32) (rb : Fin 32)
  /-- OR (R317). -/
  | or (t : Fin 8192) (rd : Fin 32) (ra : Fin 32) (rb : Fin 32)
  /-- XOR (R317). -/
  | xor (t : Fin 8192) (rd : Fin 32) (ra : Fin 32) (rb : Fin 32)
  /-- SLL (R317). -/
  | sll (t : Fin 8192) (rd : Fin 32) (ra : Fin 32) (rb : Fin 32)
  /-- SRL (R317). -/
  | srl (t : Fin 8192) (rd : Fin 32) (ra : Fin 32) (rb : Fin 32)
  /-- SRA (R317). -/
  | sra (t : Fin 8192) (rd : Fin 32) (ra : Fin 32) (rb : Fin 32)
  /-- ROTL (R317). -/
  | rotl (t : Fin 8192) (rd : Fin 32) (ra : Fin 32) (rb : Fin 32)
  /-- MUL (R317). -/
  | mul (t : Fin 8192) (rd : Fin 32) (ra : Fin 32) (rb : Fin 32)
  /-- MULHU (R317). -/
  | mulhu (t : Fin 8192) (rd : Fin 32) (ra : Fin 32) (rb : Fin 32)
  /-- DIVU (R317). -/
  | divu (t : Fin 8192) (rd : Fin 32) (ra : Fin 32) (rb : Fin 32)
  /-- REMU (R317). -/
  | remu (t : Fin 8192) (rd : Fin 32) (ra : Fin 32) (rb : Fin 32)
  /-- SLTU (R317). -/
  | sltu (t : Fin 8192) (rd : Fin 32) (ra : Fin 32) (rb : Fin 32)
  /-- SLT (R317). -/
  | slt (t : Fin 8192) (rd : Fin 32) (ra : Fin 32) (rb : Fin 32)
  /-- CRC32C (R317). -/
  | crc32c (t : Fin 8192) (rd : Fin 32) (ra : Fin 32) (rb : Fin 32)
  /-- BSWAP (R317). -/
  | bswap (t : Fin 8192) (rd : Fin 32) (ra : Fin 32)
  /-- CLZ (R317). -/
  | clz (t : Fin 8192) (rd : Fin 32) (ra : Fin 32)
  /-- POPCNT (R317). -/
  | popcnt (t : Fin 8192) (rd : Fin 32) (ra : Fin 32)
  /-- ADDI (R316). -/
  | addi (t : Fin 8192) (rd : Fin 32) (ra : Fin 32) (imm : BitVec 16)
  /-- ANDI (R316). -/
  | andi (t : Fin 8192) (rd : Fin 32) (ra : Fin 32) (imm : BitVec 16)
  /-- ORI (R316). -/
  | ori (t : Fin 8192) (rd : Fin 32) (ra : Fin 32) (imm : BitVec 16)
  /-- XORI (R316). -/
  | xori (t : Fin 8192) (rd : Fin 32) (ra : Fin 32) (imm : BitVec 16)
  /-- SLLI (R316). -/
  | slli (t : Fin 8192) (rd : Fin 32) (ra : Fin 32) (sh : Fin 64)
  /-- SRLI (R316). -/
  | srli (t : Fin 8192) (rd : Fin 32) (ra : Fin 32) (sh : Fin 64)
  /-- SRAI (R316). -/
  | srai (t : Fin 8192) (rd : Fin 32) (ra : Fin 32) (sh : Fin 64)
  /-- SLTUI (R316). -/
  | sltui (t : Fin 8192) (rd : Fin 32) (ra : Fin 32) (imm : BitVec 16)
  /-- SLTI (R316). -/
  | slti (t : Fin 8192) (rd : Fin 32) (ra : Fin 32) (imm : BitVec 16)
  /-- PUTH0 (R316). -/
  | puth0 (t : Fin 8192) (rd : Fin 32) (ra : Fin 32) (imm : BitVec 16)
  /-- PUTH1 (R316). -/
  | puth1 (t : Fin 8192) (rd : Fin 32) (ra : Fin 32) (imm : BitVec 16)
  /-- PUTH2 (R316). -/
  | puth2 (t : Fin 8192) (rd : Fin 32) (ra : Fin 32) (imm : BitVec 16)
  /-- PUTH3 (R316). -/
  | puth3 (t : Fin 8192) (rd : Fin 32) (ra : Fin 32) (imm : BitVec 16)
  /-- LD8U (R318). -/
  | ld8u (t : Fin 8192) (rd : Fin 32) (ra : Fin 32) (imm : BitVec 16)
  /-- LD16U (R318). -/
  | ld16u (t : Fin 8192) (rd : Fin 32) (ra : Fin 32) (imm : BitVec 16)
  /-- LD32U (R320). -/
  | ld32u (t : Fin 8192) (rd : Fin 32) (ra : Fin 32) (imm : BitVec 16)
  /-- LD64 (R320). -/
  | ld64 (t : Fin 8192) (rd : Fin 32) (ra : Fin 32) (imm : BitVec 16)
  /-- LD8S (R318). -/
  | ld8s (t : Fin 8192) (rd : Fin 32) (ra : Fin 32) (imm : BitVec 16)
  /-- LD16S (R318). -/
  | ld16s (t : Fin 8192) (rd : Fin 32) (ra : Fin 32) (imm : BitVec 16)
  /-- LD32S (R318). -/
  | ld32s (t : Fin 8192) (rd : Fin 32) (ra : Fin 32) (imm : BitVec 16)
  /-- ST8 (R318). -/
  | st8 (t : Fin 8192) (rs : Fin 32) (ra : Fin 32) (imm : BitVec 16)
  /-- ST16 (R318). -/
  | st16 (t : Fin 8192) (rs : Fin 32) (ra : Fin 32) (imm : BitVec 16)
  /-- ST32 (R320). -/
  | st32 (t : Fin 8192) (rs : Fin 32) (ra : Fin 32) (imm : BitVec 16)
  /-- ST64 (R320). -/
  | st64 (t : Fin 8192) (rs : Fin 32) (ra : Fin 32) (imm : BitVec 16)
  /-- AMOADD (R324). -/
  | amoadd (t : Fin 8192) (rd : Fin 32) (ra : Fin 32) (rb : Fin 32)
  /-- AMOSWAP (R324). -/
  | amoswap (t : Fin 8192) (rd : Fin 32) (ra : Fin 32) (rb : Fin 32)
  /-- AMOCAS (R324). -/
  | amocas (t : Fin 8192) (rd : Fin 32) (ra : Fin 32) (rb : Fin 32)
  /-- AMOAND (R324). -/
  | amoand (t : Fin 8192) (rd : Fin 32) (ra : Fin 32) (rb : Fin 32)
  /-- AMOOR (R324). -/
  | amoor (t : Fin 8192) (rd : Fin 32) (ra : Fin 32) (rb : Fin 32)
  /-- BEQ (R316). -/
  | beq (t : Fin 8192) (ra : Fin 32) (rb : Fin 32) (off : BitVec 16)
  /-- BNE (R316). -/
  | bne (t : Fin 8192) (ra : Fin 32) (rb : Fin 32) (off : BitVec 16)
  /-- BLT (R316). -/
  | blt (t : Fin 8192) (ra : Fin 32) (rb : Fin 32) (off : BitVec 16)
  /-- BGE (R316). -/
  | bge (t : Fin 8192) (ra : Fin 32) (rb : Fin 32) (off : BitVec 16)
  /-- BLTU (R316). -/
  | bltu (t : Fin 8192) (ra : Fin 32) (rb : Fin 32) (off : BitVec 16)
  /-- BGEU (R316). -/
  | bgeu (t : Fin 8192) (ra : Fin 32) (rb : Fin 32) (off : BitVec 16)
  /-- J (R316). -/
  | j (t : Fin 8192) (off : BitVec 26)
  /-- JAL (R316). -/
  | jal (t : Fin 8192) (off : BitVec 26)
  /-- JALR (R316). -/
  | jalr (t : Fin 8192) (rd : Fin 32) (ra : Fin 32) (imm : BitVec 16)
  /-- FENCE (R323). -/
  | fence (t : Fin 8192)
  /-- TRAP (R330). -/
  | trap (t : Fin 8192) (imm : BitVec 16)
  /-- BRK (R354). -/
  | brk (t : Fin 8192) (imm : BitVec 16)
  /-- ILLEGAL (R330). -/
  | illegal (t : Fin 8192) (w : Word)
  /-- PCFAULT (R330). -/
  | pcfault (t : Fin 8192)
  /-- STAMP (R328). -/
  | stamp (t : Fin 8192) (rd : Fin 32)
  /-- CSRR (R327). -/
  | csrr (t : Fin 8192) (rd : Fin 32) (i : Fin 32)
  /-- TLOOK (R329). -/
  | tlook (t : Fin 8192) (rd : Fin 32) (ra : Fin 32) (rb : Fin 32)
  /-- TLOOK_ANSWER (R329). -/
  | tlookAnswer (t : Fin 8192)
  /-- TLOOK_TIMEOUT (R329). -/
  | tlookTimeout (t : Fin 8192)
  /-- CLAIM (R347). -/
  | claim (t : Fin 8192) (rd : Fin 32) (ra : Fin 32) (nowait : Bool)
  /-- CLAIM_GRANT (R349). -/
  | claimGrant (c : Fin 16384)
  /-- SEAL (R348). -/
  | seal (t : Fin 8192) (ra : Fin 32) (n : Fin 32)
  /-- CRECV (R349). -/
  | crecv (t : Fin 8192) (rd : Fin 32) (ra : Fin 32) (nowait : Bool)
  /-- CRECV_GRANT (R349). -/
  | crecvGrant (c : Fin 16384)
  /-- CFREE (R349). -/
  | cfree (t : Fin 8192) (ra : Fin 32)
  /-- EVSEND (R344). -/
  | evsend (t : Fin 8192) (ra : Fin 32) (e : Fin 32)
  /-- WAIT (R345). -/
  | wait (t : Fin 8192) (rd : Fin 32) (ra : Fin 32)
  /-- WAIT_WAKE (R345). -/
  | waitWake (t : Fin 8192)
  /-- FORK (R341). -/
  | fork (t : Fin 8192) (rd : Fin 32) (ra : Fin 32) (rb : Fin 32)
  /-- FORK_GRANT (R341). -/
  | forkGrant (w : Fin 64)
  /-- JOIN (R342). -/
  | join (t : Fin 8192) (rd : Fin 32) (ra : Fin 32)
  /-- JOIN_WAKE (R342). -/
  | joinWake (t : Fin 8192)
  /-- EXIT (R343). -/
  | exit (t : Fin 8192) (ra : Fin 32)
  /-- MOVE (R425). -/
  | move (t : Fin 8192) (rd : Fin 32) (ra : Fin 32) (rb : Fin 32)
  /-- MOVE_ACCEPT (R425). -/
  | moveAccept
  /-- BALLOC (R415). -/
  | balloc (t : Fin 8192) (rd : Fin 32) (ra : Fin 32)
  /-- BALLOC_GRANT (R415). -/
  | ballocGrant (t : Fin 8192)
  /-- BALLOC_TIMEOUT (R415). -/
  | ballocTimeout (t : Fin 8192)
  /-- BFREE (R417). -/
  | bfree (t : Fin 8192) (ra : Fin 32)
  /-- PRET (R353). -/
  | pret (t : Fin 8192) (ra : Fin 32) (rb : Fin 32)
  /-- PSEND (R353). -/
  | psend (t : Fin 8192) (ra : Fin 32) (rb : Fin 32)
  /-- RETURN_QUEUE_ACCEPT (R353). -/
  | returnQueueAccept (p : Fin 4)
  /-- SWARD_RUN (R339). -/
  | swardRun (m : Master) (w : Fin 64)
  /-- SWARD_HOLD (R334). -/
  | swardHold (m : Master) (w : Fin 64)
  /-- SWARD_STOPPED (R334). -/
  | swardStopped (w : Fin 64)
  /-- ICINV (R333). -/
  | icinv (m : Master) (w : Fin 64)
  /-- ICINV_DONE (R333). -/
  | icinvDone (w : Fin 64)
  /-- THREAD_HALT (R354). -/
  | threadHalt (m : Master) (t : Fin 8192)
  /-- THREAD_RESUME (R354). -/
  | threadResume (m : Master) (t : Fin 8192)
  /-- THREAD_STEP (R354). -/
  | threadStep (m : Master) (t : Fin 8192)
  /-- THREAD_KILL (R354). -/
  | threadKill (m : Master) (t : Fin 8192)
  /-- ENG_CHAN_HELD (R351). -/
  | engChanHeld (c : Fin 16384) (k : Fin 16)
  /-- ENG_WAIT_CYCLE (R357). -/
  | engWaitCycle (w : Fin 64)
  /-- SKYQ_POP (R359). -/
  | skyqPop (m : Master)
  /-- CREATE_SA (R365). -/
  | createSa (g : Fin 131072) (block : Option (List Byte))
  /-- DESTROY_SA (R368). -/
  | destroySa (g : Fin 131072)
  /-- QUERY_SA (R377). -/
  | querySa (g : Fin 131072)
  /-- UPDATE_SA (R378). -/
  | updateSa (g : Fin 131072)
  /-- CREATE_XPT (R383). -/
  | createXpt (g : Fin 131072) (block : Option (List Byte))
  /-- DESTROY_XPT (R385). -/
  | destroyXpt (g : Fin 131072)
  /-- QUERY_XPT (R401). -/
  | queryXpt (g : Fin 131072)
  /-- MODIFY_XPT (R386). -/
  | modifyXpt (g : Fin 131072)
  /-- XPT_RECEIVE (R387). -/
  | xptReceive (host : List (Option (List Byte)))
  /-- WORK_REQUEST (R389). -/
  | workRequest (g : Fin 131072) (host : Option (List Byte))
  /-- ACK_TIMEOUT (R393). -/
  | ackTimeout (i : Fin 1048576)
  /-- RNR_WAIT_EXPIRE (R393). -/
  | rnrWaitExpire (i : Fin 1048576)
  /-- ACK_DEADLINE (R394). -/
  | ackDeadline (i : Fin 1048576)
  /-- RATE_INCREASE (R395). -/
  | rateIncrease (i : Fin 1048576)
  /-- TCP_RTO (R396). -/
  | tcpRto (i : Fin 1048576)
  /-- TCP_DELAYED_ACK (R396). -/
  | tcpDelayedAck (i : Fin 1048576)
  /-- BURST_START (R426). -/
  | burstStart (c : Fin 224)
  /-- BURST_COMPLETE (R430). -/
  | burstComplete (line : Fin 128) (data : Option (List Byte))
  /-- MOV_COMMIT (R423). -/
  | movCommit (m : Master) (c : Fin 256)
  /-- MOV_COMMIT_APPLY (R423). -/
  | movCommitApply
  /-- HELLO_SEND (R438). -/
  | helloSend (l : Fin 2)
  /-- HELLO_RECEIVE (R439). -/
  | helloReceive (l : Fin 2) (msg : StkMsg) (crcOk : Bool)
  /-- STK_LINK_UP (R436). -/
  | stkLinkUp (l : Fin 2)
  /-- STK_LINK_DOWN (R436). -/
  | stkLinkDown (l : Fin 2) (alignLost : Bool)
  /-- LINK_REPLAY (R439). -/
  | linkReplay (l : Fin 2)
  /-- CONTROL_MESSAGE_RECEIVE (R440). -/
  | controlMessageReceive (l : Fin 2) (msg : StkMsg) (crcOk : Bool)
  /-- PDELAY_REQ (R444). -/
  | pdelayReq (l : Fin 2)
  /-- PDELAY_RESP (R444). -/
  | pdelayResp
  /-- ASSIGN_SEND (R441). -/
  | assignSend (present : List (Nat × Nat))
  /-- ASSIGN (R441). -/
  | assign
  /-- TIME_SEND (R444). -/
  | timeSend
  /-- TIME (R445). -/
  | time
  /-- LOOKUP_REQ (R447). -/
  | lookupReq
  /-- LOOKUP_RSP (R170). -/
  | lookupRsp
  /-- TXDONE (R446). -/
  | txdone
  /-- DATA (R448). -/
  | data (l : Fin 2) (msg : StkMsg) (fcsOk : Bool)
  /-- HANDOVER_WRITE (R443). -/
  | handoverWrite (m : Master)
  /-- HANDOVER (R443). -/
  | handover
  /-- SUCCESSION_TIMEOUT (R442). -/
  | successionTimeout (reach : BitVec 4)
  /-- ELECTION (R441). -/
  | election (others : List (Nat × Nat))
  /-- MASTER_WAIT_TIMEOUT (R441). -/
  | masterWaitTimeout (reach : BitVec 4)
  /-- REPORT (R451). -/
  | report
  /-- RECORD_WRITE (R466). -/
  | recordWrite
  /-- MIRROR_CI_REREAD (R470). -/
  | mirrorCiReread (p : Fin 2) (ci : Option Word)
  /-- KEEP_PROGRAM (R468). -/
  | keepProgram (ok : Bool)
  /-- LADDER_DONE (R454). -/
  | ladderDone (m : Master) (level : Fin 5) (token : BitVec 16)
  /-- STORM_WINDOW_END (R460). -/
  | stormWindowEnd
  /-- DECLARATION_CLEAR (R461). -/
  | declarationClear (m : Master) (i : Fin 64)
  /-- KEEPACK (R469). -/
  | keepack (m : Master) (v : Word)
  /-- RECORD_READ (R471). -/
  | recordRead (m : Master) (area : BitVec 2)
  /-- CLOCK_SWITCH (R481). -/
  | clockSwitch (m : Master) (i : Fin 80) (src : Fin 2)
  /-- CGU_SWITCH_FORCED (R482). -/
  | cguSwitchForced (i : Fin 80)
  /-- SWITCH_RESTART (R481). -/
  | switchRestart (i : Fin 80) (lost : Nat)
  /-- ISLAND_STOP_REQUEST (R480). -/
  | islandStopRequest (m : Master) (i : Fin 80) (stop : Bool)
  /-- CGU_PLL_UNLOCK (R483). -/
  | cguPllUnlock (k : Fin 13) (alive : Bool)
  /-- PLL_RETRY (R483). -/
  | pllRetry (k : Fin 13)
  /-- CGU_PLL_RELOCK (R483). -/
  | cguPllRelock (k : Fin 13)
  /-- CGU_REF_FAIL (R485). -/
  | cguRefFail
  /-- REF_RECOVER (R486). -/
  | refRecover (n : Word)
  /-- BLOCK_ENABLE (R487). -/
  | blockEnable (m : Master) (b : BitVec 8)
  /-- BLOCK_ACTIVE (R487). -/
  | blockActive (b : BitVec 8)
  /-- BLOCK_GATE (R487). -/
  | blockGate (m : Master) (b : BitVec 8)
  /-- POWER_ON_RESET (R492). -/
  | powerOnReset (bootsel : BitVec 2) (stackid : BitVec 2) (stable : Option Word)
  /-- PORN_FALL (R547). -/
  | pornFall
  /-- WARM_RESET (R489). -/
  | warmReset (m : Option Master)
  /-- MANAGEMENT_RESET (R489). -/
  | managementReset (m : Master)
  /-- RST_MGT_WDOG (R497). -/
  | rstMgtWdog
  /-- MGT_WDOG_KICK (R497). -/
  | mgtWdogKick (m : Master)
  /-- BLOCK_RESET_MAC (R491). -/
  | blockResetMac (m : Master) (inst : BitVec 6)
  /-- BLOCK_RESET_ENG (R491). -/
  | blockResetEng (m : Master) (inst : BitVec 6)
  /-- BLOCK_RESET_CRY (R491). -/
  | blockResetCry (m : Master) (inst : BitVec 6)
  /-- BLOCK_RESET_XPT (R491). -/
  | blockResetXpt (m : Master) (inst : BitVec 6)
  /-- BLOCK_RESET_ORS (R491). -/
  | blockResetOrs (m : Master) (inst : BitVec 6)
  /-- BLOCK_RESET_STK (R491). -/
  | blockResetStk (m : Master) (inst : BitVec 6)
  /-- BLOCK_RESET_DONE (R491). -/
  | blockResetDone
  /-- THERMAL_SAMPLE (R495). -/
  | thermalSample (temps : List (BitVec 16))
  /-- RST_THERMTRIP (R495). -/
  | rstThermtrip
  /-- AGE_MINUTE (R556). -/
  | ageMinute
  /-- ROM_BOOT (R505). -/
  | romBoot (fails : List (Nat × Nat × Nat))
  /-- FIRMWARE_BOOT (R507). -/
  | firmwareBoot (fails : List (Nat × Nat × Nat)) (blocks : List (Fin 256))
  /-- CFS_OPEN (R513). -/
  | cfsOpen (m : Master)
  /-- CFS_WRITE (R513). -/
  | cfsWrite (m : Master)
  /-- CFS_CLOSE (R513). -/
  | cfsClose (m : Master)
  /-- CFS_ABORT (R513). -/
  | cfsAbort (m : Master)
  /-- CFS_READ (R513). -/
  | cfsRead (m : Master)
  /-- BURNSVN (R513). -/
  | burnsvn (m : Master)
  /-- WARMREQ (R511). -/
  | warmreq (m : Master)
  /-- MCTP_PACKET_RECEIVE (R521). -/
  | mctpPacketReceive (b : Fin 3) (src : BitVec 16) (pkt : List Byte) (pecOk : Bool)
  /-- SET_ENDPOINT_ID (R521). -/
  | setEndpointId
  /-- GET_ENDPOINT_ID (R521). -/
  | getEndpointId
  /-- GET_ENDPOINT_UUID (R521). -/
  | getEndpointUuid
  /-- GET_MCTP_VERSION_SUPPORT (R521). -/
  | getMctpVersionSupport
  /-- GET_MESSAGE_TYPE_SUPPORT (R521). -/
  | getMessageTypeSupport
  /-- GET_VENDOR_DEFINED_MESSAGE_SUPPORT (R521). -/
  | getVendorDefinedMessageSupport
  /-- GET_IDENTITY (R524). -/
  | getIdentity
  /-- GET_HEALTH (R524). -/
  | getHealth
  /-- REG_READ (R525). -/
  | regRead
  /-- REG_WRITE (R525). -/
  | regWrite
  /-- READ_RECORDS (R524). -/
  | readRecords
  /-- ACK_KEEP (R524). -/
  | ackKeep
  /-- FLT_DONE (R524). -/
  | fltDone
  /-- CFS_OP (R526). -/
  | cfsOp
  /-- WARM_RESET_CMD (R524). -/
  | warmResetCmd
  /-- TIME_GET (R524). -/
  | timeGet
  /-- TIME_ADJ (R524). -/
  | timeAdj
  /-- SET_MASTERS (R524). -/
  | setMasters
  /-- SET_NET (R524). -/
  | setNet
  /-- ALERT_RESPONSE (R522). -/
  | alertResponse
  /-- MGT_SMB_TIMEOUT (R522). -/
  | mgtSmbTimeout
  /-- PHY_POLL (R527). -/
  | phyPoll (speed : Fin 3) (full : Bool) (up : Bool)
  /-- MGE_FRAME_RECEIVE (R527). -/
  | mgeFrameReceive (frame : List Byte)
  /-- MGE_FRAME_TRANSMIT (R529). -/
  | mgeFrameTransmit (idle : Nat)
  /-- MGE_COLLISION (R529). -/
  | mgeCollision (bit : Nat)
  /-- BACKOFF_EXPIRE (R529). -/
  | backoffExpire
  /-- MGE_STOP (R530). -/
  | mgeStop (m : Master)
  /-- MDIO_FRAME (R530). -/
  | mdioFrame (m : Master) (v : Word)
  /-- MDIO_DONE (R530). -/
  | mdioDone (data : BitVec 16)
  /-- PAUSE_WATCHDOG_END (R103). -/
  | pauseWatchdogEnd (n : Fin 16) (k : Fin 9)
  /-- PPSO_PULSE_END (R81). -/
  | ppsoPulseEnd
  /-- FOLLOW_UP_TIMEOUT (R73). -/
  | followUpTimeout (n : Fin 16)
  /-- COPY_BANK_DONE (R148). -/
  | copyBankDone
  /-- CFS_COMMAND_DONE (R515). -/
  | cfsCommandDone (ok : Bool)
  /-- RATE_PACED_SEND (R395). -/
  | ratePacedSend (i : Fin 1048576)
  /-- MGE_FRAME_END (R529). -/
  | mgeFrameEnd
  /-- L1_EXIT (R238). -/
  | l1Exit (p : Fin 2)
  /-- CONFIG_WRITE (R239). -/
  | configWrite (p : Fin 2) (f : Fin 514) (w : CfgField)
  /-- GATED_READ (R488). -/
  | gatedRead (m : Master) (off : Nat)
  deriving DecidableEq, Repr

end Sys2Proof
end

