-- ==== Sys2Proof/Machine/RegNames.lean ====
section
/-! DEFINITION. The MW0 offset of every register of the register map (R540 and the register tables of each chapter), under the
register's name, and the place of every named field. A register of a function page (R533) has the key
0x1_0000_0000 + 0x400_0000 * port + 0x1_0000 * function + page offset. -/

namespace Sys2Proof.Machine

/-- A field of a register: the register's offset, its lowest bit and its width. -/
structure Fld where
  reg : Nat
  lo : Nat
  width : Nat
  deriving DecidableEq, Repr

namespace R
def TOP_IDENT : Nat := 0x0
def TOP_REV : Nat := 0x4
def TOP_SERIAL : Nat := 0x8
def TOP_BOARD : Nat := 0x10
def TOP_PIPEMAP : Nat := 0x100
def TOP_MASTERS : Nat := 0x104
def TOP_LOCK : Nat := 0x108
def CGU_COMPAT : Nat := 0x100000
def CGU_REFSTAT : Nat := 0x100004
def CGU_REFCOUNT : Nat := 0x100008
def CGU_PLLSTAT : Nat := 0x10000c
def CGU_GPIOSAFE : Nat := 0x100010
def CGU_CLKEN (i : Nat) : Nat := 0x100100 + 0x4 * i
def CGU_ISL (i : Nat) : Nat := 0x100800 + 0x8 * i
def CGU_SWITCHES (i : Nat) : Nat := 0x100804 + 0x8 * i
def RST_CTL : Nat := 0x200000
def RST_STATE : Nat := 0x200004
def RST_BLK : Nat := 0x200010
def RST_MGTWDOG : Nat := 0x200014
def RST_THERM : Nat := 0x200020
def RST_TEMP (i : Nat) : Nat := 0x200040 + 0x4 * i
def TKU_STATE : Nat := 0x300000
def TKU_CTRL : Nat := 0x300004
def TKU_BUSCFG : Nat := 0x300008
def TKU_TIMEINFO : Nat := 0x30000c
def TKU_TIME : Nat := 0x300010
def TKU_ADJUNC : Nat := 0x30001c
def TKU_ADJCMD : Nat := 0x300020
def TKU_ADJVAL : Nat := 0x300024
def TKU_FREQ : Nat := 0x300030
def TKU_SRVUNC : Nat := 0x300034
def TKU_SRCACC : Nat := 0x300038
def TKU_ASYMUNC : Nat := 0x30003c
def TKU_FRQUNC : Nat := 0x300040
def TKU_DRIFT : Nat := 0x300044
def TKU_HOLDCFG : Nat := 0x300048
def TKU_LOCKTHR : Nat := 0x30004c
def TKU_OFFSET : Nat := 0x300050
def TKU_STKUNC : Nat := 0x300058
def TKU_COMMIT : Nat := 0x30005c
def TKU_PPSICFG : Nat := 0x300060
def TKU_PPSISTAMP : Nat := 0x300064
def TKU_PPSOCFG : Nat := 0x300070
def TKU_PPSOCAL : Nat := 0x300074
def TKU_PPSOSTAMP : Nat := 0x300078
def TKU_PPSSTAT : Nat := 0x300084
def TKU_PTPDROP : Nat := 0x300088
def TKU_PTMCTL (i : Nat) : Nat := 0x300100 + 0x40 * i
def TKU_PTMDEV (i : Nat) : Nat := 0x300104 + 0x40 * i
def TKU_PTMHOST (i : Nat) : Nat := 0x300110 + 0x40 * i
def TKU_PTMDLY (i : Nat) : Nat := 0x300118 + 0x40 * i
def TKU_TREC : Nat := 0x300200
def TKU_TRECSH : Nat := 0x300240
def TKU_PTPCFG (i : Nat) : Nat := 0x300300 + 0x4 * i
def TKU_ASYM (i : Nat) : Nat := 0x300340 + 0x4 * i
def TKU_PDELAY (i : Nat) : Nat := 0x300380 + 0x4 * i
def TKU_CALRX (i : Nat) : Nat := 0x300400 + 0x8 * i
def TKU_CALTX (i : Nat) : Nat := 0x300404 + 0x8 * i
def TKU_ISLDLY (i : Nat) : Nat := 0x300800 + 0x8 * i
def TKU_ISLUNC (i : Nat) : Nat := 0x300804 + 0x8 * i
def TKU_ISLSTAT (i : Nat) : Nat := 0x300c00 + 0x4 * i
def EVR_CFG : Nat := 0x400000
def EVR_CIRCBASE : Nat := 0x400008
def EVR_CIRCLOG2 : Nat := 0x400010
def EVR_CIRCPI : Nat := 0x400014
def EVR_KEEPSTAT : Nat := 0x400018
def EVR_KEEPACK : Nat := 0x40001c
def EVR_MIRROR (i : Nat) : Nat := 0x400040 + 0x20 * i
def EVR_MIRRORBASE (i : Nat) : Nat := 0x400048 + 0x20 * i
def EVR_RCMD : Nat := 0x400100
def EVR_RINDEX : Nat := 0x400104
def EVR_RDATA (i : Nat) : Nat := 0x400140 + 0x4 * i
def EVR_RL (i : Nat) : Nat := 0x401000 + 0x4 * i
def EVR_RLCODE (i : Nat) : Nat := 0x402000 + 0x8 * i
def EVR_RLCODE1 (i : Nat) : Nat := 0x402004 + 0x8 * i
def EVR_CNT (i : Nat) : Nat := 0x403000 + 0x8 * i
def FLT_NOTIFY : Nat := 0x500000
def FLT_STATUS : Nat := 0x500004
def FLT_STORM : Nat := 0x500008
def FLT_LVLCTL (i : Nat) : Nat := 0x500100 + 0x100 * i
def FLT_LVLOVF (i : Nat) : Nat := 0x500104 + 0x100 * i
def FLT_FIRST (i : Nat) (j : Nat) : Nat := 0x500140 + 0x100 * i + 0x4 * j
def FLT_NEXT (i : Nat) (j : Nat) : Nat := 0x500180 + 0x100 * i + 0x4 * j
def FLT_FAULTED (i : Nat) : Nat := 0x501000 + 0x4 * i
def FLT_CNT (i : Nat) : Nat := 0x502000 + 0x8 * i
def HP_LINKCFG (i : Nat) : Nat := 0x1000000 + 0x100000 * i
def HP_STATUS (i : Nat) : Nat := 0x1000004 + 0x100000 * i
def HP_PMCFG (i : Nat) : Nat := 0x1000008 + 0x100000 * i
def HP_CPLTO (i : Nat) : Nat := 0x100000c + 0x100000 * i
def HP_COMMIT (i : Nat) : Nat := 0x1000010 + 0x100000 * i
def HP_CNT (i : Nat) (j : Nat) : Nat := 0x1000100 + 0x100000 * i + 0x8 * j
def HP_IBW (i : Nat) (j : Nat) (k : Nat) : Nat := 0x1001000 + 0x100000 * i + 0x200 * j + 0x20 * k
def HP_IBWBASE (i : Nat) (j : Nat) (k : Nat) : Nat := 0x1001008 + 0x100000 * i + 0x200 * j + 0x20 * k
def HP_WAKE (i : Nat) (j : Nat) : Nat := 0x1002000 + 0x100000 * i + 0x10 * j
def HP_WAKEADDR (i : Nat) (j : Nat) : Nat := 0x1002008 + 0x100000 * i + 0x10 * j
def FNM_POOL (i : Nat) (j : Nat) : Nat := 0x2000000 + 0x40 * i + 0x4 * j
def FNM_POOLUSE (i : Nat) (j : Nat) : Nat := 0x2000020 + 0x40 * i + 0x4 * j
def FNM_VFTEN (i : Nat) (j : Nat) : Nat := 0x2001000 + 0x800 * i + 0x4 * j
def FNM_TSTAT (i : Nat) : Nat := 0x2002000 + 0x4 * i
def FNM_TCNT (i : Nat) (j : Nat) : Nat := 0x2010000 + 0x40 * i + 0x8 * j
def QMG_TRACECFG : Nat := 0x3000000
def QMG_QCMD : Nat := 0x3000010
def QMG_QDATA (i : Nat) : Nat := 0x3000040 + 0x4 * i
def QMG_CNT (i : Nat) (j : Nat) : Nat := 0x3001000 + 0x100 * i + 0x8 * j
def MOV_COMMIT : Nat := 0x4000000
def MOV_LINES : Nat := 0x4000004
def MOV_CH (i : Nat) : Nat := 0x4001000 + 0x40 * i
def MOV_CHHBASE (i : Nat) : Nat := 0x4001008 + 0x40 * i
def MOV_CHHLOG (i : Nat) : Nat := 0x4001010 + 0x40 * i
def MOV_CHDBASE (i : Nat) : Nat := 0x4001018 + 0x40 * i
def MOV_CHDLOG (i : Nat) : Nat := 0x4001020 + 0x40 * i
def MOV_CHSTAT (i : Nat) : Nat := 0x4001028 + 0x40 * i
def MOV_CNT (i : Nat) (j : Nat) : Nat := 0x4010000 + 0x40 * i + 0x8 * j
def BPM_CFG : Nat := 0x5000000
def BPM_HBMBASE : Nat := 0x5000008
def BPM_HBMSIZE : Nat := 0x5000010
def BPM_CHIPCNT (i : Nat) : Nat := 0x5000100 + 0x20 * i
def BPM_HBMCNT (i : Nat) : Nat := 0x5000104 + 0x20 * i
def BPM_CHIPBASE (i : Nat) : Nat := 0x5000108 + 0x20 * i
def BPM_CHIPFREE (i : Nat) : Nat := 0x500010c + 0x20 * i
def BPM_HBMOFF (i : Nat) : Nat := 0x5000110 + 0x20 * i
def BPM_HBMFREE (i : Nat) : Nat := 0x5000118 + 0x20 * i
def BPM_CNT (i : Nat) : Nat := 0x5001000 + 0x8 * i
def BPM_QUOTA (i : Nat) : Nat := 0x5004000 + 0x8 * i
def BPM_QUOTAUSE (i : Nat) : Nat := 0x5004004 + 0x8 * i
def BPM_SWGRP (i : Nat) : Nat := 0x5008000 + 0x4 * i
def MAC_QUADMODE (i : Nat) : Nat := 0x6000000 + 0x4 * i
def MAC_LANECFG (i : Nat) : Nat := 0x6000040 + 0x4 * i
def MAC_PORTCFG (i : Nat) : Nat := 0x6001000 + 0x100 * i
def MAC_STATUS (i : Nat) : Nat := 0x6001004 + 0x100 * i
def MAC_FCCFG (i : Nat) : Nat := 0x6001008 + 0x100 * i
def MAC_PAUSE (i : Nat) : Nat := 0x600100c + 0x100 * i
def MAC_RXBUF (i : Nat) : Nat := 0x6001010 + 0x100 * i
def MAC_XTHR (i : Nat) (j : Nat) : Nat := 0x6001020 + 0x100 * i + 0x4 * j
def MAC_ADDR (i : Nat) : Nat := 0x6001040 + 0x100 * i
def MAC_CNTSNAP (i : Nat) : Nat := 0x6001048 + 0x100 * i
def MAC_CNTHALF (i : Nat) (j : Nat) : Nat := 0x6001050 + 0x100 * i + 0x4 * j
def MAC_CNT (i : Nat) (j : Nat) : Nat := 0x6010000 + 0x400 * i + 0x8 * j
def MGE_CFG : Nat := 0x6100000
def MGE_STATUS : Nat := 0x6100004
def MGE_ADDR : Nat := 0x6100008
def MGE_MDIO : Nat := 0x6100010
def MGE_CNT (i : Nat) : Nat := 0x6100100 + 0x8 * i
def PRS_COMMIT : Nat := 0x7000000
def PRS_HKEY : Nat := 0x7000004
def PRS_SPREADKEY : Nat := 0x7000008
def PRS_FRAGCFG : Nat := 0x7000010
def PRS_PORTPROF (i : Nat) : Nat := 0x7000040 + 0x4 * i
def PRS_PROF (i : Nat) : Nat := 0x7001000 + 0x20 * i
def PRS_FSEL (i : Nat) : Nat := 0x7002000 + 0x4 * i
def PRS_NODE (i : Nat) : Nat := 0x7010000 + 0x10 * i
def PRS_TRANS (i : Nat) : Nat := 0x7011000 + 0x4 * i
def PRS_CNT (i : Nat) (j : Nat) : Nat := 0x7020000 + 0x100 * i + 0x8 * j
def PRS_ITAB (i : Nat) (j : Nat) : Nat := 0x7080000 + 0x800 * i + 0x4 * j
def CLS_RULESWAP : Nat := 0x7100000
def CLS_SWAPSTAMP : Nat := 0x7100008
def CLS_SWAPINFO : Nat := 0x7100010
def CLS_SWAPSEQ : Nat := 0x7100014
def CLS_INFLIGHT : Nat := 0x7100018
def CLS_HELD : Nat := 0x710001c
def CLS_EPOCHCFG : Nat := 0x7100020
def CLS_TTLDEST : Nat := 0x7100024
def CLS_RCMD : Nat := 0x7100100
def CLS_RDATA (i : Nat) : Nat := 0x7100140 + 0x4 * i
def CLS_MIRROR (i : Nat) : Nat := 0x7100200 + 0x8 * i
def CLS_CNT (i : Nat) (j : Nat) : Nat := 0x7101000 + 0x100 * i + 0x8 * j
def CLS_KEYTPL (i : Nat) (j : Nat) (k : Nat) : Nat := 0x7110000 + 0x1000 * i + 0x40 * j + 0x4 * k
def CLS_GRPDEF (i : Nat) (j : Nat) : Nat := 0x7112000 + 0x100 * i + 0x4 * j
def CLS_PUSHTPL (i : Nat) (j : Nat) (k : Nat) : Nat := 0x7120000 + 0x8000 * i + 0x80 * j + 0x4 * k
def CLS_PUSHCTL (i : Nat) (j : Nat) : Nat := 0x7120040 + 0x8000 * i + 0x80 * j
def TBL_HCFG : Nat := 0x8000000
def TBL_HKEY1 : Nat := 0x8000004
def TBL_HKEY2 : Nat := 0x8000008
def TBL_MKEY : Nat := 0x800000c
def TBL_AGECFG : Nat := 0x8000010
def TBL_HSTAT : Nat := 0x8000014
def TBL_OVFSTAT : Nat := 0x8000018
def TBL_LPMSTAT : Nat := 0x800001c
def TBL_NOTIFY : Nat := 0x8000020
def TBL_COMMIT : Nat := 0x8000024
def TBL_MLCFG (i : Nat) : Nat := 0x8000040 + 0x4 * i
def TBL_CMD (i : Nat) : Nat := 0x8001000 + 0x100 * i
def TBL_CSTAMP (i : Nat) : Nat := 0x8001008 + 0x100 * i
def TBL_CINFO (i : Nat) : Nat := 0x8001010 + 0x100 * i
def TBL_CSEQ (i : Nat) : Nat := 0x8001014 + 0x100 * i
def TBL_CDATA (i : Nat) (j : Nat) : Nat := 0x8001040 + 0x100 * i + 0x4 * j
def TBL_CNT (i : Nat) : Nat := 0x8002000 + 0x8 * i
def TBL_MCNT (i : Nat) (j : Nat) : Nat := 0x8002200 + 0x40 * i + 0x8 * j
def TBL_KDEF (i : Nat) : Nat := 0x8010000 + 0x80 * i
def TBL_KDEFCTL (i : Nat) : Nat := 0x8010040 + 0x80 * i
def TBL_MLTARGET (i : Nat) : Nat := 0x8020000 + 0x8 * i
def TBL_OWNER (i : Nat) : Nat := 0x8030000 + 0x8 * i
def ORS_CFG : Nat := 0x8800000
def ORS_PORTEN : Nat := 0x8800004
def ORS_TXFILL : Nat := 0x8800008
def ORS_STAT : Nat := 0x880000c
def ORS_FCMD : Nat := 0x8800100
def ORS_FDATA (i : Nat) : Nat := 0x8800140 + 0x4 * i
def ORS_CNT (i : Nat) : Nat := 0x8801000 + 0x8 * i
def TMG_NCMD : Nat := 0x9000000
def TMG_NDATA (i : Nat) : Nat := 0x9000040 + 0x4 * i
def TMG_LTCFG : Nat := 0x9000080
def TMG_LTLEAD : Nat := 0x9000084
def TMG_SAMPCFG : Nat := 0x9000088
def TMG_SAMPPER : Nat := 0x900008c
def TMG_SAMPCNT : Nat := 0x9000090
def TMG_PORTCFG (i : Nat) : Nat := 0x9001000 + 0x100 * i
def TMG_GCLCTL (i : Nat) : Nat := 0x9001004 + 0x100 * i
def TMG_GCLCOUNT (i : Nat) : Nat := 0x9001008 + 0x100 * i
def TMG_GCLCYCLE (i : Nat) : Nat := 0x900100c + 0x100 * i
def TMG_GCLBASE (i : Nat) : Nat := 0x9001010 + 0x100 * i
def TMG_GCLCHG (i : Nat) : Nat := 0x9001020 + 0x100 * i
def TMG_GCLOPEN (i : Nat) (j : Nat) : Nat := 0x9001040 + 0x100 * i + 0x4 * j
def TMG_SAMPQ (i : Nat) : Nat := 0x9004000 + 0x4 * i
def TMG_CNT (i : Nat) (j : Nat) : Nat := 0x9020000 + 0x100 * i + 0x8 * j
def TMG_GCL (i : Nat) (j : Nat) : Nat := 0x9080000 + 0x2000 * i + 0x8 * j
def CRY_EXCDEST : Nat := 0xa000004
def CRY_STAT : Nat := 0xa000008
def CRY_MSTX (i : Nat) : Nat := 0xa001000 + 0x400 * i
def CRY_MSRXCFG (i : Nat) : Nat := 0xa001004 + 0x400 * i
def CRY_MSTXSCI (i : Nat) : Nat := 0xa001008 + 0x400 * i
def CRY_MSRXSC (i : Nat) (j : Nat) : Nat := 0xa001040 + 0x400 * i + 0x20 * j
def CRY_MSRXSCI (i : Nat) (j : Nat) : Nat := 0xa001048 + 0x400 * i + 0x20 * j
def CRY_MSRXSA (i : Nat) (j : Nat) (k : Nat) : Nat := 0xa001050 + 0x400 * i + 0x20 * j + 0x4 * k
def CRY_CNT (i : Nat) (j : Nat) : Nat := 0xa008000 + 0x100 * i + 0x8 * j
def XPT_CFG : Nat := 0xb000000
def XPT_CC : Nat := 0xb000004
def XPT_CCINC : Nat := 0xb000008
def XPT_STAT : Nat := 0xb00000c
def XPT_CNT (i : Nat) (j : Nat) : Nat := 0xb001000 + 0x100 * i + 0x8 * j
def ENG_SWCTL (i : Nat) : Nat := 0xc000000 + 0x100 * i
def ENG_SWCODE (i : Nat) : Nat := 0xc000008 + 0x100 * i
def ENG_SWCSIZE (i : Nat) : Nat := 0xc000010 + 0x100 * i
def ENG_SWDWIN (i : Nat) (j : Nat) : Nat := 0xc000020 + 0x100 * i + 0x10 * j
def ENG_SWDWINBASE (i : Nat) (j : Nat) : Nat := 0xc000028 + 0x100 * i + 0x10 * j
def ENG_SWSUP (i : Nat) : Nat := 0xc000060 + 0x100 * i
def ENG_TEXC (i : Nat) : Nat := 0xc008000 + 0x20 * i
def ENG_TEXCPC (i : Nat) : Nat := 0xc008004 + 0x20 * i
def ENG_TEXCADDR (i : Nat) : Nat := 0xc008008 + 0x20 * i
def ENG_TEXCINSTR (i : Nat) : Nat := 0xc008010 + 0x20 * i
def ENG_DBGSEL : Nat := 0xc048000
def ENG_DBGREG (i : Nat) : Nat := 0xc048100 + 0x8 * i
def ENG_SKYQSTAT : Nat := 0xc04c000
def ENG_SKYQPOP : Nat := 0xc04c004
def ENG_SKYQDATA (i : Nat) : Nat := 0xc04c040 + 0x4 * i
def ENG_TDBG (i : Nat) : Nat := 0xc050000 + 0x4 * i
def ENG_CHCFG (i : Nat) (j : Nat) : Nat := 0xc060000 + 0x400 * i + 0x4 * j
def ENG_WCSNAP (i : Nat) : Nat := 0xc070000 + 0x8 * i
def ENG_CNT (i : Nat) (j : Nat) : Nat := 0xc080000 + 0x100 * i + 0x8 * j
def MEM_CNT (i : Nat) : Nat := 0xe001000 + 0x8 * i
def STK_CFG : Nat := 0xf000000
def STK_STATUS : Nat := 0xf000004
def STK_CTL : Nat := 0xf000008
def STK_SRVUNC : Nat := 0xf00000c
def STK_PDELAY (i : Nat) : Nat := 0xf000010 + 0x4 * i
def STK_WIN (i : Nat) : Nat := 0xf000100 + 0x10 * i
def STK_WINL (i : Nat) : Nat := 0xf000104 + 0x10 * i
def STK_WINC (i : Nat) : Nat := 0xf000108 + 0x10 * i
def STK_WINR (i : Nat) : Nat := 0xf00010c + 0x10 * i
def STK_CNT (i : Nat) (j : Nat) : Nat := 0xf001000 + 0x100 * i + 0x8 * j
def MGT_STATUS : Nat := 0xf800000
def MGT_SMBCFG : Nat := 0xf800004
def MGT_EID : Nat := 0xf800008
def MGT_BIND : Nat := 0xf80000c
def MGT_CNT (i : Nat) : Nat := 0xf800100 + 0x8 * i
def CFS_STAT : Nat := 0xfc00004
def CFS_SEQA : Nat := 0xfc00008
def CFS_SEQB : Nat := 0xfc0000c
def CFS_CMD : Nat := 0xfc00010
def CFS_ARG : Nat := 0xfc00014
def CFS_ARG2 : Nat := 0xfc00018
def CFS_CTL : Nat := 0xfc0001c
def CFS_TESTRES : Nat := 0xfc00020
def CFS_TESTDET (i : Nat) : Nat := 0xfc00040 + 0x4 * i
def CFS_WBUF (i : Nat) : Nat := 0xfc04000 + 0x4 * i
def FN_ALIVE (i : Nat) (j : Nat) : Nat := 0x100000000 + 0x4000000 * i + 0x10000 * j
def FN_ADMCFG (i : Nat) (j : Nat) : Nat := 0x100000100 + 0x4000000 * i + 0x10000 * j
def FN_ADMSTAT (i : Nat) (j : Nat) : Nat := 0x100000104 + 0x4000000 * i + 0x10000 * j
def FN_ADMBASE (i : Nat) (j : Nat) : Nat := 0x100000108 + 0x4000000 * i + 0x10000 * j
def FN_ADMCBASE (i : Nat) (j : Nat) : Nat := 0x100000110 + 0x4000000 * i + 0x10000 * j
def FN_NOTICE (i : Nat) (j : Nat) : Nat := 0x100000118 + 0x4000000 * i + 0x10000 * j
def FN_TIME (i : Nat) (j : Nat) : Nat := 0x100000200 + 0x4000000 * i + 0x10000 * j
def FN_TIMEINFO (i : Nat) (j : Nat) : Nat := 0x10000020c + 0x4000000 * i + 0x10000 * j
def FN_MSIXADDR (i : Nat) (j : Nat) (k : Nat) : Nat := 0x100008000 + 0x4000000 * i + 0x10000 * j + 0x10 * k
def FN_MSIXDATA (i : Nat) (j : Nat) (k : Nat) : Nat := 0x100008008 + 0x4000000 * i + 0x10000 * j + 0x10 * k
def FN_MSIXCTL (i : Nat) (j : Nat) (k : Nat) : Nat := 0x10000800c + 0x4000000 * i + 0x10000 * j + 0x10 * k
def FN_PBA (i : Nat) (j : Nat) (k : Nat) : Nat := 0x10000c000 + 0x4000000 * i + 0x10000 * j + 0x4 * k
end R

namespace F
def TOP_IDENT_VENDOR : Fld := ⟨R.TOP_IDENT, 0, 16⟩
def TOP_IDENT_DEVICE : Fld := ⟨R.TOP_IDENT, 16, 16⟩
def TOP_REV_REVID : Fld := ⟨R.TOP_REV, 0, 8⟩
def TOP_BOARD_SSVID : Fld := ⟨R.TOP_BOARD, 0, 16⟩
def TOP_BOARD_SSID : Fld := ⟨R.TOP_BOARD, 16, 16⟩
def TOP_MASTERS_CFGHOST : Fld := ⟨R.TOP_MASTERS, 0, 1⟩
def TOP_MASTERS_HOSTLOCKOUT : Fld := ⟨R.TOP_MASTERS, 1, 1⟩
def TOP_MASTERS_MGTUP : Fld := ⟨R.TOP_MASTERS, 2, 1⟩
def TOP_LOCK_LOCK : Fld := ⟨R.TOP_LOCK, 0, 1⟩
def CGU_COMPAT_ZEROREAD : Fld := ⟨R.CGU_COMPAT, 0, 1⟩
def CGU_REFSTAT_REFGOOD : Fld := ⟨R.CGU_REFSTAT, 0, 1⟩
def CGU_REFSTAT_SUPVONLY : Fld := ⟨R.CGU_REFSTAT, 1, 1⟩
def CGU_REFSTAT_FAILCNT : Fld := ⟨R.CGU_REFSTAT, 16, 16⟩
def CGU_PLLSTAT_LOCK : Fld := ⟨R.CGU_PLLSTAT, 0, 13⟩
def CGU_CLKEN_EN (i : Nat) : Fld := ⟨(R.CGU_CLKEN i), 0, 1⟩
def CGU_CLKEN_ACTIVE (i : Nat) : Fld := ⟨(R.CGU_CLKEN i), 1, 1⟩
def CGU_ISL_SRC (i : Nat) : Fld := ⟨(R.CGU_ISL i), 0, 1⟩
def CGU_ISL_STOPREQ (i : Nat) : Fld := ⟨(R.CGU_ISL i), 1, 1⟩
def CGU_ISL_RUNNING (i : Nat) : Fld := ⟨(R.CGU_ISL i), 2, 1⟩
def CGU_ISL_CURSRC (i : Nat) : Fld := ⟨(R.CGU_ISL i), 3, 1⟩
def CGU_ISL_LOSS_UNKNOWN (i : Nat) : Fld := ⟨(R.CGU_ISL i), 4, 1⟩
def CGU_ISL_LOSTCYC (i : Nat) : Fld := ⟨(R.CGU_ISL i), 16, 16⟩
def RST_CTL_WARM : Fld := ⟨R.RST_CTL, 0, 1⟩
def RST_CTL_MGTRST : Fld := ⟨R.RST_CTL, 1, 1⟩
def RST_STATE_PSTATE : Fld := ⟨R.RST_STATE, 0, 3⟩
def RST_STATE_CAUSE : Fld := ⟨R.RST_STATE, 4, 4⟩
def RST_BLK_BLOCK : Fld := ⟨R.RST_BLK, 0, 8⟩
def RST_BLK_INST : Fld := ⟨R.RST_BLK, 8, 6⟩
def RST_BLK_GO : Fld := ⟨R.RST_BLK, 14, 1⟩
def RST_BLK_BUSY : Fld := ⟨R.RST_BLK, 15, 1⟩
def RST_BLK_STATUS : Fld := ⟨R.RST_BLK, 16, 3⟩
def RST_MGTWDOG_TMO : Fld := ⟨R.RST_MGTWDOG, 0, 16⟩
def RST_MGTWDOG_EN : Fld := ⟨R.RST_MGTWDOG, 16, 1⟩
def RST_MGTWDOG_KICK : Fld := ⟨R.RST_MGTWDOG, 17, 1⟩
def RST_THERM_WARN : Fld := ⟨R.RST_THERM, 0, 8⟩
def RST_THERM_SHIFT : Fld := ⟨R.RST_THERM, 8, 2⟩
def RST_THERM_TRIP : Fld := ⟨R.RST_THERM, 16, 8⟩
def RST_THERM_THROTTLING : Fld := ⟨R.RST_THERM, 24, 1⟩
def RST_TEMP_TEMP (i : Nat) : Fld := ⟨(R.RST_TEMP i), 0, 16⟩
def RST_TEMP_MAX (i : Nat) : Fld := ⟨(R.RST_TEMP i), 16, 16⟩
def TKU_STATE_STATE : Fld := ⟨R.TKU_STATE, 0, 3⟩
def TKU_STATE_SRC : Fld := ⟨R.TKU_STATE, 4, 2⟩
def TKU_STATE_EPOCH : Fld := ⟨R.TKU_STATE, 6, 2⟩
def TKU_STATE_BOUND : Fld := ⟨R.TKU_STATE, 8, 8⟩
def TKU_CTRL_SRC : Fld := ⟨R.TKU_CTRL, 0, 2⟩
def TKU_CTRL_SRCPORT : Fld := ⟨R.TKU_CTRL, 4, 4⟩
def TKU_CTRL_LOCKREQ : Fld := ⟨R.TKU_CTRL, 8, 1⟩
def TKU_CTRL_HOLDREQ : Fld := ⟨R.TKU_CTRL, 9, 1⟩
def TKU_CTRL_UNTRACE : Fld := ⟨R.TKU_CTRL, 10, 1⟩
def TKU_CTRL_TAI : Fld := ⟨R.TKU_CTRL, 11, 1⟩
def TKU_CTRL_UTCV : Fld := ⟨R.TKU_CTRL, 12, 1⟩
def TKU_BUSCFG_TOL : Fld := ⟨R.TKU_BUSCFG, 0, 32⟩
def TKU_TIMEINFO_BOUND : Fld := ⟨R.TKU_TIMEINFO, 0, 8⟩
def TKU_TIMEINFO_STATE : Fld := ⟨R.TKU_TIMEINFO, 8, 3⟩
def TKU_ADJCMD_OP : Fld := ⟨R.TKU_ADJCMD, 0, 2⟩
def TKU_ADJCMD_GO : Fld := ⟨R.TKU_ADJCMD, 2, 1⟩
def TKU_ADJCMD_BUSY : Fld := ⟨R.TKU_ADJCMD, 3, 1⟩
def TKU_ADJCMD_ERR : Fld := ⟨R.TKU_ADJCMD, 4, 1⟩
def TKU_HOLDCFG_LIMIT : Fld := ⟨R.TKU_HOLDCFG, 0, 8⟩
def TKU_HOLDCFG_SRVTMO : Fld := ⟨R.TKU_HOLDCFG, 8, 16⟩
def TKU_COMMIT_COMMIT : Fld := ⟨R.TKU_COMMIT, 0, 1⟩
def TKU_COMMIT_PENDING : Fld := ⟨R.TKU_COMMIT, 1, 1⟩
def TKU_PPSICFG_EN : Fld := ⟨R.TKU_PPSICFG, 0, 1⟩
def TKU_PPSICFG_POL : Fld := ⟨R.TKU_PPSICFG, 1, 1⟩
def TKU_PPSICFG_CAL : Fld := ⟨R.TKU_PPSICFG, 8, 24⟩
def TKU_PPSOCFG_EN : Fld := ⟨R.TKU_PPSOCFG, 0, 1⟩
def TKU_PPSOCFG_MAXBOUND : Fld := ⟨R.TKU_PPSOCFG, 8, 8⟩
def TKU_PPSOCFG_WIDTH : Fld := ⟨R.TKU_PPSOCFG, 16, 16⟩
def TKU_PPSSTAT_GLITCH : Fld := ⟨R.TKU_PPSSTAT, 0, 16⟩
def TKU_PPSSTAT_SUPPR : Fld := ⟨R.TKU_PPSSTAT, 16, 16⟩
def TKU_PTMCTL_ENABLE (i : Nat) : Fld := ⟨(R.TKU_PTMCTL i), 0, 1⟩
def TKU_PTMCTL_TRIG (i : Nat) : Fld := ⟨(R.TKU_PTMCTL i), 1, 1⟩
def TKU_PTMCTL_VALID (i : Nat) : Fld := ⟨(R.TKU_PTMCTL i), 2, 1⟩
def TKU_PTMCTL_PERIOD (i : Nat) : Fld := ⟨(R.TKU_PTMCTL i), 4, 8⟩
def TKU_PTMCTL_FAILCNT (i : Nat) : Fld := ⟨(R.TKU_PTMCTL i), 12, 12⟩
def TKU_PTMCTL_BOUND (i : Nat) : Fld := ⟨(R.TKU_PTMCTL i), 24, 8⟩
def TKU_PTPCFG_EN (i : Nat) : Fld := ⟨(R.TKU_PTPCFG i), 0, 1⟩
def TKU_PTPCFG_ONESTEP (i : Nat) : Fld := ⟨(R.TKU_PTPCFG i), 1, 1⟩
def TKU_PTPCFG_TC (i : Nat) : Fld := ⟨(R.TKU_PTPCFG i), 2, 2⟩
def TKU_PTPCFG_ENCAP (i : Nat) : Fld := ⟨(R.TKU_PTPCFG i), 4, 3⟩
def EVR_CFG_CIRCEN : Fld := ⟨R.EVR_CFG, 0, 1⟩
def EVR_CFG_KEEPSEV : Fld := ⟨R.EVR_CFG, 1, 3⟩
def EVR_CFG_MIRRORSEV : Fld := ⟨R.EVR_CFG, 4, 3⟩
def EVR_CIRCBASE_BASE : Fld := ⟨R.EVR_CIRCBASE, 12, 23⟩
def EVR_CIRCLOG2_LOG2N : Fld := ⟨R.EVR_CIRCLOG2, 0, 5⟩
def EVR_MIRROR_EN (i : Nat) : Fld := ⟨(R.EVR_MIRROR i), 0, 1⟩
def EVR_MIRROR_FN (i : Nat) : Fld := ⟨(R.EVR_MIRROR i), 1, 1⟩
def EVR_MIRROR_LOG2N (i : Nat) : Fld := ⟨(R.EVR_MIRROR i), 2, 5⟩
def EVR_MIRROR_VECTOR (i : Nat) : Fld := ⟨(R.EVR_MIRROR i), 8, 10⟩
def EVR_RCMD_AREA : Fld := ⟨R.EVR_RCMD, 0, 2⟩
def EVR_RCMD_GO : Fld := ⟨R.EVR_RCMD, 2, 1⟩
def EVR_RCMD_BUSY : Fld := ⟨R.EVR_RCMD, 3, 1⟩
def EVR_RCMD_STATUS : Fld := ⟨R.EVR_RCMD, 4, 3⟩
def EVR_RL_RATE (i : Nat) : Fld := ⟨(R.EVR_RL i), 0, 16⟩
def EVR_RL_BURST (i : Nat) : Fld := ⟨(R.EVR_RL i), 16, 8⟩
def EVR_RLCODE_CODE (i : Nat) : Fld := ⟨(R.EVR_RLCODE i), 0, 16⟩
def EVR_RLCODE_VALID (i : Nat) : Fld := ⟨(R.EVR_RLCODE i), 16, 1⟩
def EVR_RLCODE1_RATE (i : Nat) : Fld := ⟨(R.EVR_RLCODE1 i), 0, 16⟩
def EVR_RLCODE1_BURST (i : Nat) : Fld := ⟨(R.EVR_RLCODE1 i), 16, 8⟩
def FLT_NOTIFY_PINSEV : Fld := ⟨R.FLT_NOTIFY, 0, 3⟩
def FLT_NOTIFY_MSIEN : Fld := ⟨R.FLT_NOTIFY, 3, 1⟩
def FLT_NOTIFY_VECTOR : Fld := ⟨R.FLT_NOTIFY, 4, 10⟩
def FLT_STATUS_INSERV : Fld := ⟨R.FLT_STATUS, 0, 5⟩
def FLT_STATUS_DEVFATAL : Fld := ⟨R.FLT_STATUS, 5, 1⟩
def FLT_STORM_THRESH : Fld := ⟨R.FLT_STORM, 0, 16⟩
def FLT_LVLCTL_DONE (i : Nat) : Fld := ⟨(R.FLT_LVLCTL i), 0, 1⟩
def FLT_LVLCTL_ERR (i : Nat) : Fld := ⟨(R.FLT_LVLCTL i), 1, 1⟩
def FLT_LVLCTL_NEXTVALID (i : Nat) : Fld := ⟨(R.FLT_LVLCTL i), 2, 1⟩
def FLT_LVLCTL_TOKEN (i : Nat) : Fld := ⟨(R.FLT_LVLCTL i), 16, 16⟩
def FLT_FAULTED_UNIT (i : Nat) : Fld := ⟨(R.FLT_FAULTED i), 0, 16⟩
def FLT_FAULTED_VALID (i : Nat) : Fld := ⟨(R.FLT_FAULTED i), 16, 1⟩
def FLT_FAULTED_CLEAR (i : Nat) : Fld := ⟨(R.FLT_FAULTED i), 17, 1⟩
def HP_LINKCFG_HOLD (i : Nat) : Fld := ⟨(R.HP_LINKCFG i), 0, 1⟩
def HP_LINKCFG_WIDTH (i : Nat) : Fld := ⟨(R.HP_LINKCFG i), 1, 1⟩
def HP_LINKCFG_MAXSPEED (i : Nat) : Fld := ⟨(R.HP_LINKCFG i), 2, 3⟩
def HP_LINKCFG_CLKREQ (i : Nat) : Fld := ⟨(R.HP_LINKCFG i), 5, 1⟩
def HP_LINKCFG_SRIS (i : Nat) : Fld := ⟨(R.HP_LINKCFG i), 6, 1⟩
def HP_STATUS_LINKUP (i : Nat) : Fld := ⟨(R.HP_STATUS i), 0, 1⟩
def HP_STATUS_PERST (i : Nat) : Fld := ⟨(R.HP_STATUS i), 1, 1⟩
def HP_STATUS_SPEED (i : Nat) : Fld := ⟨(R.HP_STATUS i), 2, 3⟩
def HP_STATUS_WIDTH (i : Nat) : Fld := ⟨(R.HP_STATUS i), 5, 5⟩
def HP_STATUS_FLIT (i : Nat) : Fld := ⟨(R.HP_STATUS i), 10, 1⟩
def HP_PMCFG_L1IDLE (i : Nat) : Fld := ⟨(R.HP_PMCFG i), 0, 8⟩
def HP_PMCFG_L0PEN (i : Nat) : Fld := ⟨(R.HP_PMCFG i), 8, 1⟩
def HP_PMCFG_L0PWIN (i : Nat) : Fld := ⟨(R.HP_PMCFG i), 16, 8⟩
def HP_CPLTO_TMO (i : Nat) : Fld := ⟨(R.HP_CPLTO i), 0, 16⟩
def HP_CPLTO_OVR (i : Nat) : Fld := ⟨(R.HP_CPLTO i), 16, 1⟩
def HP_COMMIT_COMMIT (i : Nat) : Fld := ⟨(R.HP_COMMIT i), 0, 1⟩
def HP_COMMIT_PENDING (i : Nat) : Fld := ⟨(R.HP_COMMIT i), 1, 1⟩
def HP_COMMIT_ERR (i : Nat) : Fld := ⟨(R.HP_COMMIT i), 2, 1⟩
def HP_COMMIT_ERRPF (i : Nat) : Fld := ⟨(R.HP_COMMIT i), 4, 1⟩
def HP_COMMIT_ERRWIN (i : Nat) : Fld := ⟨(R.HP_COMMIT i), 5, 4⟩
def HP_IBW_EN (i : Nat) (j : Nat) (k : Nat) : Fld := ⟨(R.HP_IBW i j k), 0, 1⟩
def HP_IBW_RD (i : Nat) (j : Nat) (k : Nat) : Fld := ⟨(R.HP_IBW i j k), 1, 1⟩
def HP_IBW_WR (i : Nat) (j : Nat) (k : Nat) : Fld := ⟨(R.HP_IBW i j k), 2, 1⟩
def HP_IBW_LOG2SIZE (i : Nat) (j : Nat) (k : Nat) : Fld := ⟨(R.HP_IBW i j k), 8, 5⟩
def HP_WAKE_ANY (i : Nat) (j : Nat) : Fld := ⟨(R.HP_WAKE i j), 0, 1⟩
def HP_WAKE_MAGIC (i : Nat) (j : Nat) : Fld := ⟨(R.HP_WAKE i j), 1, 1⟩
def FNM_POOL_LIMIT (i : Nat) (j : Nat) : Fld := ⟨(R.FNM_POOL i j), 0, 32⟩
def FNM_POOLUSE_USE (i : Nat) (j : Nat) : Fld := ⟨(R.FNM_POOLUSE i j), 0, 32⟩
def FNM_VFTEN_TENANT (i : Nat) (j : Nat) : Fld := ⟨(R.FNM_VFTEN i j), 0, 10⟩
def FNM_VFTEN_SLOT (i : Nat) (j : Nat) : Fld := ⟨(R.FNM_VFTEN i j), 10, 4⟩
def FNM_VFTEN_VALID (i : Nat) (j : Nat) : Fld := ⟨(R.FNM_VFTEN i j), 14, 1⟩
def FNM_TSTAT_STATE (i : Nat) : Fld := ⟨(R.FNM_TSTAT i), 0, 2⟩
def FNM_TSTAT_PORT (i : Nat) : Fld := ⟨(R.FNM_TSTAT i), 4, 1⟩
def FNM_TSTAT_TGEN (i : Nat) : Fld := ⟨(R.FNM_TSTAT i), 8, 8⟩
def FNM_TSTAT_NVF (i : Nat) : Fld := ⟨(R.FNM_TSTAT i), 16, 5⟩
def FNM_TSTAT_DIRTY (i : Nat) : Fld := ⟨(R.FNM_TSTAT i), 21, 1⟩
def QMG_TRACECFG_EN : Fld := ⟨R.QMG_TRACECFG, 0, 1⟩
def QMG_TRACECFG_SWARD : Fld := ⟨R.QMG_TRACECFG, 1, 6⟩
def QMG_TRACECFG_CHANNEL : Fld := ⟨R.QMG_TRACECFG, 7, 8⟩
def QMG_QCMD_OP : Fld := ⟨R.QMG_QCMD, 0, 3⟩
def QMG_QCMD_GO : Fld := ⟨R.QMG_QCMD, 3, 1⟩
def QMG_QCMD_BUSY : Fld := ⟨R.QMG_QCMD, 4, 1⟩
def QMG_QCMD_STATUS : Fld := ⟨R.QMG_QCMD, 5, 3⟩
def QMG_QCMD_INDEX : Fld := ⟨R.QMG_QCMD, 8, 17⟩
def QMG_QDATA_DATA (i : Nat) : Fld := ⟨(R.QMG_QDATA i), 0, 32⟩
def MOV_COMMIT_CH : Fld := ⟨R.MOV_COMMIT, 0, 8⟩
def MOV_COMMIT_COMMIT : Fld := ⟨R.MOV_COMMIT, 8, 1⟩
def MOV_COMMIT_PENDING : Fld := ⟨R.MOV_COMMIT, 9, 1⟩
def MOV_COMMIT_ERR : Fld := ⟨R.MOV_COMMIT, 10, 1⟩
def MOV_COMMIT_ERRKIND : Fld := ⟨R.MOV_COMMIT, 16, 3⟩
def MOV_LINES_INUSE : Fld := ⟨R.MOV_LINES, 0, 8⟩
def MOV_CH_EN (i : Nat) : Fld := ⟨(R.MOV_CH i), 0, 1⟩
def MOV_CH_HOSTEN (i : Nat) : Fld := ⟨(R.MOV_CH i), 1, 1⟩
def MOV_CH_HRD (i : Nat) : Fld := ⟨(R.MOV_CH i), 2, 1⟩
def MOV_CH_HWR (i : Nat) : Fld := ⟨(R.MOV_CH i), 3, 1⟩
def MOV_CH_DRD (i : Nat) : Fld := ⟨(R.MOV_CH i), 4, 1⟩
def MOV_CH_DWR (i : Nat) : Fld := ⟨(R.MOV_CH i), 5, 1⟩
def MOV_CH_GROUP (i : Nat) : Fld := ⟨(R.MOV_CH i), 8, 6⟩
def MOV_CH_MAXLINES (i : Nat) : Fld := ⟨(R.MOV_CH i), 14, 7⟩
def MOV_CH_HFN (i : Nat) : Fld := ⟨(R.MOV_CH i + 4), 0, 10⟩
def MOV_CH_HPORT (i : Nat) : Fld := ⟨(R.MOV_CH i + 4), 10, 1⟩
def MOV_CH_RECEN (i : Nat) : Fld := ⟨(R.MOV_CH i + 4), 11, 1⟩
def MOV_CH_RSWARD (i : Nat) : Fld := ⟨(R.MOV_CH i + 4), 12, 6⟩
def MOV_CH_RCHAN (i : Nat) : Fld := ⟨(R.MOV_CH i + 4), 18, 8⟩
def MOV_CHHLOG_HLOG2SIZE (i : Nat) : Fld := ⟨(R.MOV_CHHLOG i), 0, 6⟩
def MOV_CHDLOG_DLOG2SIZE (i : Nat) : Fld := ⟨(R.MOV_CHDLOG i), 0, 6⟩
def MOV_CHSTAT_LINES (i : Nat) : Fld := ⟨(R.MOV_CHSTAT i), 0, 8⟩
def MOV_CHSTAT_BUSY (i : Nat) : Fld := ⟨(R.MOV_CHSTAT i), 8, 1⟩
def BPM_CFG_SPILLUP : Fld := ⟨R.BPM_CFG, 0, 1⟩
def BPM_CFG_ALLOCTMO : Fld := ⟨R.BPM_CFG, 16, 16⟩
def BPM_HBMBASE_BASE : Fld := ⟨R.BPM_HBMBASE, 16, 19⟩
def BPM_HBMSIZE_SIZE : Fld := ⟨R.BPM_HBMSIZE, 0, 20⟩
def BPM_CHIPCNT_CHIPCNT (i : Nat) : Fld := ⟨(R.BPM_CHIPCNT i), 0, 20⟩
def BPM_HBMCNT_HBMCNT (i : Nat) : Fld := ⟨(R.BPM_HBMCNT i), 0, 20⟩
def BPM_CHIPBASE_CHIPBASE (i : Nat) : Fld := ⟨(R.BPM_CHIPBASE i), 0, 26⟩
def BPM_CHIPFREE_CHIPFREE (i : Nat) : Fld := ⟨(R.BPM_CHIPFREE i), 0, 20⟩
def BPM_HBMFREE_HBMFREE (i : Nat) : Fld := ⟨(R.BPM_HBMFREE i), 0, 20⟩
def BPM_QUOTA_LIMIT (i : Nat) : Fld := ⟨(R.BPM_QUOTA i), 0, 32⟩
def BPM_QUOTAUSE_USE (i : Nat) : Fld := ⟨(R.BPM_QUOTAUSE i), 0, 32⟩
def BPM_SWGRP_GROUP (i : Nat) : Fld := ⟨(R.BPM_SWGRP i), 0, 6⟩
def MAC_QUADMODE_MODE (i : Nat) : Fld := ⟨(R.MAC_QUADMODE i), 0, 3⟩
def MAC_LANECFG_TXINV (i : Nat) : Fld := ⟨(R.MAC_LANECFG i), 0, 1⟩
def MAC_LANECFG_RXINV (i : Nat) : Fld := ⟨(R.MAC_LANECFG i), 1, 1⟩
def MAC_PORTCFG_EN (i : Nat) : Fld := ⟨(R.MAC_PORTCFG i), 0, 1⟩
def MAC_PORTCFG_AN (i : Nat) : Fld := ⟨(R.MAC_PORTCFG i), 1, 1⟩
def MAC_PORTCFG_MACSEC (i : Nat) : Fld := ⟨(R.MAC_PORTCFG i), 2, 1⟩
def MAC_PORTCFG_STRICT (i : Nat) : Fld := ⟨(R.MAC_PORTCFG i), 3, 1⟩
def MAC_PORTCFG_MAXLEN (i : Nat) : Fld := ⟨(R.MAC_PORTCFG i), 16, 15⟩
def MAC_STATUS_LINK (i : Nat) : Fld := ⟨(R.MAC_STATUS i), 0, 1⟩
def MAC_STATUS_STOPPED (i : Nat) : Fld := ⟨(R.MAC_STATUS i), 1, 1⟩
def MAC_STATUS_ANDONE (i : Nat) : Fld := ⟨(R.MAC_STATUS i), 2, 1⟩
def MAC_STATUS_RXHOLD (i : Nat) : Fld := ⟨(R.MAC_STATUS i), 4, 8⟩
def MAC_STATUS_LINKHOLD (i : Nat) : Fld := ⟨(R.MAC_STATUS i), 12, 1⟩
def MAC_STATUS_WDACTIVE (i : Nat) : Fld := ⟨(R.MAC_STATUS i), 13, 1⟩
def MAC_STATUS_TXPAUSED (i : Nat) : Fld := ⟨(R.MAC_STATUS i), 16, 8⟩
def MAC_FCCFG_MODE (i : Nat) : Fld := ⟨(R.MAC_FCCFG i), 0, 2⟩
def MAC_FCCFG_PFCEN (i : Nat) : Fld := ⟨(R.MAC_FCCFG i), 8, 8⟩
def MAC_FCCFG_DEFPRI (i : Nat) : Fld := ⟨(R.MAC_FCCFG i), 16, 3⟩
def MAC_FCCFG_WDLIMIT (i : Nat) : Fld := ⟨(R.MAC_FCCFG i), 24, 8⟩
def MAC_PAUSE_QUANTA (i : Nat) : Fld := ⟨(R.MAC_PAUSE i), 0, 16⟩
def MAC_PAUSE_REFRESH (i : Nat) : Fld := ⟨(R.MAC_PAUSE i), 16, 16⟩
def MAC_RXBUF_LOSSY_LIMIT (i : Nat) : Fld := ⟨(R.MAC_RXBUF i), 0, 14⟩
def MAC_RXBUF_SIZE (i : Nat) : Fld := ⟨(R.MAC_RXBUF i), 16, 14⟩
def MAC_XTHR_XOFF (i : Nat) (j : Nat) : Fld := ⟨(R.MAC_XTHR i j), 0, 16⟩
def MAC_XTHR_XON (i : Nat) (j : Nat) : Fld := ⟨(R.MAC_XTHR i j), 16, 16⟩
def MAC_CNTSNAP_GO (i : Nat) : Fld := ⟨(R.MAC_CNTSNAP i), 0, 1⟩
def MAC_CNTSNAP_SEL (i : Nat) : Fld := ⟨(R.MAC_CNTSNAP i), 1, 1⟩
def MAC_CNTHALF_HALF (i : Nat) (j : Nat) : Fld := ⟨(R.MAC_CNTHALF i j), 0, 32⟩
def MGE_CFG_EN : Fld := ⟨R.MGE_CFG, 0, 1⟩
def MGE_CFG_SPEED : Fld := ⟨R.MGE_CFG, 1, 2⟩
def MGE_CFG_DUPLEX : Fld := ⟨R.MGE_CFG, 3, 1⟩
def MGE_CFG_MAXLEN : Fld := ⟨R.MGE_CFG, 16, 11⟩
def MGE_STATUS_STOPPED : Fld := ⟨R.MGE_STATUS, 0, 1⟩
def MGE_STATUS_CRS : Fld := ⟨R.MGE_STATUS, 1, 1⟩
def MGE_MDIO_DATA : Fld := ⟨R.MGE_MDIO, 0, 16⟩
def MGE_MDIO_REG : Fld := ⟨R.MGE_MDIO, 16, 5⟩
def MGE_MDIO_PHY : Fld := ⟨R.MGE_MDIO, 21, 5⟩
def MGE_MDIO_OP : Fld := ⟨R.MGE_MDIO, 26, 1⟩
def MGE_MDIO_GO : Fld := ⟨R.MGE_MDIO, 27, 1⟩
def MGE_MDIO_BUSY : Fld := ⟨R.MGE_MDIO, 28, 1⟩
def PRS_COMMIT_COMMIT : Fld := ⟨R.PRS_COMMIT, 0, 1⟩
def PRS_COMMIT_PENDING : Fld := ⟨R.PRS_COMMIT, 1, 1⟩
def PRS_COMMIT_ERR : Fld := ⟨R.PRS_COMMIT, 2, 1⟩
def PRS_COMMIT_ERRKIND : Fld := ⟨R.PRS_COMMIT, 4, 3⟩
def PRS_COMMIT_ERRINDEX : Fld := ⟨R.PRS_COMMIT, 16, 10⟩
def PRS_FRAGCFG_TMO : Fld := ⟨R.PRS_FRAGCFG, 0, 16⟩
def PRS_PORTPROF_PROFILE (i : Nat) : Fld := ⟨(R.PRS_PORTPROF i), 0, 6⟩
def PRS_PROF_START (i : Nat) : Fld := ⟨(R.PRS_PROF i), 0, 8⟩
def PRS_PROF_MAXHDR (i : Nat) : Fld := ⟨(R.PRS_PROF i), 8, 5⟩
def PRS_PROF_MAXBYTES (i : Nat) : Fld := ⟨(R.PRS_PROF i), 16, 10⟩
def PRS_PROF_TRUNC_ACT (i : Nat) : Fld := ⟨(R.PRS_PROF i + 4), 0, 2⟩
def PRS_PROF_SHORT_ACT (i : Nat) : Fld := ⟨(R.PRS_PROF i + 4), 2, 2⟩
def PRS_PROF_LENMM_ACT (i : Nat) : Fld := ⟨(R.PRS_PROF i + 4), 4, 2⟩
def PRS_PROF_FRAGMISS_ACT (i : Nat) : Fld := ⟨(R.PRS_PROF i + 4), 6, 2⟩
def PRS_PROF_FRAG_EN (i : Nat) : Fld := ⟨(R.PRS_PROF i + 4), 8, 1⟩
def PRS_PROF_HASHMODE (i : Nat) : Fld := ⟨(R.PRS_PROF i + 4), 9, 2⟩
def PRS_PROF_HASHLAYER (i : Nat) : Fld := ⟨(R.PRS_PROF i + 4), 11, 1⟩
def PRS_PROF_L4CSUM_EN (i : Nat) : Fld := ⟨(R.PRS_PROF i + 4), 12, 1⟩
def PRS_PROF_FSBASE (i : Nat) : Fld := ⟨(R.PRS_PROF i + 8), 0, 9⟩
def PRS_PROF_FSCOUNT (i : Nat) : Fld := ⟨(R.PRS_PROF i + 8), 9, 3⟩
def PRS_PROF_FSKEY (i : Nat) : Fld := ⟨(R.PRS_PROF i + 12), 0, 32⟩
def PRS_PROF_EXCQ (i : Nat) : Fld := ⟨(R.PRS_PROF i + 16), 0, 17⟩
def PRS_PROF_EXCSWARD (i : Nat) : Fld := ⟨(R.PRS_PROF i + 16), 17, 6⟩
def PRS_PROF_EXCCHAN (i : Nat) : Fld := ⟨(R.PRS_PROF i + 16), 23, 8⟩
def PRS_PROF_KIND (i : Nat) : Fld := ⟨(R.PRS_PROF i + 16), 31, 1⟩
def PRS_FSEL_HTYPE (i : Nat) : Fld := ⟨(R.PRS_FSEL i), 0, 8⟩
def PRS_FSEL_OCC (i : Nat) : Fld := ⟨(R.PRS_FSEL i), 8, 1⟩
def PRS_FSEL_OFFSET (i : Nat) : Fld := ⟨(R.PRS_FSEL i), 9, 9⟩
def PRS_FSEL_LEN (i : Nat) : Fld := ⟨(R.PRS_FSEL i), 18, 2⟩
def PRS_NODE_HDRTYPE (i : Nat) : Fld := ⟨(R.PRS_NODE i), 0, 8⟩
def PRS_NODE_FIXLEN (i : Nat) : Fld := ⟨(R.PRS_NODE i), 8, 8⟩
def PRS_NODE_LENMODE (i : Nat) : Fld := ⟨(R.PRS_NODE i), 16, 2⟩
def PRS_NODE_TUNNEL (i : Nat) : Fld := ⟨(R.PRS_NODE i), 18, 1⟩
def PRS_NODE_LOFF (i : Nat) : Fld := ⟨(R.PRS_NODE i + 4), 0, 8⟩
def PRS_NODE_LSHIFT (i : Nat) : Fld := ⟨(R.PRS_NODE i + 4), 8, 4⟩
def PRS_NODE_LMASK (i : Nat) : Fld := ⟨(R.PRS_NODE i + 4), 12, 8⟩
def PRS_NODE_LSCALE (i : Nat) : Fld := ⟨(R.PRS_NODE i + 4), 20, 2⟩
def PRS_NODE_LADD (i : Nat) : Fld := ⟨(R.PRS_NODE i + 4), 22, 8⟩
def PRS_NODE_KOFF (i : Nat) : Fld := ⟨(R.PRS_NODE i + 8), 0, 8⟩
def PRS_NODE_KSHIFT (i : Nat) : Fld := ⟨(R.PRS_NODE i + 8), 8, 4⟩
def PRS_NODE_KMASK (i : Nat) : Fld := ⟨(R.PRS_NODE i + 8), 12, 16⟩
def PRS_NODE_TBASE (i : Nat) : Fld := ⟨(R.PRS_NODE i + 12), 0, 10⟩
def PRS_NODE_TCOUNT (i : Nat) : Fld := ⟨(R.PRS_NODE i + 12), 10, 5⟩
def PRS_NODE_DEFNODE (i : Nat) : Fld := ⟨(R.PRS_NODE i + 12), 15, 8⟩
def PRS_NODE_DEFSTOP (i : Nat) : Fld := ⟨(R.PRS_NODE i + 12), 23, 1⟩
def PRS_TRANS_VALUE (i : Nat) : Fld := ⟨(R.PRS_TRANS i), 0, 16⟩
def PRS_TRANS_NODE (i : Nat) : Fld := ⟨(R.PRS_TRANS i), 16, 8⟩
def PRS_TRANS_VALID (i : Nat) : Fld := ⟨(R.PRS_TRANS i), 24, 1⟩
def PRS_ITAB_QUEUE (i : Nat) (j : Nat) : Fld := ⟨(R.PRS_ITAB i j), 0, 17⟩
def PRS_ITAB_VALID (i : Nat) (j : Nat) : Fld := ⟨(R.PRS_ITAB i j), 31, 1⟩
def CLS_RULESWAP_ACTIVE : Fld := ⟨R.CLS_RULESWAP, 0, 1⟩
def CLS_RULESWAP_SWAP : Fld := ⟨R.CLS_RULESWAP, 1, 1⟩
def CLS_RULESWAP_BUSY : Fld := ⟨R.CLS_RULESWAP, 2, 1⟩
def CLS_RULESWAP_ERR : Fld := ⟨R.CLS_RULESWAP, 3, 1⟩
def CLS_RULESWAP_COPYBUSY : Fld := ⟨R.CLS_RULESWAP, 4, 1⟩
def CLS_RULESWAP_SWAPCOUNT : Fld := ⟨R.CLS_RULESWAP, 16, 16⟩
def CLS_SWAPINFO_BOUND : Fld := ⟨R.CLS_SWAPINFO, 0, 8⟩
def CLS_INFLIGHT_A : Fld := ⟨R.CLS_INFLIGHT, 0, 16⟩
def CLS_INFLIGHT_B : Fld := ⟨R.CLS_INFLIGHT, 16, 16⟩
def CLS_HELD_A : Fld := ⟨R.CLS_HELD, 0, 16⟩
def CLS_HELD_B : Fld := ⟨R.CLS_HELD, 16, 16⟩
def CLS_EPOCHCFG_ENGTMO : Fld := ⟨R.CLS_EPOCHCFG, 0, 16⟩
def CLS_TTLDEST_QUEUE : Fld := ⟨R.CLS_TTLDEST, 0, 17⟩
def CLS_TTLDEST_SWARD : Fld := ⟨R.CLS_TTLDEST, 17, 6⟩
def CLS_TTLDEST_CHANNEL : Fld := ⟨R.CLS_TTLDEST, 23, 8⟩
def CLS_TTLDEST_KIND : Fld := ⟨R.CLS_TTLDEST, 31, 1⟩
def CLS_RCMD_OP : Fld := ⟨R.CLS_RCMD, 0, 3⟩
def CLS_RCMD_BANK : Fld := ⟨R.CLS_RCMD, 3, 1⟩
def CLS_RCMD_GO : Fld := ⟨R.CLS_RCMD, 4, 1⟩
def CLS_RCMD_BUSY : Fld := ⟨R.CLS_RCMD, 5, 1⟩
def CLS_RCMD_STATUS : Fld := ⟨R.CLS_RCMD, 8, 3⟩
def CLS_RCMD_INDEX : Fld := ⟨R.CLS_RCMD, 15, 17⟩
def CLS_RDATA_DATA (i : Nat) : Fld := ⟨(R.CLS_RDATA i), 0, 32⟩
def CLS_MIRROR_KIND (i : Nat) : Fld := ⟨(R.CLS_MIRROR i), 0, 2⟩
def CLS_MIRROR_EN (i : Nat) : Fld := ⟨(R.CLS_MIRROR i), 2, 1⟩
def CLS_MIRROR_QUEUE (i : Nat) : Fld := ⟨(R.CLS_MIRROR i), 3, 17⟩
def CLS_MIRROR_TRUNC (i : Nat) : Fld := ⟨(R.CLS_MIRROR i + 4), 0, 14⟩
def CLS_MIRROR_RATE (i : Nat) : Fld := ⟨(R.CLS_MIRROR i + 4), 16, 16⟩
def CLS_GRPDEF_ALIST (i : Nat) (j : Nat) : Fld := ⟨(R.CLS_GRPDEF i j), 0, 13⟩
def TBL_HCFG_MAXMOVES : Fld := ⟨R.TBL_HCFG, 0, 4⟩
def TBL_HCFG_EVICT : Fld := ⟨R.TBL_HCFG, 4, 2⟩
def TBL_AGECFG_TICK : Fld := ⟨R.TBL_AGECFG, 0, 16⟩
def TBL_AGECFG_HMAXIDLE : Fld := ⟨R.TBL_AGECFG, 16, 8⟩
def TBL_AGECFG_MMAXIDLE : Fld := ⟨R.TBL_AGECFG, 24, 8⟩
def TBL_HSTAT_COUNT : Fld := ⟨R.TBL_HSTAT, 0, 25⟩
def TBL_OVFSTAT_COUNT : Fld := ⟨R.TBL_OVFSTAT, 0, 15⟩
def TBL_LPMSTAT_COUNT : Fld := ⟨R.TBL_LPMSTAT, 0, 19⟩
def TBL_NOTIFY_EN : Fld := ⟨R.TBL_NOTIFY, 0, 1⟩
def TBL_NOTIFY_HAGE : Fld := ⟨R.TBL_NOTIFY, 1, 1⟩
def TBL_NOTIFY_SWARD : Fld := ⟨R.TBL_NOTIFY, 2, 6⟩
def TBL_NOTIFY_CHANNEL : Fld := ⟨R.TBL_NOTIFY, 8, 8⟩
def TBL_COMMIT_COMMIT : Fld := ⟨R.TBL_COMMIT, 0, 1⟩
def TBL_COMMIT_PENDING : Fld := ⟨R.TBL_COMMIT, 1, 1⟩
def TBL_COMMIT_ERR : Fld := ⟨R.TBL_COMMIT, 2, 1⟩
def TBL_COMMIT_ERRINDEX : Fld := ⟨R.TBL_COMMIT, 8, 6⟩
def TBL_MLCFG_EN (i : Nat) : Fld := ⟨(R.TBL_MLCFG i), 0, 1⟩
def TBL_MLCFG_RATE (i : Nat) : Fld := ⟨(R.TBL_MLCFG i), 16, 16⟩
def TBL_CMD_OP (i : Nat) : Fld := ⟨(R.TBL_CMD i), 0, 4⟩
def TBL_CMD_GO (i : Nat) : Fld := ⟨(R.TBL_CMD i), 4, 1⟩
def TBL_CMD_BUSY (i : Nat) : Fld := ⟨(R.TBL_CMD i), 5, 1⟩
def TBL_CMD_STATUS (i : Nat) : Fld := ⟨(R.TBL_CMD i), 8, 4⟩
def TBL_CINFO_BOUND (i : Nat) : Fld := ⟨(R.TBL_CINFO i), 0, 8⟩
def TBL_KDEFCTL_TABLE (i : Nat) : Fld := ⟨(R.TBL_KDEFCTL i), 0, 2⟩
def TBL_KDEFCTL_LEARN (i : Nat) : Fld := ⟨(R.TBL_KDEFCTL i), 2, 1⟩
def TBL_KDEFCTL_TAGADD (i : Nat) : Fld := ⟨(R.TBL_KDEFCTL i), 3, 11⟩
def TBL_KDEFCTL_REMOTE (i : Nat) : Fld := ⟨(R.TBL_KDEFCTL i), 14, 1⟩
def TBL_KDEFCTL_MEMBER (i : Nat) : Fld := ⟨(R.TBL_KDEFCTL i), 15, 2⟩
def TBL_MLTARGET_QUEUE (i : Nat) : Fld := ⟨(R.TBL_MLTARGET i), 0, 17⟩
def TBL_MLTARGET_QKIND (i : Nat) : Fld := ⟨(R.TBL_MLTARGET i), 17, 1⟩
def TBL_MLTARGET_QV (i : Nat) : Fld := ⟨(R.TBL_MLTARGET i), 18, 1⟩
def TBL_MLTARGET_AV (i : Nat) : Fld := ⟨(R.TBL_MLTARGET i), 19, 1⟩
def TBL_MLTARGET_ALIST (i : Nat) : Fld := ⟨(R.TBL_MLTARGET i + 4), 0, 13⟩
def TBL_OWNER_LIMIT (i : Nat) : Fld := ⟨(R.TBL_OWNER i), 0, 25⟩
def TBL_OWNER_COUNT (i : Nat) : Fld := ⟨(R.TBL_OWNER i + 4), 0, 25⟩
def ORS_CFG_EN : Fld := ⟨R.ORS_CFG, 0, 1⟩
def ORS_CFG_UDPPORT : Fld := ⟨R.ORS_CFG, 16, 16⟩
def ORS_PORTEN_EN : Fld := ⟨R.ORS_PORTEN, 0, 16⟩
def ORS_TXFILL_FILL : Fld := ⟨R.ORS_TXFILL, 0, 16⟩
def ORS_STAT_HELD : Fld := ⟨R.ORS_STAT, 0, 17⟩
def ORS_FCMD_OP : Fld := ⟨R.ORS_FCMD, 0, 3⟩
def ORS_FCMD_GO : Fld := ⟨R.ORS_FCMD, 3, 1⟩
def ORS_FCMD_BUSY : Fld := ⟨R.ORS_FCMD, 4, 1⟩
def ORS_FCMD_STATUS : Fld := ⟨R.ORS_FCMD, 8, 3⟩
def ORS_FCMD_INDEX : Fld := ⟨R.ORS_FCMD, 18, 14⟩
def ORS_FDATA_DATA (i : Nat) : Fld := ⟨(R.ORS_FDATA i), 0, 32⟩
def TMG_NCMD_OP : Fld := ⟨R.TMG_NCMD, 0, 3⟩
def TMG_NCMD_KIND : Fld := ⟨R.TMG_NCMD, 3, 3⟩
def TMG_NCMD_GO : Fld := ⟨R.TMG_NCMD, 6, 1⟩
def TMG_NCMD_BUSY : Fld := ⟨R.TMG_NCMD, 7, 1⟩
def TMG_NCMD_STATUS : Fld := ⟨R.TMG_NCMD, 8, 3⟩
def TMG_NCMD_INDEX : Fld := ⟨R.TMG_NCMD, 14, 18⟩
def TMG_NDATA_DATA (i : Nat) : Fld := ⟨(R.TMG_NDATA i), 0, 32⟩
def TMG_LTCFG_MAXBOUND : Fld := ⟨R.TMG_LTCFG, 0, 8⟩
def TMG_LTCFG_HORIZON : Fld := ⟨R.TMG_LTCFG, 16, 16⟩
def TMG_SAMPCFG_EN : Fld := ⟨R.TMG_SAMPCFG, 0, 1⟩
def TMG_SAMPCFG_DUNIT : Fld := ⟨R.TMG_SAMPCFG, 4, 4⟩
def TMG_SAMPCFG_SWARD : Fld := ⟨R.TMG_SAMPCFG, 8, 6⟩
def TMG_SAMPCFG_CHANNEL : Fld := ⟨R.TMG_SAMPCFG, 14, 8⟩
def TMG_SAMPPER_PERIOD : Fld := ⟨R.TMG_SAMPPER, 0, 20⟩
def TMG_SAMPCNT_COUNT : Fld := ⟨R.TMG_SAMPCNT, 0, 13⟩
def TMG_PORTCFG_OVH (i : Nat) : Fld := ⟨(R.TMG_PORTCFG i), 0, 6⟩
def TMG_PORTCFG_GCLEN (i : Nat) : Fld := ⟨(R.TMG_PORTCFG i), 6, 1⟩
def TMG_GCLCTL_COMMIT (i : Nat) : Fld := ⟨(R.TMG_GCLCTL i), 0, 1⟩
def TMG_GCLCTL_PENDING (i : Nat) : Fld := ⟨(R.TMG_GCLCTL i), 1, 1⟩
def TMG_GCLCTL_ERR (i : Nat) : Fld := ⟨(R.TMG_GCLCTL i), 2, 1⟩
def TMG_GCLCTL_CURENTRY (i : Nat) : Fld := ⟨(R.TMG_GCLCTL i), 16, 10⟩
def TMG_GCLCOUNT_COUNT (i : Nat) : Fld := ⟨(R.TMG_GCLCOUNT i), 0, 11⟩
def TMG_SAMPQ_QUEUE (i : Nat) : Fld := ⟨(R.TMG_SAMPQ i), 0, 17⟩
def TMG_GCL_GATES (i : Nat) (j : Nat) : Fld := ⟨(R.TMG_GCL i j), 0, 8⟩
def TMG_GCL_INTERVAL (i : Nat) (j : Nat) : Fld := ⟨(R.TMG_GCL i j + 4), 0, 32⟩
def CRY_EXCDEST_QUEUE : Fld := ⟨R.CRY_EXCDEST, 0, 17⟩
def CRY_EXCDEST_SWARD : Fld := ⟨R.CRY_EXCDEST, 17, 6⟩
def CRY_EXCDEST_CHANNEL : Fld := ⟨R.CRY_EXCDEST, 23, 8⟩
def CRY_EXCDEST_KIND : Fld := ⟨R.CRY_EXCDEST, 31, 1⟩
def CRY_STAT_VALID : Fld := ⟨R.CRY_STAT, 0, 22⟩
def CRY_MSTX_SA (i : Nat) : Fld := ⟨(R.CRY_MSTX i), 0, 21⟩
def CRY_MSTX_EN (i : Nat) : Fld := ⟨(R.CRY_MSTX i), 21, 1⟩
def CRY_MSTX_SCINC (i : Nat) : Fld := ⟨(R.CRY_MSTX i), 22, 1⟩
def CRY_MSTX_ES (i : Nat) : Fld := ⟨(R.CRY_MSTX i), 23, 1⟩
def CRY_MSRXCFG_IMPLPORT (i : Nat) : Fld := ⟨(R.CRY_MSRXCFG i), 0, 16⟩
def CRY_MSRXSC_VALID (i : Nat) (j : Nat) : Fld := ⟨(R.CRY_MSRXSC i j), 0, 1⟩
def CRY_MSRXSA_SA (i : Nat) (j : Nat) (k : Nat) : Fld := ⟨(R.CRY_MSRXSA i j k), 0, 21⟩
def CRY_MSRXSA_SAV (i : Nat) (j : Nat) (k : Nat) : Fld := ⟨(R.CRY_MSRXSA i j k), 31, 1⟩
def XPT_CFG_QPNBASE : Fld := ⟨R.XPT_CFG, 0, 4⟩
def XPT_CFG_CNPINT : Fld := ⟨R.XPT_CFG, 16, 16⟩
def XPT_CC_RMIN : Fld := ⟨R.XPT_CC, 0, 21⟩
def XPT_CCINC_RAI : Fld := ⟨R.XPT_CCINC, 0, 21⟩
def XPT_CCINC_RINC : Fld := ⟨R.XPT_CCINC, 21, 11⟩
def XPT_STAT_COUNT : Fld := ⟨R.XPT_STAT, 0, 20⟩
def ENG_SWCTL_RUN (i : Nat) : Fld := ⟨(R.ENG_SWCTL i), 0, 1⟩
def ENG_SWCTL_STOPPED (i : Nat) : Fld := ⟨(R.ENG_SWCTL i), 1, 1⟩
def ENG_SWCTL_ICINV (i : Nat) : Fld := ⟨(R.ENG_SWCTL i), 2, 1⟩
def ENG_SWCTL_REGWR (i : Nat) : Fld := ⟨(R.ENG_SWCTL i), 3, 1⟩
def ENG_SWCODE_BASE (i : Nat) : Fld := ⟨(R.ENG_SWCODE i), 16, 19⟩
def ENG_SWCSIZE_SIZE (i : Nat) : Fld := ⟨(R.ENG_SWCSIZE i), 0, 9⟩
def ENG_SWDWIN_EN (i : Nat) (j : Nat) : Fld := ⟨(R.ENG_SWDWIN i j), 0, 1⟩
def ENG_SWDWIN_RD (i : Nat) (j : Nat) : Fld := ⟨(R.ENG_SWDWIN i j), 1, 1⟩
def ENG_SWDWIN_WR (i : Nat) (j : Nat) : Fld := ⟨(R.ENG_SWDWIN i j), 2, 1⟩
def ENG_SWDWIN_LOG2SIZE (i : Nat) (j : Nat) : Fld := ⟨(R.ENG_SWDWIN i j), 8, 6⟩
def ENG_SWSUP_SUPTID (i : Nat) : Fld := ⟨(R.ENG_SWSUP i), 0, 7⟩
def ENG_SWSUP_SUPCHAN (i : Nat) : Fld := ⟨(R.ENG_SWSUP i), 8, 8⟩
def ENG_TEXC_CODE (i : Nat) : Fld := ⟨(R.ENG_TEXC i), 0, 8⟩
def ENG_TEXC_TRAPIMM (i : Nat) : Fld := ⟨(R.ENG_TEXC i), 16, 16⟩
def ENG_TEXCPC_PC (i : Nat) : Fld := ⟨(R.ENG_TEXCPC i), 0, 32⟩
def ENG_TEXCINSTR_INSTR (i : Nat) : Fld := ⟨(R.ENG_TEXCINSTR i), 0, 32⟩
def ENG_DBGSEL_TID : Fld := ⟨R.ENG_DBGSEL, 0, 13⟩
def ENG_SKYQSTAT_COUNT : Fld := ⟨R.ENG_SKYQSTAT, 0, 9⟩
def ENG_SKYQSTAT_LOST : Fld := ⟨R.ENG_SKYQSTAT, 16, 16⟩
def ENG_SKYQPOP_POP : Fld := ⟨R.ENG_SKYQPOP, 0, 1⟩
def ENG_SKYQDATA_DATA (i : Nat) : Fld := ⟨(R.ENG_SKYQDATA i), 0, 32⟩
def ENG_TDBG_HALT (i : Nat) : Fld := ⟨(R.ENG_TDBG i), 0, 1⟩
def ENG_TDBG_RESUME (i : Nat) : Fld := ⟨(R.ENG_TDBG i), 1, 1⟩
def ENG_TDBG_STEP (i : Nat) : Fld := ⟨(R.ENG_TDBG i), 2, 1⟩
def ENG_TDBG_KILL (i : Nat) : Fld := ⟨(R.ENG_TDBG i), 3, 1⟩
def ENG_TDBG_STATE (i : Nat) : Fld := ⟨(R.ENG_TDBG i), 4, 3⟩
def ENG_TDBG_HALTED (i : Nat) : Fld := ⟨(R.ENG_TDBG i), 7, 1⟩
def ENG_TDBG_WAITKIND (i : Nat) : Fld := ⟨(R.ENG_TDBG i), 8, 4⟩
def ENG_CHCFG_HOLDLIM (i : Nat) (j : Nat) : Fld := ⟨(R.ENG_CHCFG i j), 0, 16⟩
def ENG_CHCFG_SEALED (i : Nat) (j : Nat) : Fld := ⟨(R.ENG_CHCFG i j), 16, 5⟩
def ENG_CHCFG_CLAIMED (i : Nat) (j : Nat) : Fld := ⟨(R.ENG_CHCFG i j), 21, 5⟩
def ENG_WCSNAP_MASK (i : Nat) : Fld := ⟨(R.ENG_WCSNAP i), 0, 32⟩
def ENG_WCSNAP_STATE (i : Nat) : Fld := ⟨(R.ENG_WCSNAP i), 32, 3⟩
def ENG_WCSNAP_WAITKIND (i : Nat) : Fld := ⟨(R.ENG_WCSNAP i), 35, 4⟩
def ENG_WCSNAP_OBJECT (i : Nat) : Fld := ⟨(R.ENG_WCSNAP i), 39, 14⟩
def STK_CFG_EN : Fld := ⟨R.STK_CFG, 0, 1⟩
def STK_CFG_IDMODE : Fld := ⟨R.STK_CFG, 1, 1⟩
def STK_CFG_PRIO : Fld := ⟨R.STK_CFG, 2, 8⟩
def STK_CFG_SUCCTMO : Fld := ⟨R.STK_CFG, 16, 8⟩
def STK_STATUS_MYID : Fld := ⟨R.STK_STATUS, 0, 2⟩
def STK_STATUS_IDVALID : Fld := ⟨R.STK_STATUS, 2, 1⟩
def STK_STATUS_MASTER : Fld := ⟨R.STK_STATUS, 3, 1⟩
def STK_STATUS_MASTERID : Fld := ⟨R.STK_STATUS, 4, 2⟩
def STK_STATUS_VIEW : Fld := ⟨R.STK_STATUS, 6, 4⟩
def STK_STATUS_ISOLATED : Fld := ⟨R.STK_STATUS, 10, 1⟩
def STK_STATUS_LINKUP : Fld := ⟨R.STK_STATUS, 11, 2⟩
def STK_STATUS_MGEN : Fld := ⟨R.STK_STATUS, 16, 8⟩
def STK_CTL_HANDOVER : Fld := ⟨R.STK_CTL, 0, 1⟩
def STK_WIN_EN (i : Nat) : Fld := ⟨(R.STK_WIN i), 0, 1⟩
def STK_WIN_KIND (i : Nat) : Fld := ⟨(R.STK_WIN i), 1, 1⟩
def STK_WIN_MEMBER (i : Nat) : Fld := ⟨(R.STK_WIN i), 2, 2⟩
def STK_WINL_LBASE (i : Nat) : Fld := ⟨(R.STK_WINL i), 0, 17⟩
def STK_WINC_COUNT (i : Nat) : Fld := ⟨(R.STK_WINC i), 0, 18⟩
def STK_WINR_RBASE (i : Nat) : Fld := ⟨(R.STK_WINR i), 0, 17⟩
def MGT_STATUS_AGENT : Fld := ⟨R.MGT_STATUS, 0, 2⟩
def MGT_SMBCFG_ADDR : Fld := ⟨R.MGT_SMBCFG, 0, 7⟩
def MGT_SMBCFG_SPEED : Fld := ⟨R.MGT_SMBCFG, 8, 2⟩
def MGT_SMBCFG_ALERTSEV : Fld := ⟨R.MGT_SMBCFG, 10, 3⟩
def MGT_EID_SMB : Fld := ⟨R.MGT_EID, 0, 8⟩
def MGT_EID_HP0 : Fld := ⟨R.MGT_EID, 8, 8⟩
def MGT_EID_HP1 : Fld := ⟨R.MGT_EID, 16, 8⟩
def MGT_BIND_VDMEN : Fld := ⟨R.MGT_BIND, 0, 1⟩
def MGT_BIND_WRALLOW : Fld := ⟨R.MGT_BIND, 1, 3⟩
def CFS_STAT_BOOTED : Fld := ⟨R.CFS_STAT, 0, 2⟩
def CFS_STAT_STATEA : Fld := ⟨R.CFS_STAT, 2, 3⟩
def CFS_STAT_STATEB : Fld := ⟨R.CFS_STAT, 5, 3⟩
def CFS_STAT_BOOTSEL : Fld := ⟨R.CFS_STAT, 8, 2⟩
def CFS_STAT_STACKID : Fld := ⟨R.CFS_STAT, 10, 2⟩
def CFS_CMD_OP : Fld := ⟨R.CFS_CMD, 0, 3⟩
def CFS_CMD_GO : Fld := ⟨R.CFS_CMD, 3, 1⟩
def CFS_CMD_BUSY : Fld := ⟨R.CFS_CMD, 4, 1⟩
def CFS_CMD_STATUS : Fld := ⟨R.CFS_CMD, 8, 4⟩
def CFS_CMD_OWNER : Fld := ⟨R.CFS_CMD, 16, 3⟩
def CFS_CTL_WARMREQ : Fld := ⟨R.CFS_CTL, 0, 1⟩
def CFS_TESTDET_UNIT (i : Nat) : Fld := ⟨(R.CFS_TESTDET i), 0, 16⟩
def CFS_TESTDET_COUNT (i : Nat) : Fld := ⟨(R.CFS_TESTDET i), 16, 16⟩
def FN_ADMCFG_SQLOG2 (i : Nat) (j : Nat) : Fld := ⟨(R.FN_ADMCFG i j), 0, 4⟩
def FN_ADMCFG_CQLOG2 (i : Nat) (j : Nat) : Fld := ⟨(R.FN_ADMCFG i j), 4, 4⟩
def FN_ADMCFG_VECTOR (i : Nat) (j : Nat) : Fld := ⟨(R.FN_ADMCFG i j), 8, 10⟩
def FN_ADMCFG_INTEN (i : Nat) (j : Nat) : Fld := ⟨(R.FN_ADMCFG i j), 18, 1⟩
def FN_ADMCFG_EN (i : Nat) (j : Nat) : Fld := ⟨(R.FN_ADMCFG i j), 31, 1⟩
def FN_ADMSTAT_CMDGEN (i : Nat) (j : Nat) : Fld := ⟨(R.FN_ADMSTAT i j), 0, 8⟩
def FN_ADMSTAT_CQGEN (i : Nat) (j : Nat) : Fld := ⟨(R.FN_ADMSTAT i j), 8, 8⟩
def FN_ADMSTAT_STATE (i : Nat) (j : Nat) : Fld := ⟨(R.FN_ADMSTAT i j), 16, 2⟩
def FN_ADMSTAT_ERR (i : Nat) (j : Nat) : Fld := ⟨(R.FN_ADMSTAT i j), 18, 1⟩
def FN_NOTICE_LOST (i : Nat) (j : Nat) : Fld := ⟨(R.FN_NOTICE i j), 0, 16⟩
def FN_TIMEINFO_BOUND (i : Nat) (j : Nat) : Fld := ⟨(R.FN_TIMEINFO i j), 0, 8⟩
def FN_TIMEINFO_STATE (i : Nat) (j : Nat) : Fld := ⟨(R.FN_TIMEINFO i j), 8, 3⟩
def FN_MSIXCTL_MASK (i : Nat) (j : Nat) (k : Nat) : Fld := ⟨(R.FN_MSIXCTL i j k), 0, 1⟩
end F

end Sys2Proof.Machine
end

