-- ==== Sys2Proof/Machine/RegTable.lean ====
section
/-! DEFINITION. The register tables of every chapter, block by block: for each register its offset, its array strides, its
words, how it is read (R2), and its fields with their access code (R4), class (R7 to R9), reset value, and the limits a stored
value is held to. Bits no field names are reserved (R6). -/

namespace Sys2Proof.Machine.RegTable

/-- Registers of block TOP, block ID 0x0. -/
def tTOP : List RegD := [
  /- TOP_IDENT -/ ⟨0x0, [], 1, .plain, [fd 0 16 .ro .live 0x1fd3, fd 16 16 .ro .live 0x7280]⟩,
  /- TOP_REV -/ ⟨0x4, [], 1, .plain, [fd 0 8 .ro .live 0]⟩,
  /- TOP_SERIAL -/ ⟨0x8, [], 2, .pair, [fd 0 64 .ro .live 0]⟩,
  /- TOP_BOARD -/ ⟨0x10, [], 1, .plain, [fd 0 16 .rwl .live 0, fd 16 16 .rwl .live 0]⟩,
  /- TOP_PIPEMAP -/ ⟨0x100, [], 1, .plain, [fd 0 32 .rw .quiet 0xffaa5500]⟩,
  /- TOP_MASTERS -/ ⟨0x104, [], 1, .plain, [fd 0 1 .rw .live 0, fd 1 1 .rw .live 0, fd 2 1 .ro .live 0]⟩,
  /- TOP_LOCK -/ ⟨0x108, [], 1, .plain, [fd 0 1 .w1s .live 0]⟩]

/-- Registers of block CGU, block ID 0x1. -/
def tCGU : List RegD := [
  /- CGU_COMPAT -/ ⟨0x100000, [], 1, .plain, [fd 0 1 .rw .live 0]⟩,
  /- CGU_REFSTAT -/ ⟨0x100004, [], 1, .plain, [fd 0 1 .ro .live 0, fd 1 1 .ro .live 1, fd 16 16 .ro .live 0]⟩,
  /- CGU_REFCOUNT -/ ⟨0x100008, [], 1, .plain, [fd 0 32 .ro .live 0]⟩,
  /- CGU_PLLSTAT -/ ⟨0x10000c, [], 1, .plain, [fd 0 13 .ro .live 0]⟩,
  /- CGU_GPIOSAFE -/ ⟨0x100010, [], 1, .plain, [fd 0 32 .rw .live 0]⟩,
  /- CGU_CLKEN -/ ⟨0x100100, [(256, 0x4)], 1, .plain, [fd 0 1 .rw .live 0, fd 1 1 .ro .live 0]⟩,
  /- CGU_ISL -/ ⟨0x100800, [(80, 0x8)], 1, .plain, [fd 0 1 .rw .live 0, fd 1 1 .rw .live 0, fd 2 1 .ro .live 0, fd 3 1 .ro .live 0, fd 4 1 .w1c .live 0, fd 16 16 .ro .live 0]⟩,
  /- CGU_SWITCHES -/ ⟨0x100804, [(80, 0x8)], 1, .plain, [fd 0 32 .ro .live 0]⟩]

/-- Registers of block RST, block ID 0x2. -/
def tRST : List RegD := [
  /- RST_CTL -/ ⟨0x200000, [], 1, .plain, [fd 0 1 .w1s .live 0, fd 1 1 .w1s .live 0]⟩,
  /- RST_STATE -/ ⟨0x200004, [], 1, .plain, [fd 0 3 .ro .live 0, fd 4 4 .ro .live 0]⟩,
  /- RST_BLK -/ ⟨0x200010, [], 1, .plain, [fd 0 8 .rw .live 0, fd 8 6 .rw .live 0, fd 14 1 .wo .live 0, fd 15 1 .ro .live 0, fd 16 3 .ro .live 0]⟩,
  /- RST_MGTWDOG -/ ⟨0x200014, [], 1, .plain, [fd 0 16 .rw .live 0x3e8, fd 16 1 .rw .live 1, fd 17 1 .wo .live 0]⟩,
  /- RST_THERM -/ ⟨0x200020, [], 1, .plain, [fd 0 8 .rw .live 0x64, fd 8 2 .rw .live 1, fd 16 8 .ro .live 0x73, fd 24 1 .ro .live 0]⟩,
  /- RST_TEMP -/ ⟨0x200040, [(8, 0x4)], 1, .plain, [fd 0 16 .ro .live 0, fd 16 16 .ro .live 0]⟩]

/-- Registers of block TKU, block ID 0x3. -/
def tTKU : List RegD := [
  /- TKU_STATE -/ ⟨0x300000, [], 1, .plain, [fd 0 3 .ro .live 0, fd 4 2 .ro .live 0, fd 6 2 .ro .live 0, fd 8 8 .ro .live 0xff]⟩,
  /- TKU_CTRL -/ ⟨0x300004, [], 1, .plain, [fd 0 2 .rw .live 0, fd 4 4 .rw .live 0, fd 8 1 .w1s .live 0, fd 9 1 .w1s .live 0, fd 10 1 .w1s .live 0, fd 11 1 .rw .live 0, fd 12 1 .rw .live 0]⟩,
  /- TKU_BUSCFG -/ ⟨0x300008, [], 1, .plain, [fd 0 32 .rw .live 0x80]⟩,
  /- TKU_TIMEINFO -/ ⟨0x30000c, [], 1, .plain, [fd 0 8 .ro .live 0xff, fd 8 3 .ro .live 0]⟩,
  /- TKU_TIME -/ ⟨0x300010, [], 3, .lat, [fd 0 96 .ro .live 0]⟩,
  /- TKU_ADJUNC -/ ⟨0x30001c, [], 1, .plain, [fd 0 32 .rw .live 0]⟩,
  /- TKU_ADJCMD -/ ⟨0x300020, [], 1, .plain, [fd 0 2 .rw .live 0, fd 2 1 .wo .live 0, fd 3 1 .ro .live 0, fd 4 1 .w1c .live 0]⟩,
  /- TKU_ADJVAL -/ ⟨0x300024, [], 3, .plain, [fd 0 96 .rw .live 0]⟩,
  /- TKU_FREQ -/ ⟨0x300030, [], 1, .plain, [fd 0 32 .rw .live 0]⟩,
  /- TKU_SRVUNC -/ ⟨0x300034, [], 1, .plain, [fd 0 32 .rw .live 0]⟩,
  /- TKU_SRCACC -/ ⟨0x300038, [], 1, .plain, [fd 0 32 .rw .live 0]⟩,
  /- TKU_ASYMUNC -/ ⟨0x30003c, [], 1, .plain, [fd 0 32 .rw .live 0]⟩,
  /- TKU_FRQUNC -/ ⟨0x300040, [], 1, .plain, [fd 0 32 .rw .live 0]⟩,
  /- TKU_DRIFT -/ ⟨0x300044, [], 1, .plain, [fd 0 32 .rw .live 0]⟩,
  /- TKU_HOLDCFG -/ ⟨0x300048, [], 1, .plain, [fd 0 8 .rw .live 0x98, fd 8 16 .rw .live 0x3e8]⟩,
  /- TKU_LOCKTHR -/ ⟨0x30004c, [], 1, .plain, [fd 0 32 .rw .live 0x1000]⟩,
  /- TKU_OFFSET -/ ⟨0x300050, [], 2, .pair, [fd 0 64 .rw .live 0]⟩,
  /- TKU_STKUNC -/ ⟨0x300058, [], 1, .plain, [fd 0 32 .rw .live 0x200]⟩,
  /- TKU_COMMIT -/ ⟨0x30005c, [], 1, .plain, [fd 0 1 .w1s .live 0, fd 1 1 .ro .live 0]⟩,
  /- TKU_PPSICFG -/ ⟨0x300060, [], 1, .plain, [fd 0 1 .rw .live 0, fd 1 1 .rw .live 0, fd 8 24 .rw .live 0]⟩,
  /- TKU_PPSISTAMP -/ ⟨0x300064, [], 3, .lat, [fd 0 96 .ro .live 0]⟩,
  /- TKU_PPSOCFG -/ ⟨0x300070, [], 1, .plain, [fd 0 1 .rw .live 0, fd 8 8 .rw .live 0x50, fd 16 16 .rw .live 0x30d4 |>.clamp 1 62500]⟩,
  /- TKU_PPSOCAL -/ ⟨0x300074, [], 1, .plain, [fd 0 32 .rw .live 0]⟩,
  /- TKU_PPSOSTAMP -/ ⟨0x300078, [], 3, .lat, [fd 0 96 .ro .live 0]⟩,
  /- TKU_PPSSTAT -/ ⟨0x300084, [], 1, .plain, [fd 0 16 .rc .live 0, fd 16 16 .rc .live 0]⟩,
  /- TKU_PTPDROP -/ ⟨0x300088, [], 1, .plain, [fd 0 32 .rc .live 0]⟩,
  /- TKU_PTMCTL -/ ⟨0x300100, [(2, 0x40)], 1, .plain, [fd 0 1 .rw .live 0, fd 1 1 .wo .live 0, fd 2 1 .ro .live 0, fd 4 8 .rw .live 0xa, fd 12 12 .rc .live 0, fd 24 8 .ro .live 0xff]⟩,
  /- TKU_PTMDEV -/ ⟨0x300104, [(2, 0x40)], 3, .lat, [fd 0 96 .ro .live 0]⟩,
  /- TKU_PTMHOST -/ ⟨0x300110, [(2, 0x40)], 2, .plain, [fd 0 64 .ro .live 0]⟩,
  /- TKU_PTMDLY -/ ⟨0x300118, [(2, 0x40)], 1, .plain, [fd 0 32 .ro .live 0]⟩,
  /- TKU_TREC -/ ⟨0x300200, [], 16, .lat, [fd 0 512 .ro .live 0xff000001]⟩,
  /- TKU_TRECSH -/ ⟨0x300240, [], 4, .plain, [fd 0 128 .rw .shadow 0]⟩,
  /- TKU_PTPCFG -/ ⟨0x300300, [(16, 0x4)], 1, .plain, [fd 0 1 .rw .live 0, fd 1 1 .rw .live 0, fd 2 2 .rw .live 0 |>.forbid 3, fd 4 3 .rw .live 1]⟩,
  /- TKU_ASYM -/ ⟨0x300340, [(16, 0x4)], 1, .plain, [fd 0 32 .rw .live 0]⟩,
  /- TKU_PDELAY -/ ⟨0x300380, [(16, 0x4)], 1, .plain, [fd 0 32 .rw .live 0]⟩,
  /- TKU_CALRX -/ ⟨0x300400, [(16, 0x8)], 1, .plain, [fd 0 32 .rw .live 0]⟩,
  /- TKU_CALTX -/ ⟨0x300404, [(16, 0x8)], 1, .plain, [fd 0 32 .rw .live 0]⟩,
  /- TKU_ISLDLY -/ ⟨0x300800, [(80, 0x8)], 1, .plain, [fd 0 32 .rw .live 0]⟩,
  /- TKU_ISLUNC -/ ⟨0x300804, [(80, 0x8)], 1, .plain, [fd 0 32 .rw .live 0]⟩,
  /- TKU_ISLSTAT -/ ⟨0x300c00, [(80, 0x4)], 1, .plain, [fd 0 32 .rc .live 0]⟩]

/-- Registers of block EVR, block ID 0x4. -/
def tEVR : List RegD := [
  /- EVR_CFG -/ ⟨0x400000, [], 1, .plain, [fd 0 1 .rw .live 0, fd 1 3 .rw .live 2 |>.clamp 0 4, fd 4 3 .rw .live 0]⟩,
  /- EVR_CIRCBASE -/ ⟨0x400008, [], 2, .pair, [fd 12 23 .rw .quiet 0]⟩,
  /- EVR_CIRCLOG2 -/ ⟨0x400010, [], 1, .plain, [fd 0 5 .rw .quiet 0x10 |>.clamp 10 24]⟩,
  /- EVR_CIRCPI -/ ⟨0x400014, [], 1, .plain, [fd 0 32 .ro .live 0]⟩,
  /- EVR_KEEPSTAT -/ ⟨0x400018, [], 1, .plain, [fd 0 32 .ro .live 0]⟩,
  /- EVR_KEEPACK -/ ⟨0x40001c, [], 1, .plain, [fd 0 32 .rw .live 0]⟩,
  /- EVR_MIRROR -/ ⟨0x400040, [(2, 0x20)], 1, .plain, [fd 0 1 .rw .live 0, fd 1 1 .rw .quiet 0, fd 2 5 .rw .quiet 0xa |>.clamp 4 20, fd 8 10 .rw .quiet 0x3ff]⟩,
  /- EVR_MIRRORBASE -/ ⟨0x400048, [(2, 0x20)], 2, .pair, [fd 12 52 .rw .quiet 0]⟩,
  /- EVR_RCMD -/ ⟨0x400100, [], 1, .plain, [fd 0 2 .rw .live 0, fd 2 1 .wo .live 0, fd 3 1 .ro .live 0, fd 4 3 .ro .live 0]⟩,
  /- EVR_RINDEX -/ ⟨0x400104, [], 1, .plain, [fd 0 32 .rw .live 0]⟩,
  /- EVR_RDATA -/ ⟨0x400140, [(16, 0x4)], 1, .plain, [fd 0 32 .ro .live 0]⟩,
  /- EVR_RL -/ ⟨0x401000, [(256, 0x4)], 1, .plain, [fd 0 16 .rw .live 0x3e8, fd 16 8 .rw .live 0x40]⟩,
  /- EVR_RLCODE -/ ⟨0x402000, [(64, 0x8)], 1, .plain, [fd 0 16 .rw .live 0, fd 16 1 .rw .live 0]⟩,
  /- EVR_RLCODE1 -/ ⟨0x402004, [(64, 0x8)], 1, .plain, [fd 0 16 .rw .live 0, fd 16 8 .rw .live 0]⟩,
  /- EVR_CNT -/ ⟨0x403000, [(32, 0x8)], 2, .pair, [fd 0 48 .ro .live 0]⟩]

/-- Registers of block FLT, block ID 0x5. -/
def tFLT : List RegD := [
  /- FLT_NOTIFY -/ ⟨0x500000, [], 1, .plain, [fd 0 3 .rw .live 3 |>.clamp 0 4, fd 3 1 .rw .live 0, fd 4 10 .rw .live 0]⟩,
  /- FLT_STATUS -/ ⟨0x500004, [], 1, .plain, [fd 0 5 .ro .live 0, fd 5 1 .ro .live 0]⟩,
  /- FLT_STORM -/ ⟨0x500008, [], 1, .plain, [fd 0 16 .rw .live 0x3e8]⟩,
  /- FLT_LVLCTL -/ ⟨0x500100, [(5, 0x100)], 1, .plain, [fd 0 1 .w1s .live 0, fd 1 1 .w1c .live 0, fd 2 1 .ro .live 0, fd 16 16 .rw .live 0]⟩,
  /- FLT_LVLOVF -/ ⟨0x500104, [(5, 0x100)], 1, .plain, [fd 0 32 .rc .live 0]⟩,
  /- FLT_FIRST -/ ⟨0x500140, [(5, 0x100), (16, 0x4)], 1, .plain, [fd 0 32 .ro .live 0]⟩,
  /- FLT_NEXT -/ ⟨0x500180, [(5, 0x100), (16, 0x4)], 1, .plain, [fd 0 32 .ro .live 0]⟩,
  /- FLT_FAULTED -/ ⟨0x501000, [(64, 0x4)], 1, .plain, [fd 0 16 .ro .live 0, fd 16 1 .ro .live 0, fd 17 1 .w1s .live 0]⟩,
  /- FLT_CNT -/ ⟨0x502000, [(32, 0x8)], 2, .pair, [fd 0 48 .ro .live 0]⟩]

/-- Registers of block HP, block ID 0x10. -/
def tHP : List RegD := [
  /- HP_LINKCFG -/ ⟨0x1000000, [(2, 0x100000)], 1, .plain, [fd 0 1 .rw .live 1, fd 1 1 .rw .quiet 0, fd 2 3 .rw .quiet 6 |>.forbid 0 |>.forbid 7, fd 5 1 .rw .quiet 0, fd 6 1 .rw .quiet 0]⟩,
  /- HP_STATUS -/ ⟨0x1000004, [(2, 0x100000)], 1, .plain, [fd 0 1 .ro .live 0, fd 1 1 .ro .live 1, fd 2 3 .ro .live 0, fd 5 5 .ro .live 0, fd 10 1 .ro .live 0]⟩,
  /- HP_PMCFG -/ ⟨0x1000008, [(2, 0x100000)], 1, .plain, [fd 0 8 .rw .live 0x20, fd 8 1 .rw .live 1, fd 16 8 .rw .live 0x64]⟩,
  /- HP_CPLTO -/ ⟨0x100000c, [(2, 0x100000)], 1, .plain, [fd 0 16 .rw .live 0x7d00 |>.clamp 50 64000, fd 16 1 .rw .live 0]⟩,
  /- HP_COMMIT -/ ⟨0x1000010, [(2, 0x100000)], 1, .plain, [fd 0 1 .w1s .live 0, fd 1 1 .ro .live 0, fd 2 1 .w1c .live 0, fd 4 1 .ro .live 0, fd 5 4 .ro .live 0]⟩,
  /- HP_CNT -/ ⟨0x1000100, [(2, 0x100000), (32, 0x8)], 2, .pair, [fd 0 48 .ro .live 0]⟩,
  /- HP_IBW -/ ⟨0x1001000, [(2, 0x100000), (2, 0x200), (16, 0x20)], 1, .plain, [fd 0 1 .rw .shadow 0, fd 1 1 .rw .shadow 0, fd 2 1 .rw .shadow 0, fd 8 5 .rw .shadow 0xc]⟩,
  /- HP_IBWBASE -/ ⟨0x1001008, [(2, 0x100000), (2, 0x200), (16, 0x20)], 2, .pair, [fd 0 35 .rw .shadow 0]⟩,
  /- HP_WAKE -/ ⟨0x1002000, [(2, 0x100000), (514, 0x10)], 1, .plain, [fd 0 1 .rw .live 0, fd 1 1 .rw .live 0]⟩,
  /- HP_WAKEADDR -/ ⟨0x1002008, [(2, 0x100000), (514, 0x10)], 2, .pair, [fd 0 48 .rw .live 0]⟩]

/-- Registers of block FNM, block ID 0x20. -/
def tFNM : List RegD := [
  /- FNM_POOL -/ ⟨0x2000000, [(2, 0x40), (5, 0x4)], 1, .plain, [fd 0 32 .rw .live 0]⟩,
  /- FNM_POOLUSE -/ ⟨0x2000020, [(2, 0x40), (5, 0x4)], 1, .plain, [fd 0 32 .ro .live 0]⟩,
  /- FNM_VFTEN -/ ⟨0x2001000, [(2, 0x800), (512, 0x4)], 1, .plain, [fd 0 10 .ro .live 0, fd 10 4 .ro .live 0, fd 14 1 .ro .live 0]⟩,
  /- FNM_TSTAT -/ ⟨0x2002000, [(1024, 0x4)], 1, .plain, [fd 0 2 .ro .live 0, fd 4 1 .ro .live 0, fd 8 8 .ro .live 0, fd 16 5 .ro .live 0, fd 21 1 .ro .live 0]⟩,
  /- FNM_TCNT -/ ⟨0x2010000, [(1024, 0x40), (8, 0x8)], 2, .pair, [fd 0 48 .ro .live 0]⟩]

/-- Registers of block QMG, block ID 0x30. -/
def tQMG : List RegD := [
  /- QMG_TRACECFG -/ ⟨0x3000000, [], 1, .plain, [fd 0 1 .rw .live 0, fd 1 6 .rw .live 0, fd 7 8 .rw .live 0]⟩,
  /- QMG_QCMD -/ ⟨0x3000010, [], 1, .plain, [fd 0 3 .rw .live 0, fd 3 1 .wo .live 0, fd 4 1 .ro .live 0, fd 5 3 .ro .live 0, fd 8 17 .rw .live 0]⟩,
  /- QMG_QDATA -/ ⟨0x3000040, [(16, 0x4)], 1, .plain, [fd 0 32 .ro .live 0]⟩,
  /- QMG_CNT -/ ⟨0x3001000, [(2, 0x100), (32, 0x8)], 2, .pair, [fd 0 48 .ro .live 0]⟩]

/-- Registers of block MOV, block ID 0x40. -/
def tMOV : List RegD := [
  /- MOV_COMMIT -/ ⟨0x4000000, [], 1, .plain, [fd 0 8 .rw .live 0, fd 8 1 .w1s .live 0, fd 9 1 .ro .live 0, fd 10 1 .w1c .live 0, fd 16 3 .ro .live 0]⟩,
  /- MOV_LINES -/ ⟨0x4000004, [], 1, .plain, [fd 0 8 .ro .live 0]⟩,
  /- MOV_CH -/ ⟨0x4001000, [(256, 0x40)], 2, .plain, [fd 0 1 .rw .shadow 0, fd 1 1 .rw .shadow 0, fd 2 1 .rw .shadow 0, fd 3 1 .rw .shadow 0, fd 4 1 .rw .shadow 0, fd 5 1 .rw .shadow 0, fd 8 6 .rw .shadow 0, fd 14 7 .rw .shadow 0x10, fd 32 10 .rw .shadow 0, fd 42 1 .rw .shadow 0, fd 43 1 .rw .shadow 0, fd 44 6 .rw .shadow 0, fd 50 8 .rw .shadow 0]⟩,
  /- MOV_CHHBASE -/ ⟨0x4001008, [(256, 0x40)], 2, .pair, [fd 0 64 .rw .shadow 0]⟩,
  /- MOV_CHHLOG -/ ⟨0x4001010, [(256, 0x40)], 1, .plain, [fd 0 6 .rw .shadow 0xc]⟩,
  /- MOV_CHDBASE -/ ⟨0x4001018, [(256, 0x40)], 2, .pair, [fd 0 35 .rw .shadow 0]⟩,
  /- MOV_CHDLOG -/ ⟨0x4001020, [(256, 0x40)], 1, .plain, [fd 0 6 .rw .shadow 0xc]⟩,
  /- MOV_CHSTAT -/ ⟨0x4001028, [(256, 0x40)], 1, .plain, [fd 0 8 .ro .live 0, fd 8 1 .ro .live 0]⟩,
  /- MOV_CNT -/ ⟨0x4010000, [(256, 0x40), (8, 0x8)], 2, .pair, [fd 0 48 .ro .live 0]⟩]

/-- Registers of block BPM, block ID 0x50. -/
def tBPM : List RegD := [
  /- BPM_CFG -/ ⟨0x5000000, [], 1, .plain, [fd 0 1 .rw .live 1, fd 16 16 .rw .live 0x64]⟩,
  /- BPM_HBMBASE -/ ⟨0x5000008, [], 2, .pair, [fd 16 19 .rw .quiet 0]⟩,
  /- BPM_HBMSIZE -/ ⟨0x5000010, [], 1, .plain, [fd 0 20 .rw .quiet 0]⟩,
  /- BPM_CHIPCNT -/ ⟨0x5000100, [(8, 0x20)], 1, .plain, [fd 0 20 .rw .quiet 0]⟩,
  /- BPM_HBMCNT -/ ⟨0x5000104, [(8, 0x20)], 1, .plain, [fd 0 20 .rw .quiet 0]⟩,
  /- BPM_CHIPBASE -/ ⟨0x5000108, [(8, 0x20)], 1, .plain, [fd 0 26 .ro .live 0]⟩,
  /- BPM_CHIPFREE -/ ⟨0x500010c, [(8, 0x20)], 1, .plain, [fd 0 20 .ro .live 0]⟩,
  /- BPM_HBMOFF -/ ⟨0x5000110, [(8, 0x20)], 2, .pair, [fd 0 64 .ro .live 0]⟩,
  /- BPM_HBMFREE -/ ⟨0x5000118, [(8, 0x20)], 1, .plain, [fd 0 20 .ro .live 0]⟩,
  /- BPM_CNT -/ ⟨0x5001000, [(32, 0x8)], 2, .pair, [fd 0 48 .ro .live 0]⟩,
  /- BPM_QUOTA -/ ⟨0x5004000, [(1280, 0x8)], 1, .plain, [fd 0 32 .rw .live 0]⟩,
  /- BPM_QUOTAUSE -/ ⟨0x5004004, [(1280, 0x8)], 1, .plain, [fd 0 32 .ro .live 0]⟩,
  /- BPM_SWGRP -/ ⟨0x5008000, [(64, 0x4)], 1, .plain, [fd 0 6 .rw .live 0]⟩]

/-- Registers of block MAC, block ID 0x60. -/
def tMAC : List RegD := [
  /- MAC_QUADMODE -/ ⟨0x6000000, [(4, 0x4)], 1, .plain, [fd 0 3 .rw .quiet 0]⟩,
  /- MAC_LANECFG -/ ⟨0x6000040, [(16, 0x4)], 1, .plain, [fd 0 1 .rw .quiet 0, fd 1 1 .rw .quiet 0]⟩,
  /- MAC_PORTCFG -/ ⟨0x6001000, [(16, 0x100)], 1, .plain, [fd 0 1 .rw .live 0, fd 1 1 .rw .quiet 1, fd 2 1 .rw .quiet 0, fd 3 1 .rw .quiet 0, fd 16 15 .rw .live 0x5ee |>.clamp 64 16384]⟩,
  /- MAC_STATUS -/ ⟨0x6001004, [(16, 0x100)], 1, .plain, [fd 0 1 .ro .live 0, fd 1 1 .ro .live 1, fd 2 1 .ro .live 0, fd 4 8 .ro .live 0, fd 12 1 .ro .live 0, fd 13 1 .ro .live 0, fd 16 8 .ro .live 0]⟩,
  /- MAC_FCCFG -/ ⟨0x6001008, [(16, 0x100)], 1, .plain, [fd 0 2 .rw .quiet 0 |>.forbid 3, fd 8 8 .rw .quiet 0, fd 16 3 .rw .live 0, fd 24 8 .rw .live 0x64]⟩,
  /- MAC_PAUSE -/ ⟨0x600100c, [(16, 0x100)], 1, .plain, [fd 0 16 .rw .live 0xffff, fd 16 16 .rw .live 0x7fff]⟩,
  /- MAC_RXBUF -/ ⟨0x6001010, [(16, 0x100)], 1, .plain, [fd 0 14 .rw .live 0, fd 16 14 .ro .live 0]⟩,
  /- MAC_XTHR -/ ⟨0x6001020, [(16, 0x100), (8, 0x4)], 1, .plain, [fd 0 16 .rw .live 0xffff, fd 16 16 .rw .live 0]⟩,
  /- MAC_ADDR -/ ⟨0x6001040, [(16, 0x100)], 2, .pair, [fd 0 48 .rw .live 0]⟩,
  /- MAC_CNTSNAP -/ ⟨0x6001048, [(16, 0x100)], 1, .plain, [fd 0 1 .wo .live 0, fd 1 1 .rw .live 0]⟩,
  /- MAC_CNTHALF -/ ⟨0x6001050, [(16, 0x100), (4, 0x4)], 1, .plain, [fd 0 32 .w1c .live 0]⟩,
  /- MAC_CNT -/ ⟨0x6010000, [(16, 0x400), (128, 0x8)], 2, .pair, [fd 0 48 .ro .live 0]⟩]

/-- Registers of block MGE, block ID 0x61. -/
def tMGE : List RegD := [
  /- MGE_CFG -/ ⟨0x6100000, [], 1, .plain, [fd 0 1 .rw .live 0, fd 1 2 .rw .quiet 0 |>.forbid 3, fd 3 1 .rw .quiet 1, fd 16 11 .rw .live 0x5f2 |>.clamp 64 1522]⟩,
  /- MGE_STATUS -/ ⟨0x6100004, [], 1, .plain, [fd 0 1 .ro .live 1, fd 1 1 .ro .live 0]⟩,
  /- MGE_ADDR -/ ⟨0x6100008, [], 2, .pair, [fd 0 48 .rw .live 0]⟩,
  /- MGE_MDIO -/ ⟨0x6100010, [], 1, .plain, [fd 0 16 .rw .live 0, fd 16 5 .rw .live 0, fd 21 5 .rw .live 0, fd 26 1 .rw .live 0, fd 27 1 .wo .live 0, fd 28 1 .ro .live 0]⟩,
  /- MGE_CNT -/ ⟨0x6100100, [(16, 0x8)], 2, .pair, [fd 0 48 .ro .live 0]⟩]

/-- Registers of block PRS, block ID 0x70. -/
def tPRS : List RegD := [
  /- PRS_COMMIT -/ ⟨0x7000000, [], 1, .plain, [fd 0 1 .w1s .live 0, fd 1 1 .ro .live 0, fd 2 1 .w1c .live 0, fd 4 3 .ro .live 0, fd 16 10 .ro .live 0]⟩,
  /- PRS_HKEY -/ ⟨0x7000004, [], 1, .plain, [fd 0 32 .rw .shadow 0]⟩,
  /- PRS_SPREADKEY -/ ⟨0x7000008, [], 1, .plain, [fd 0 32 .rw .quiet 0]⟩,
  /- PRS_FRAGCFG -/ ⟨0x7000010, [], 1, .plain, [fd 0 16 .rw .live 0x2710]⟩,
  /- PRS_PORTPROF -/ ⟨0x7000040, [(16, 0x4)], 1, .plain, [fd 0 6 .rw .live 0]⟩,
  /- PRS_PROF -/ ⟨0x7001000, [(64, 0x20)], 8, .plain, [fd 0 8 .rw .shadow 0, fd 8 5 .rw .shadow 0x10 |>.clamp 0 16, fd 16 10 .rw .shadow 0x200 |>.clamp 64 512, fd 32 2 .rw .shadow 0, fd 34 2 .rw .shadow 0, fd 36 2 .rw .shadow 0, fd 38 2 .rw .shadow 0, fd 40 1 .rw .shadow 0, fd 41 2 .rw .shadow 1, fd 43 1 .rw .shadow 0, fd 44 1 .rw .shadow 1, fd 64 9 .rw .shadow 0, fd 73 3 .rw .shadow 0, fd 96 32 .rw .shadow 0, fd 128 17 .rw .shadow 0, fd 145 6 .rw .shadow 0, fd 151 8 .rw .shadow 0, fd 159 1 .rw .shadow 0]⟩,
  /- PRS_FSEL -/ ⟨0x7002000, [(512, 0x4)], 1, .plain, [fd 0 8 .rw .shadow 0, fd 8 1 .rw .shadow 0, fd 9 9 .rw .shadow 0, fd 18 2 .rw .shadow 0]⟩,
  /- PRS_NODE -/ ⟨0x7010000, [(256, 0x10)], 4, .plain, [fd 0 8 .rw .shadow 0, fd 8 8 .rw .shadow 0, fd 16 2 .rw .shadow 0, fd 18 1 .rw .shadow 0, fd 32 8 .rw .shadow 0, fd 40 4 .rw .shadow 0, fd 44 8 .rw .shadow 0, fd 52 2 .rw .shadow 0, fd 54 8 .rw .shadow 0, fd 64 8 .rw .shadow 0, fd 72 4 .rw .shadow 0, fd 76 16 .rw .shadow 0, fd 96 10 .rw .shadow 0, fd 106 5 .rw .shadow 0, fd 111 8 .rw .shadow 0, fd 119 1 .rw .shadow 1]⟩,
  /- PRS_TRANS -/ ⟨0x7011000, [(1024, 0x4)], 1, .plain, [fd 0 16 .rw .shadow 0, fd 16 8 .rw .shadow 0, fd 24 1 .rw .shadow 0]⟩,
  /- PRS_CNT -/ ⟨0x7020000, [(4, 0x100), (32, 0x8)], 2, .pair, [fd 0 48 .ro .live 0]⟩,
  /- PRS_ITAB -/ ⟨0x7080000, [(256, 0x800), (512, 0x4)], 1, .plain, [fd 0 17 .rw .live 0, fd 31 1 .rw .live 0]⟩]

/-- Registers of block CLS, block ID 0x71. -/
def tCLS : List RegD := [
  /- CLS_RULESWAP -/ ⟨0x7100000, [], 1, .plain, [fd 0 1 .ro .live 0, fd 1 1 .w1s .live 0, fd 2 1 .ro .live 0, fd 3 1 .w1c .live 0, fd 4 1 .ro .live 0, fd 16 16 .ro .live 0]⟩,
  /- CLS_SWAPSTAMP -/ ⟨0x7100008, [], 2, .pair, [fd 0 64 .ro .live 0]⟩,
  /- CLS_SWAPINFO -/ ⟨0x7100010, [], 1, .plain, [fd 0 8 .ro .live 0xff]⟩,
  /- CLS_SWAPSEQ -/ ⟨0x7100014, [], 1, .plain, [fd 0 32 .ro .live 0]⟩,
  /- CLS_INFLIGHT -/ ⟨0x7100018, [], 1, .plain, [fd 0 16 .ro .live 0, fd 16 16 .ro .live 0]⟩,
  /- CLS_HELD -/ ⟨0x710001c, [], 1, .plain, [fd 0 16 .ro .live 0, fd 16 16 .ro .live 0]⟩,
  /- CLS_EPOCHCFG -/ ⟨0x7100020, [], 1, .plain, [fd 0 16 .rw .live 0x64]⟩,
  /- CLS_TTLDEST -/ ⟨0x7100024, [], 1, .plain, [fd 0 17 .rw .live 0, fd 17 6 .rw .live 0, fd 23 8 .rw .live 0, fd 31 1 .rw .live 0]⟩,
  /- CLS_RCMD -/ ⟨0x7100100, [], 1, .plain, [fd 0 3 .rw .live 0, fd 3 1 .rw .live 0, fd 4 1 .wo .live 0, fd 5 1 .ro .live 0, fd 8 3 .ro .live 0, fd 15 17 .rw .live 0]⟩,
  /- CLS_RDATA -/ ⟨0x7100140, [(20, 0x4)], 1, .plain, [fd 0 32 .rw .live 0]⟩,
  /- CLS_MIRROR -/ ⟨0x7100200, [(16, 0x8)], 2, .plain, [fd 0 2 .rw .live 0 |>.forbid 3, fd 2 1 .rw .live 0, fd 3 17 .rw .live 0, fd 32 14 .rw .live 0, fd 48 16 .rw .live 1]⟩,
  /- CLS_CNT -/ ⟨0x7101000, [(4, 0x100), (32, 0x8)], 2, .pair, [fd 0 48 .ro .live 0]⟩,
  /- CLS_KEYTPL -/ ⟨0x7110000, [(2, 0x1000), (64, 0x40), (16, 0x4)], 1, .plain, [fd 0 32 .rw .quiet 0]⟩,
  /- CLS_GRPDEF -/ ⟨0x7112000, [(2, 0x100), (64, 0x4)], 1, .plain, [fd 0 13 .rw .quiet 0]⟩,
  /- CLS_PUSHTPL -/ ⟨0x7120000, [(2, 0x8000), (256, 0x80), (16, 0x4)], 1, .plain, [fd 0 32 .rw .quiet 0]⟩,
  /- CLS_PUSHCTL -/ ⟨0x7120040, [(2, 0x8000), (256, 0x80)], 1, .plain, [fd 0 32 .rw .quiet 0x1ffff80]⟩]

/-- Registers of block TBL, block ID 0x80. -/
def tTBL : List RegD := [
  /- TBL_HCFG -/ ⟨0x8000000, [], 1, .plain, [fd 0 4 .rw .live 4 |>.clamp 0 8, fd 4 2 .rw .live 0 |>.forbid 3]⟩,
  /- TBL_HKEY1 -/ ⟨0x8000004, [], 1, .plain, [fd 0 32 .rw .quiet 0]⟩,
  /- TBL_HKEY2 -/ ⟨0x8000008, [], 1, .plain, [fd 0 32 .rw .quiet 0x5a5a5a5a]⟩,
  /- TBL_MKEY -/ ⟨0x800000c, [], 1, .plain, [fd 0 32 .rw .quiet 0]⟩,
  /- TBL_AGECFG -/ ⟨0x8000010, [], 1, .plain, [fd 0 16 .rw .live 0x3e8, fd 16 8 .rw .live 0, fd 24 8 .rw .live 0xff]⟩,
  /- TBL_HSTAT -/ ⟨0x8000014, [], 1, .plain, [fd 0 25 .ro .live 0]⟩,
  /- TBL_OVFSTAT -/ ⟨0x8000018, [], 1, .plain, [fd 0 15 .ro .live 0]⟩,
  /- TBL_LPMSTAT -/ ⟨0x800001c, [], 1, .plain, [fd 0 19 .ro .live 0]⟩,
  /- TBL_NOTIFY -/ ⟨0x8000020, [], 1, .plain, [fd 0 1 .rw .live 0, fd 1 1 .rw .live 0, fd 2 6 .rw .live 0, fd 8 8 .rw .live 0]⟩,
  /- TBL_COMMIT -/ ⟨0x8000024, [], 1, .plain, [fd 0 1 .w1s .live 0, fd 1 1 .ro .live 0, fd 2 1 .w1c .live 0, fd 8 6 .ro .live 0]⟩,
  /- TBL_MLCFG -/ ⟨0x8000040, [(4, 0x4)], 1, .plain, [fd 0 1 .rw .live 0, fd 16 16 .rw .live 0]⟩,
  /- TBL_CMD -/ ⟨0x8001000, [(4, 0x100)], 1, .plain, [fd 0 4 .rw .live 0, fd 4 1 .wo .live 0, fd 5 1 .ro .live 0, fd 8 4 .ro .live 0]⟩,
  /- TBL_CSTAMP -/ ⟨0x8001008, [(4, 0x100)], 2, .pair, [fd 0 64 .ro .live 0]⟩,
  /- TBL_CINFO -/ ⟨0x8001010, [(4, 0x100)], 1, .plain, [fd 0 8 .ro .live 0xff]⟩,
  /- TBL_CSEQ -/ ⟨0x8001014, [(4, 0x100)], 1, .plain, [fd 0 32 .ro .live 0]⟩,
  /- TBL_CDATA -/ ⟨0x8001040, [(4, 0x100), (20, 0x4)], 1, .plain, [fd 0 32 .rw .live 0]⟩,
  /- TBL_CNT -/ ⟨0x8002000, [(32, 0x8)], 2, .pair, [fd 0 48 .ro .live 0]⟩,
  /- TBL_MCNT -/ ⟨0x8002200, [(4, 0x40), (8, 0x8)], 2, .pair, [fd 0 48 .ro .live 0]⟩,
  /- TBL_KDEF -/ ⟨0x8010000, [(64, 0x80)], 16, .plain, [fd 0 512 .rw .shadow 0]⟩,
  /- TBL_KDEFCTL -/ ⟨0x8010040, [(64, 0x80)], 1, .plain, [fd 0 2 .rw .shadow 0, fd 2 1 .rw .shadow 0, fd 3 11 .rw .shadow 0, fd 14 1 .rw .shadow 0, fd 15 2 .rw .shadow 0]⟩,
  /- TBL_MLTARGET -/ ⟨0x8020000, [(2048, 0x8)], 2, .plain, [fd 0 17 .rw .live 0, fd 17 1 .rw .live 0, fd 18 1 .rw .live 0, fd 19 1 .rw .live 0, fd 32 13 .rw .live 0]⟩,
  /- TBL_OWNER -/ ⟨0x8030000, [(1024, 0x8)], 2, .plain, [fd 0 25 .rw .live 0x4000, fd 32 25 .ro .live 0]⟩]

/-- Registers of block ORS, block ID 0x88. -/
def tORS : List RegD := [
  /- ORS_CFG -/ ⟨0x8800000, [], 1, .plain, [fd 0 1 .rw .live 0, fd 16 16 .rw .quiet 0x1fd3]⟩,
  /- ORS_PORTEN -/ ⟨0x8800004, [], 1, .plain, [fd 0 16 .rw .live 0]⟩,
  /- ORS_TXFILL -/ ⟨0x8800008, [], 1, .plain, [fd 0 16 .rw .live 0]⟩,
  /- ORS_STAT -/ ⟨0x880000c, [], 1, .plain, [fd 0 17 .ro .live 0]⟩,
  /- ORS_FCMD -/ ⟨0x8800100, [], 1, .plain, [fd 0 3 .rw .live 0, fd 3 1 .wo .live 0, fd 4 1 .ro .live 0, fd 8 3 .ro .live 0, fd 18 14 .rw .live 0]⟩,
  /- ORS_FDATA -/ ⟨0x8800140, [(12, 0x4)], 1, .plain, [fd 0 32 .rw .live 0]⟩,
  /- ORS_CNT -/ ⟨0x8801000, [(32, 0x8)], 2, .pair, [fd 0 48 .ro .live 0]⟩]

/-- Registers of block TMG, block ID 0x90. -/
def tTMG : List RegD := [
  /- TMG_NCMD -/ ⟨0x9000000, [], 1, .plain, [fd 0 3 .rw .live 0, fd 3 3 .rw .live 0, fd 6 1 .wo .live 0, fd 7 1 .ro .live 0, fd 8 3 .ro .live 0, fd 14 18 .rw .live 0]⟩,
  /- TMG_NDATA -/ ⟨0x9000040, [(14, 0x4)], 1, .plain, [fd 0 32 .rw .live 0]⟩,
  /- TMG_LTCFG -/ ⟨0x9000080, [], 1, .plain, [fd 0 8 .rw .live 0xff, fd 16 16 .rw .live 0x3e8]⟩,
  /- TMG_LTLEAD -/ ⟨0x9000084, [], 1, .plain, [fd 0 32 .rw .live 0x7d0 |>.clamp 1400 4294967295]⟩,
  /- TMG_SAMPCFG -/ ⟨0x9000088, [], 1, .plain, [fd 0 1 .rw .live 0, fd 4 4 .rw .live 6, fd 8 6 .rw .live 0, fd 14 8 .rw .live 0]⟩,
  /- TMG_SAMPPER -/ ⟨0x900008c, [], 1, .plain, [fd 0 20 .rw .live 0x3e8 |>.clamp 10 1048575]⟩,
  /- TMG_SAMPCNT -/ ⟨0x9000090, [], 1, .plain, [fd 0 13 .rw .live 0 |>.clamp 0 4096]⟩,
  /- TMG_PORTCFG -/ ⟨0x9001000, [(16, 0x100)], 1, .plain, [fd 0 6 .rw .live 0x14, fd 6 1 .rw .live 0]⟩,
  /- TMG_GCLCTL -/ ⟨0x9001004, [(16, 0x100)], 1, .plain, [fd 0 1 .w1s .live 0, fd 1 1 .ro .live 0, fd 2 1 .w1c .live 0, fd 16 10 .ro .live 0]⟩,
  /- TMG_GCLCOUNT -/ ⟨0x9001008, [(16, 0x100)], 1, .plain, [fd 0 11 .rw .shadow 1]⟩,
  /- TMG_GCLCYCLE -/ ⟨0x900100c, [(16, 0x100)], 1, .plain, [fd 0 32 .rw .shadow 0xf4240]⟩,
  /- TMG_GCLBASE -/ ⟨0x9001010, [(16, 0x100)], 3, .plain, [fd 0 96 .rw .shadow 0]⟩,
  /- TMG_GCLCHG -/ ⟨0x9001020, [(16, 0x100)], 3, .plain, [fd 0 96 .rw .shadow 0]⟩,
  /- TMG_GCLOPEN -/ ⟨0x9001040, [(16, 0x100), (8, 0x4)], 1, .plain, [fd 0 32 .ro .live 0xffffffff]⟩,
  /- TMG_SAMPQ -/ ⟨0x9004000, [(4096, 0x4)], 1, .plain, [fd 0 17 .rw .live 0]⟩,
  /- TMG_CNT -/ ⟨0x9020000, [(16, 0x100), (32, 0x8)], 2, .pair, [fd 0 48 .ro .live 0]⟩,
  /- TMG_GCL -/ ⟨0x9080000, [(16, 0x2000), (1024, 0x8)], 2, .plain, [fd 0 8 .rw .shadow 0xff, fd 32 32 .rw .shadow 0]⟩]

/-- Registers of block CRY, block ID 0xa0. -/
def tCRY : List RegD := [
  /- CRY_EXCDEST -/ ⟨0xa000004, [], 1, .plain, [fd 0 17 .rw .live 0, fd 17 6 .rw .live 0, fd 23 8 .rw .live 0, fd 31 1 .rw .live 0]⟩,
  /- CRY_STAT -/ ⟨0xa000008, [], 1, .plain, [fd 0 22 .ro .live 0]⟩,
  /- CRY_MSTX -/ ⟨0xa001000, [(16, 0x400)], 1, .plain, [fd 0 21 .rw .live 0, fd 21 1 .rw .live 0, fd 22 1 .rw .live 1, fd 23 1 .rw .live 0]⟩,
  /- CRY_MSRXCFG -/ ⟨0xa001004, [(16, 0x400)], 1, .plain, [fd 0 16 .rw .live 1]⟩,
  /- CRY_MSTXSCI -/ ⟨0xa001008, [(16, 0x400)], 2, .pair, [fd 0 64 .rw .live 0]⟩,
  /- CRY_MSRXSC -/ ⟨0xa001040, [(16, 0x400), (16, 0x20)], 1, .plain, [fd 0 1 .rw .live 0]⟩,
  /- CRY_MSRXSCI -/ ⟨0xa001048, [(16, 0x400), (16, 0x20)], 2, .pair, [fd 0 64 .rw .live 0]⟩,
  /- CRY_MSRXSA -/ ⟨0xa001050, [(16, 0x400), (16, 0x20), (4, 0x4)], 1, .plain, [fd 0 21 .rw .live 0, fd 31 1 .rw .live 0]⟩,
  /- CRY_CNT -/ ⟨0xa008000, [(4, 0x100), (32, 0x8)], 2, .pair, [fd 0 48 .ro .live 0]⟩]

/-- Registers of block XPT, block ID 0xb0. -/
def tXPT : List RegD := [
  /- XPT_CFG -/ ⟨0xb000000, [], 1, .plain, [fd 0 4 .rw .quiet 0, fd 16 16 .rw .live 0x32]⟩,
  /- XPT_CC -/ ⟨0xb000004, [], 1, .plain, [fd 0 21 .rw .live 0x64]⟩,
  /- XPT_CCINC -/ ⟨0xb000008, [], 1, .plain, [fd 0 21 .rw .live 0x1388, fd 21 11 .rw .live 0x37]⟩,
  /- XPT_STAT -/ ⟨0xb00000c, [], 1, .plain, [fd 0 20 .ro .live 0]⟩,
  /- XPT_CNT -/ ⟨0xb001000, [(4, 0x100), (32, 0x8)], 2, .pair, [fd 0 48 .ro .live 0]⟩]

/-- Registers of block ENG, block ID 0xc0. -/
def tENG : List RegD := [
  /- ENG_SWCTL -/ ⟨0xc000000, [(64, 0x100)], 1, .plain, [fd 0 1 .rw .live 0, fd 1 1 .ro .live 1, fd 2 1 .w1s .live 0, fd 3 1 .rw .live 0]⟩,
  /- ENG_SWCODE -/ ⟨0xc000008, [(64, 0x100)], 2, .pair, [fd 16 19 .rw .quiet 0]⟩,
  /- ENG_SWCSIZE -/ ⟨0xc000010, [(64, 0x100)], 1, .plain, [fd 0 9 .rw .quiet 1 |>.clamp 1 256]⟩,
  /- ENG_SWDWIN -/ ⟨0xc000020, [(64, 0x100), (4, 0x10)], 1, .plain, [fd 0 1 .rw .quiet 0, fd 1 1 .rw .quiet 0, fd 2 1 .rw .quiet 0, fd 8 6 .rw .quiet 0xc]⟩,
  /- ENG_SWDWINBASE -/ ⟨0xc000028, [(64, 0x100), (4, 0x10)], 2, .pair, [fd 0 35 .rw .quiet 0]⟩,
  /- ENG_SWSUP -/ ⟨0xc000060, [(64, 0x100)], 1, .plain, [fd 0 7 .rw .quiet 0, fd 8 8 .rw .quiet 0xff]⟩,
  /- ENG_TEXC -/ ⟨0xc008000, [(8192, 0x20)], 1, .plain, [fd 0 8 .ro .live 0, fd 16 16 .ro .live 0]⟩,
  /- ENG_TEXCPC -/ ⟨0xc008004, [(8192, 0x20)], 1, .plain, [fd 0 32 .ro .live 0]⟩,
  /- ENG_TEXCADDR -/ ⟨0xc008008, [(8192, 0x20)], 2, .pair, [fd 0 64 .ro .live 0]⟩,
  /- ENG_TEXCINSTR -/ ⟨0xc008010, [(8192, 0x20)], 1, .plain, [fd 0 32 .ro .live 0]⟩,
  /- ENG_DBGSEL -/ ⟨0xc048000, [], 1, .plain, [fd 0 13 .rw .live 0]⟩,
  /- ENG_DBGREG -/ ⟨0xc048100, [(33, 0x8)], 2, .pair, [fd 0 64 .rw .live 0]⟩,
  /- ENG_SKYQSTAT -/ ⟨0xc04c000, [], 1, .plain, [fd 0 9 .ro .live 0, fd 16 16 .rc .live 0]⟩,
  /- ENG_SKYQPOP -/ ⟨0xc04c004, [], 1, .plain, [fd 0 1 .w1s .live 0]⟩,
  /- ENG_SKYQDATA -/ ⟨0xc04c040, [(16, 0x4)], 1, .plain, [fd 0 32 .ro .live 0]⟩,
  /- ENG_TDBG -/ ⟨0xc050000, [(8192, 0x4)], 1, .plain, [fd 0 1 .w1s .live 0, fd 1 1 .w1s .live 0, fd 2 1 .w1s .live 0, fd 3 1 .w1s .live 0, fd 4 3 .ro .live 0, fd 7 1 .ro .live 0, fd 8 4 .ro .live 0]⟩,
  /- ENG_CHCFG -/ ⟨0xc060000, [(64, 0x400), (256, 0x4)], 1, .plain, [fd 0 16 .rw .live 0x3e8, fd 16 5 .ro .live 0, fd 21 5 .ro .live 0]⟩,
  /- ENG_WCSNAP -/ ⟨0xc070000, [(8192, 0x8)], 2, .pair, [fd 0 32 .ro .live 0, fd 32 3 .ro .live 0, fd 35 4 .ro .live 0, fd 39 14 .ro .live 0]⟩,
  /- ENG_CNT -/ ⟨0xc080000, [(64, 0x100), (32, 0x8)], 2, .pair, [fd 0 48 .ro .live 0]⟩]

/-- Registers of block MEM, block ID 0xe0. -/
def tMEM : List RegD := [
  /- MEM_CNT -/ ⟨0xe001000, [(32, 0x8)], 2, .pair, [fd 0 48 .ro .live 0]⟩]

/-- Registers of block STK, block ID 0xf0. -/
def tSTK : List RegD := [
  /- STK_CFG -/ ⟨0xf000000, [], 1, .plain, [fd 0 1 .rw .live 0, fd 1 1 .rw .quiet 0, fd 2 8 .rw .quiet 0, fd 16 8 .rw .live 0xa |>.clamp 9 255]⟩,
  /- STK_STATUS -/ ⟨0xf000004, [], 1, .plain, [fd 0 2 .ro .live 0, fd 2 1 .ro .live 0, fd 3 1 .ro .live 0, fd 4 2 .ro .live 0, fd 6 4 .ro .live 0, fd 10 1 .ro .live 0, fd 11 2 .ro .live 0, fd 16 8 .ro .live 0]⟩,
  /- STK_CTL -/ ⟨0xf000008, [], 1, .plain, [fd 0 1 .w1s .live 0]⟩,
  /- STK_SRVUNC -/ ⟨0xf00000c, [], 1, .plain, [fd 0 32 .rw .live 0x100]⟩,
  /- STK_PDELAY -/ ⟨0xf000010, [(2, 0x4)], 1, .plain, [fd 0 32 .ro .live 0]⟩,
  /- STK_WIN -/ ⟨0xf000100, [(8, 0x10)], 1, .plain, [fd 0 1 .rw .live 0, fd 1 1 .rw .quiet 0, fd 2 2 .rw .quiet 0]⟩,
  /- STK_WINL -/ ⟨0xf000104, [(8, 0x10)], 1, .plain, [fd 0 17 .rw .quiet 0]⟩,
  /- STK_WINC -/ ⟨0xf000108, [(8, 0x10)], 1, .plain, [fd 0 18 .rw .quiet 0]⟩,
  /- STK_WINR -/ ⟨0xf00010c, [(8, 0x10)], 1, .plain, [fd 0 17 .rw .quiet 0]⟩,
  /- STK_CNT -/ ⟨0xf001000, [(2, 0x100), (32, 0x8)], 2, .pair, [fd 0 48 .ro .live 0]⟩]

/-- Registers of block MGT, block ID 0xf8. -/
def tMGT : List RegD := [
  /- MGT_STATUS -/ ⟨0xf800000, [], 1, .plain, [fd 0 2 .ro .live 0]⟩,
  /- MGT_SMBCFG -/ ⟨0xf800004, [], 1, .plain, [fd 0 7 .rw .live 0x32, fd 8 2 .rw .live 0 |>.clamp 0 2, fd 10 3 .rw .live 3 |>.clamp 0 4]⟩,
  /- MGT_EID -/ ⟨0xf800008, [], 1, .plain, [fd 0 8 .ro .live 0, fd 8 8 .ro .live 0, fd 16 8 .ro .live 0]⟩,
  /- MGT_BIND -/ ⟨0xf80000c, [], 1, .plain, [fd 0 1 .rw .live 1, fd 1 3 .rw .live 1]⟩,
  /- MGT_CNT -/ ⟨0xf800100, [(16, 0x8)], 2, .pair, [fd 0 48 .ro .live 0]⟩]

/-- Registers of block CFS, block ID 0xfc. -/
def tCFS : List RegD := [
  /- CFS_STAT -/ ⟨0xfc00004, [], 1, .plain, [fd 0 2 .ro .live 3, fd 2 3 .ro .live 0, fd 5 3 .ro .live 0, fd 8 2 .ro .live 0, fd 10 2 .ro .live 0]⟩,
  /- CFS_SEQA -/ ⟨0xfc00008, [], 1, .plain, [fd 0 32 .ro .live 0]⟩,
  /- CFS_SEQB -/ ⟨0xfc0000c, [], 1, .plain, [fd 0 32 .ro .live 0]⟩,
  /- CFS_CMD -/ ⟨0xfc00010, [], 1, .plain, [fd 0 3 .rw .live 0, fd 3 1 .wo .live 0, fd 4 1 .ro .live 0, fd 8 4 .ro .live 0, fd 16 3 .ro .live 0]⟩,
  /- CFS_ARG -/ ⟨0xfc00014, [], 1, .plain, [fd 0 32 .rw .live 0]⟩,
  /- CFS_ARG2 -/ ⟨0xfc00018, [], 1, .plain, [fd 0 32 .rw .live 0]⟩,
  /- CFS_CTL -/ ⟨0xfc0001c, [], 1, .plain, [fd 0 1 .w1s .live 0]⟩,
  /- CFS_TESTRES -/ ⟨0xfc00020, [], 1, .plain, [fd 0 32 .ro .live 0]⟩,
  /- CFS_TESTDET -/ ⟨0xfc00040, [(16, 0x4)], 1, .plain, [fd 0 16 .ro .live 0, fd 16 16 .ro .live 0]⟩,
  /- CFS_WBUF -/ ⟨0xfc04000, [(4096, 0x4)], 1, .plain, [fd 0 32 .rw .live 0]⟩]

/-- Registers of block FN, block ID 0x1000. -/
def tFN : List RegD := [
  /- FN_ALIVE -/ ⟨0x100000000, [(2, 0x4000000), (514, 0x10000)], 1, .plain, [fd 0 32 .ro .live 0]⟩,
  /- FN_ADMCFG -/ ⟨0x100000100, [(2, 0x4000000), (514, 0x10000)], 1, .plain, [fd 0 4 .rw .quiet 4, fd 4 4 .rw .quiet 4, fd 8 10 .rw .quiet 0, fd 18 1 .rw .quiet 0, fd 31 1 .rw .live 0]⟩,
  /- FN_ADMSTAT -/ ⟨0x100000104, [(2, 0x4000000), (514, 0x10000)], 1, .plain, [fd 0 8 .ro .live 0, fd 8 8 .ro .live 0, fd 16 2 .ro .live 0, fd 18 1 .w1c .live 0]⟩,
  /- FN_ADMBASE -/ ⟨0x100000108, [(2, 0x4000000), (514, 0x10000)], 2, .pair, [fd 0 64 .rw .quiet 0]⟩,
  /- FN_ADMCBASE -/ ⟨0x100000110, [(2, 0x4000000), (514, 0x10000)], 2, .pair, [fd 0 64 .rw .quiet 0]⟩,
  /- FN_NOTICE -/ ⟨0x100000118, [(2, 0x4000000), (514, 0x10000)], 1, .plain, [fd 0 16 .rc .live 0]⟩,
  /- FN_TIME -/ ⟨0x100000200, [(2, 0x4000000), (514, 0x10000)], 3, .lat, [fd 0 96 .ro .live 0]⟩,
  /- FN_TIMEINFO -/ ⟨0x10000020c, [(2, 0x4000000), (514, 0x10000)], 1, .plain, [fd 0 8 .ro .live 0xff, fd 8 3 .ro .live 0]⟩,
  /- FN_MSIXADDR -/ ⟨0x100008000, [(2, 0x4000000), (514, 0x10000), (1024, 0x10)], 2, .plain, [fd 0 64 .rw .live 0]⟩,
  /- FN_MSIXDATA -/ ⟨0x100008008, [(2, 0x4000000), (514, 0x10000), (1024, 0x10)], 1, .plain, [fd 0 32 .rw .live 0]⟩,
  /- FN_MSIXCTL -/ ⟨0x10000800c, [(2, 0x4000000), (514, 0x10000), (1024, 0x10)], 1, .plain, [fd 0 1 .rw .live 1]⟩,
  /- FN_PBA -/ ⟨0x10000c000, [(2, 0x4000000), (514, 0x10000), (32, 0x4)], 1, .plain, [fd 0 32 .ro .live 0]⟩]

/-- The table of a block, by block ID (R16); function pages stand under 0x1000. -/
def ofBlock (b : Nat) : List RegD :=
  if b = 0x0 then tTOP else
  if b = 0x1 then tCGU else
  if b = 0x2 then tRST else
  if b = 0x3 then tTKU else
  if b = 0x4 then tEVR else
  if b = 0x5 then tFLT else
  if b = 0x10 || b = 0x11 then tHP else
  if b = 0x20 then tFNM else
  if b = 0x30 then tQMG else
  if b = 0x40 then tMOV else
  if b = 0x50 then tBPM else
  if b = 0x60 then tMAC else
  if b = 0x61 then tMGE else
  if b = 0x70 then tPRS else
  if b = 0x71 then tCLS else
  if b = 0x80 then tTBL else
  if b = 0x88 then tORS else
  if b = 0x90 then tTMG else
  if b = 0xa0 then tCRY else
  if b = 0xb0 then tXPT else
  if b = 0xc0 then tENG else
  if b = 0xe0 then tMEM else
  if b = 0xf0 then tSTK else
  if b = 0xf8 then tMGT else
  if b = 0xfc then tCFS else
  if 0x1000 ≤ b then tFN else
  []

end Sys2Proof.Machine.RegTable
end

