-- ==== Sys2Proof/Machine/Store.lean ====
section
/-! DEFINITION. Sparse tables in one canonical form, the bit fields of words, and what a register that nothing has written reads
as (its reset value). -/

namespace Sys2Proof.Machine

/-- A sparse table: (key, value) pairs with the keys rising, none holding the value that an unlisted key reads as. -/
abbrev Tab (α : Type) := List (Nat × α)

/-- The value a table holds at a key; an unlisted key reads as `d` says. -/
def tabGet {α : Type} (d : Nat → α) : Tab α → Nat → α
  | [], k => d k
  | (k', v) :: t, k => if k = k' then v else tabGet d t k

/-- The table without what it lists at a key. -/
def tabDrop {α : Type} : Tab α → Nat → Tab α
  | [], _ => []
  | (k', v) :: t, k => if k = k' then tabDrop t k else (k', v) :: tabDrop t k

/-- The table with an entry put before the first greater key. -/
def tabPut {α : Type} : Tab α → Nat → α → Tab α
  | [], k, v => [(k, v)]
  | (k', v') :: t, k, v => if k < k' then (k, v) :: (k', v') :: t else (k', v') :: tabPut t k v

/-- The table with `v` at key `k`, in canonical form: writing what the key would read as unlisted removes the entry. -/
def tabSet {α : Type} [DecidableEq α] (d : Nat → α) (t : Tab α) (k : Nat) (v : α) : Tab α :=
  if v = d k then tabDrop t k else tabPut (tabDrop t k) k v

/-- The canonical form: keys rise from `lo` on, and no entry equals what its key reads as unlisted. -/
def tabWfFrom {α : Type} [DecidableEq α] (d : Nat → α) : Nat → Tab α → Bool
  | _, [] => true
  | lo, (k, v) :: t => decide (lo ≤ k) && !(decide (v = d k)) && tabWfFrom d (k + 1) t

/-- A table is in canonical form. -/
def tabWf {α : Type} [DecidableEq α] (d : Nat → α) (t : Tab α) : Bool := tabWfFrom d 0 t

/-- Change the value at a key. -/
def tabMod {α : Type} [DecidableEq α] (d : Nat → α) (t : Tab α) (k : Nat) (f : α → α) : Tab α :=
  tabSet d t k (f (tabGet d t k))

/-- The bits `lo` to `lo + width - 1` of a number. -/
def bitsOf (n lo width : Nat) : Nat := (n >>> lo) % 2 ^ width

/-- The number `n` with those bits replaced by the low bits of `v`. -/
def putBits (n lo width v : Nat) : Nat :=
  n - (bitsOf n lo width) * 2 ^ lo + (v % 2 ^ width) * 2 ^ lo

/-- One bit of a number. -/
def bitAt (n i : Nat) : Bool := (n >>> i) % 2 == 1

/-- A number read as two's complement of `w` bits. -/
def signedOf (w n : Nat) : Int := if n % 2 ^ w < 2 ^ (w - 1) then (n % 2 ^ w : Nat) else (n % 2 ^ w : Nat) - (2 ^ w : Nat)

/-- An integer as two's complement of `w` bits. -/
def ofSigned (w : Nat) (i : Int) : Nat := (i % (2 ^ w : Nat)).toNat

/-- 1 for true and 0 for false. -/
def b2n (b : Bool) : Nat := if b then 1 else 0

/-- The word of register array `r` that the offset `rel` from its base falls on, if it falls on one. -/
def wordIn : List (Nat × Nat) → Nat → Nat → Option Nat
  | [], words, rel => if rel % 4 = 0 && rel / 4 < words then some (rel / 4) else none
  | (c, st) :: ds, words, rel => if rel / st < c then wordIn ds words (rel % st) else none

/-- The register of a list, and the word of it, that an offset falls on. -/
def findReg : List RegD → Nat → Option (RegD × Nat)
  | [], _ => none
  | r :: rs, off =>
    if off < r.base then findReg rs off else
    match wordIn r.dims r.words (off - r.base) with
    | some w => some (r, w)
    | none => findReg rs off

/-- The register, and its word, at an MW0 offset or function-page key. -/
def regAt (off : Nat) : Option (RegD × Nat) := findReg (RegTable.ofBlock (off / 0x100000)) off

/-- The bits of a field that fall in word `w` of its register, as (lowest bit in the word, width, lowest bit in the field). -/
def FieldD.slice (f : FieldD) (w : Nat) : Nat × Nat × Nat :=
  let a := max f.lo (32 * w)
  let b := min (f.lo + f.width) (32 * w + 32)
  (a - 32 * w, b - a, a - f.lo)

/-- The reset value of word `w` of a register, from its fields. -/
def RegD.resetOf (r : RegD) (w : Nat) : Nat :=
  r.fields.foldl (fun n f => let (lo, wd, fl) := f.slice w; putBits n lo wd (f.rst >>> fl)) 0

/-- Pool sizes and bases at reset (R406): (buffer count, base). -/
def poolReset : Nat → Nat × Nat
  | 0 => (16384, 0) | 1 => (8192, 0x400000) | 2 => (8192, 0x800000) | 3 => (4096, 0x1000000)
  | 4 => (2048, 0x1800000) | 5 => (1024, 0x2000000) | 6 => (1024, 0x2A00000) | 7 => (96, 0x3A00000) | _ => (0, 0)

/-- Uncertainty of island `i` at reset, in 1/256 ns (R66). -/
def islUncReset (i : Nat) : Nat :=
  if i = 0 then 2048 else if i = 1 then 256 else if i ≤ 3 then 512 else if i ≤ 7 then 4096
  else if i ≤ 12 then 256 else if i ≤ 76 then 512 else if i ≤ 78 then 256 else 512

/-- The blocks that are always clocked (R487). -/
def alwaysClocked (b : Nat) : Bool := b ≤ 5 || b = 0x61 || b = 0xF8 || b = 0xFC

/-- Reset values that differ within an array, where the table's reset column names a rule. -/
def resetSpecial (off : Nat) : Option Nat :=
  let blk := off / 0x100000
  if blk = 0x1 then
    if off % 4 = 0 && 0x100100 ≤ off && off < 0x100500 then some (b2n (alwaysClocked ((off - 0x100100) / 4)))
    else if off = 0x100800 then some 0xC else if off = 0x100808 then some 4 else none
  else if blk = 0x3 then
    if 0x300800 ≤ off && off < 0x300A80 && off % 8 = 4 then some (islUncReset ((off - 0x300800) / 8)) else none
  else if blk = 0x50 then
    if 0x5000100 ≤ off && off < 0x5000200 then
      let k := (off - 0x5000100) / 0x20
      let a := off % 0x20
      if a = 0 || a = 0xC then some (poolReset k).1 else if a = 8 then some (poolReset k).2 else none
    else if 0x5004000 ≤ off && off < 0x5006800 && off % 8 = 0 then
      let r := (off - 0x5004000) / 8
      if 1024 ≤ r && r < 1109 then some 0xFFFFFFFF else none
    else none
  else none

/-- What a register reads as while nothing has been stored in it since reset: its reset value. -/
def resetWord (off : Nat) : Word :=
  match resetSpecial off with
  | some v => word v
  | none => match regAt off with
    | some (r, w) => word (r.resetOf w)
    | none => 0

end Sys2Proof.Machine
end

