-- ==== Sys2Proof/Machine/StateBase.lean ====
section
/-! DEFINITION. State of the parts that hold the blocks together: Device Time and the time bus, reports and records, memory errors,
and what the device sends out of itself. Default values are the reset values. -/

namespace Sys2Proof.Machine

/-- Device Time is counted in 1/65,536 ns since the PTP epoch (R34, R36): one second. -/
def secondUnits : Nat := 65536000000000

/-- A stamp with what R46 and R52 attach to it. `time` is the full stamp in 1/65,536 ns. -/
structure Stamp where
  time : Nat
  bound : Nat
  domain : Nat
  seq : Nat
  deriving DecidableEq, Repr

/-- A report on its way to FLT (R449): code, severity, reporter and blame as block ID and instance, and detail words. -/
structure Report where
  code : Nat
  sev : Nat
  reporter : Nat
  blame : Nat
  detail : List Nat
  deriving DecidableEq, Repr

/-- A report with the stamp FLT or TKU took for it, as EVR receives it (R450, R463); `cont` marks the first of two records (R465). -/
structure Record where
  rep : Report
  stamp : Stamp
  flags : Nat
  suppressed : Nat
  deriving DecidableEq, Repr

/-- A time-bus message (R65): its number, when it was sent, the computed bound in 1/256 ns (none while time is not traceable) and the step epoch. -/
structure BusMsg where
  num : Nat
  sentAt : Nat
  bound : Option Nat
  epoch : Nat
  deriving DecidableEq, Repr

/-- One clock island's time (R22, R23, R65): its counter as an offset from Device Time in 1/65,536 ns while it runs, the value it holds while
stopped, whether it is aligned, the computed bound it received last, and the number of the last message received. -/
structure IslandSt where
  off : Int := 0
  held : Option Nat := none
  aligned : Bool := false
  bound : Option Nat := none
  got : Nat := 0
  deriving DecidableEq, Repr

/-- The servo quantities in force (R60, R61), all in 1/256 ns but FRQUNC (ppt) and DRIFT (10^-15 per second). -/
structure ServoQ where
  srcacc : Nat := 0
  asymunc : Nat := 0
  srvunc : Nat := 0
  frqunc : Nat := 0
  drift : Nat := 0
  deriving DecidableEq, Repr

/-- A scheduled adjustment (R63): SET or STEP, its value, and the Device Time at which it applies. -/
structure Adj where
  isSet : Bool
  value : Int
  applyAt : Nat
  deriving DecidableEq, Repr

/-- A PTP message in Skylark's PTP receive queue, with its receive stamp and the step epoch at its receipt (R67, R71). -/
structure PtpMsg where
  port : Nat
  bytes : List Byte
  stamp : Stamp
  epoch : Nat
  deriving DecidableEq, Repr

/-- TKU's state that no register holds (R57 to R84), with the amount of the last adjustment applied (R71). Times named `at` are in ns of the reference. -/
structure TkuSt where
  dt : Nat := 0
  acc : Int := 0
  lastUpdate : Nat := 0
  holdEntry : Nat := 0
  heldFreq : Int := 0
  q : ServoQ := {}
  bound : Nat := 0
  adj : Option Adj := none
  lastStep : Int := 0
  busyUntil : Nat := 0
  lastBus : Nat := 0
  lastCompute : Nat := 0
  busNum : Nat := 0
  bus : List BusMsg := []
  ptpWindow : Nat := 0
  ptpCount : Nat := 0
  ptpQueue : List PtpMsg := []
  ptpAuthSeen : Nat := 0
  ptpDomainDrop : Nat := 0
  syncs : List (Nat × Nat × Nat) := []
  ptmT1 : Tab (Option (Nat × Nat × Nat)) := []
  ptmLast : Tab Nat := []
  ppsiLast : Option Nat := none
  ppsoLast : Nat := 0
  ppsoHigh : Bool := false
  ppsoFall : Nat := 0
  stackMsgAt : Nat := 0
  hops : Nat := 0
  deriving DecidableEq, Repr

/-- One pair of the fold table (R459, R460), with the stamp of its first folded report and the host function that report named (R457). -/
structure FoldPair where
  code : Nat
  unit : Nat
  count : Nat
  sev : Nat
  first : Stamp
  fn : Nat
  deriving DecidableEq, Repr

/-- FLT's state: reports that have not arrived yet, in order; the levels whose notification is deferred; the table of counts per blamed unit (least recently used last);
units declared by count in this window; the fold table; when FLT_FOLD_FULL was last logged; when the window ends; the notices given to Skylark; THRESH of this window; PINSEV
as of the last change of service; and whether FAULT_N is low (R449 to R461). -/
structure FltSt where
  arriving : List Report := []
  deferred : List Nat := []
  counts : List (Nat × Nat) := []
  byCount : List Nat := []
  folds : List FoldPair := []
  foldFullAt : Option Nat := none
  windowEnd : Nat := 1000000
  skylarkIrq : List Nat := []
  thresh : Nat := 1000
  pinsev : Nat := 3
  faultLow : Bool := false
  deriving DecidableEq, Repr

/-- A token bucket of R462: what it misses of a full one in 10^-9 token, the time it was last refilled and the suppressed count. -/
structure BucketSt where
  used : Nat := 0
  since : Nat := 0
  suppressed : Nat := 0
  deriving DecidableEq, Repr

/-- One host mirror (R470): records written, the driver's CI as last read, LOST, FULL, and the records that wait for a re-read of CI. -/
structure MirrorSt where
  count : Nat := 0
  ci : Nat := 0
  lost : Nat := 0
  full : Bool := false
  wait : List Record := []
  deriving DecidableEq, Repr

/-- EVR's state (R462 to R471): the two input streams with the time each record came, the token buckets, the staging buffer, the once-only
limits, the newest boot or carry record of the keep area, and the mirrors. The areas themselves are bytes of HBM and flash. -/
structure EvrSt where
  fltIn : List (Record × Nat) := []
  tkuIn : List (Record × Nat) := []
  buckets : Tab BucketSt := []
  staging : List (Nat × Record) := []
  keepMissAt : Option Nat := none
  keepFullLogged : Bool := false
  bootRec : Option (Nat × List Nat) := none
  mirrors : Tab MirrorSt := []
  deriving DecidableEq, Repr

/-- MEM's scrubber (R33): the next HBM word of its sweep, and when the sweep began. -/
structure MemSt where
  scrubPos : Nat := 0
  scrubAt : Nat := 0
  deriving DecidableEq, Repr

/-- What the device sends out of itself, newest first: posted writes, requests, interrupts, frames, stack messages, management answers and
pin levels. -/
inductive OutEv where
  | hostWrite (port fn addr : Nat) (data : List Byte)
  | hostRead (port fn tag addr len : Nat)
  | completion (port fn : Nat) (status : Nat) (data : List Byte)
  | message (port : Nat) (what : String)
  | msix (port fn vector : Nat)
  | frame (port : Nat) (bytes : List Byte)
  | pause (port : Nat) (bytes : List Byte)
  | dasko (link : Nat) (msg : StkMsg)
  | skylark (what : String) (words : List Nat)
  | mctp (binding : Nat) (dest : Nat) (bytes : List Byte)
  | mge (bytes : List Byte)
  | pin (name : String) (level : Bool)
  | gpio (safe : Option Nat)
  | regRead (value : Nat)
  deriving DecidableEq, Repr

end Sys2Proof.Machine
end

