-- ==== Sys2Proof/Machine/StateEng.lean ====
section
/-! DEFINITION. State of the Sedge engines' threads and channels, of the buffer pools and of the movers. Default values are the reset values. -/

namespace Sys2Proof.Machine

/-- One slot of a channel (R346): 0 FREE, 1 CLAIMED, 2 SEALED, 3 RECEIVED; its holder; its eight 64-bit words (a missing one is 0); how many of
them are the message; when it was claimed; and the start of the last period of its hold that was reported (R351). -/
structure SlotSt where
  st : Nat := 0
  holder : Nat := 0
  mem : List Nat := []
  len : Nat := 8
  claimedAt : Nat := 0
  told : Option Nat := none
  deriving DecidableEq, Repr

/-- One channel of a sward (R346 to R351): its slots, the sealed slots in order, the threads whose CLAIM or CRECV waits, oldest first, and when
ENG_CHAN_FULL was last logged. -/
structure ChanSt where
  slots : Tab SlotSt := []
  queue : List Nat := []
  claims : List Nat := []
  recvs : List Nat := []
  fullAt : Option Nat := none
  deriving DecidableEq, Repr

/-- One buffer (R412, R416, R418): whether it is allocated, its generation, the requester charged, its references, the group that holds an
engine reference, its valid length, its bytes, and when it was freed last. -/
structure BufSt where
  alloc : Bool := false
  gen : Nat := 1
  owner : Nat := 0
  refs : Nat := 0
  eng : Option Nat := none
  vlen : Nat := 0
  data : Tab Byte := []
  freedAt : Option Nat := none
  deriving DecidableEq, Repr

/-- What a thread waits in (R326, R336), with what the operation needs when its answer comes: the register that takes the result, an event mask, a
channel, a fork's start pc and argument, a child, a lookup (with the member asked and the tag when it is remote), a mover request as 16 words, a size, or a
handle with its control word. `at_` is when the operation began. -/
inductive Wait where
  | none
  | event (rd mask : Nat)
  | claim (rd chan : Nat)
  | crecv (rd chan : Nat)
  | fork (rd pc : Nat) (arg : DWord) (at_ : Nat)
  | join (rd child : Nat)
  | tlook (rd area ctl key at_ : Nat) (remote : Option (Nat × Nat))
  | move (rd chan : Nat) (req : List Nat)
  | balloc (rd size at_ : Nat)
  | pret (handle ctl : Nat)
  | psend (handle ctl : Nat)
  deriving DecidableEq, Repr

/-- One thread (R314, R327, R336, R340): its state (0 FREE, 1 READY, 2 WAITING, 3 EXITED, 4 FAULTED); whether it is HALTED and whether a STEP lets it
issue; g1 to g31; its pc, or the start pc it was given; ARG, RETIRED and EVPEND; its parent; its exit value; what it waits in; and since when it
has been continuously HALTED or FAULTED (R351). -/
structure ThreadSt where
  st : Nat := 0
  halted : Bool := false
  step : Bool := false
  regs : Tab DWord := []
  pc : Nat := 0
  arg : DWord := 0
  retired : Nat := 0
  pend : Nat := 0
  parent : Option Nat := none
  exit : DWord := 0
  wait : Wait := .none
  stopped : Option Nat := none
  deriving DecidableEq, Repr

/-- The engines (R312 to R359): the threads by thread ID; the data scratch by engine × 2^15 + offset and the data part of sward memory by sward × 2^20 +
offset; the lines that the instruction caches hold, by engine × 2^18 + line, as 16 words; the threads whose FORK waits, oldest first, by sward; the
threads whose PRET or PSEND waits, by pipeline; when a sward's threads last changed state, and whether its wait-cycle detector has fired in this
episode (R357); Skylark's notices, oldest first (R358); and the time of each sward's last reset (R327). -/
structure EngSt where
  threads : Tab ThreadSt := []
  scratch : Tab Byte := []
  smem : Tab Byte := []
  icache : Tab (List Nat) := []
  forkq : Tab (List Nat) := []
  retq : Tab (List Nat) := []
  changed : Tab Nat := []
  fired : Tab Bool := []
  skyq : List (List Nat) := []
  resetAt : Tab Nat := []
  deriving DecidableEq, Repr

/-- One mover request that has been accepted (R424 to R431): its line, its channel, the thread that issued it and its words. Once its burst has
started: the absolute source and destination addresses, the host function, the record's channel, the bytes read from a source inside the device, and
whether a reset of the function has begun since. -/
structure BurstSt where
  line : Nat
  chan : Nat
  thread : Nat
  req : List Nat
  started : Bool := false
  src : Nat := 0
  dst : Nat := 0
  host : Nat × Nat := (0, 0)
  rec_ : Nat := 0
  data : List Byte := []
  aborted : Bool := false
  deriving DecidableEq, Repr

/-- A started burst with a HOST side. -/
def BurstSt.onHost (b : BurstSt) : Bool := b.started && (b.req.headD 0 % 4 == 0 || b.req.headD 0 / 4 % 4 == 0)

/-- The movers (R422 to R431): the requests accepted, oldest first; the channel whose commit is pending; the waiting MOVEs by channel, oldest first; and
the Clover credits of the channels (R29). -/
structure MovSt where
  bursts : List BurstSt := []
  commit : Option Nat := none
  waiting : Tab (List Nat) := []
  clover : Tab Int := []
  deriving DecidableEq, Repr

end Sys2Proof.Machine
end

