-- ==== Sys2Proof/Machine/StateHost.lean ====
section
/-! DEFINITION. State of the host ports, of the functions behind them, of QMG's queues and of the tenants. Default values are the reset values. -/

namespace Sys2Proof.Machine

/-- A function's AER registers (R237): the uncorrectable and correctable status, mask and severity words with the base specification's bit places,
and up to four logged headers as (status bit, address), oldest first. -/
structure AerSt where
  unc : Nat := 0
  uncMask : Nat := 0x00400000
  uncSev : Nat := 0x00462010
  cor : Nat := 0
  corMask : Nat := 0x0000E000
  headers : List (Nat × Nat) := []
  deriving DecidableEq, Repr

/-- What a function's configuration space holds that the device acts on (R222, R224, R233, R237 to R242, R268): Bus Master and Memory Space Enable,
D3hot, PME enable and status, PTM Enable, MSI-X enable and function mask, maximum payload and read request in bytes, the completion timeout
encoding, AER, and FNGEN (R300). -/
structure FnCfg where
  bme : Bool := false
  mse : Bool := false
  d3 : Bool := false
  pmeEn : Bool := false
  pmeStatus : Bool := false
  ptmEn : Bool := false
  msixEn : Bool := false
  msixMask : Bool := false
  mps : Nat := 128
  mrrs : Nat := 512
  cplTmo : Nat := 0
  aer : AerSt := {}
  fngen : Nat := 0
  deriving DecidableEq, Repr

/-- One outstanding non-posted request (R231, R232): its tag, function and FNGEN, address and length, the data that has arrived, when it times
out, whether the tag is retired (R241), and the read it belongs to. -/
structure TagSt where
  tag : Nat
  fn : Nat
  fngen : Nat
  addr : Nat
  len : Nat
  got : List Byte
  deadline : Nat
  retired : Bool
  read : Nat
  deriving DecidableEq, Repr

/-- One ring read (R230, R232, R255): its number, the queue and its generation, the first entry and the number of entries, the requests not yet
issued, those issued and not complete, the data assembled by address, and whether it has failed. -/
structure ReadSt where
  id : Nat
  queue : Nat
  gen : Nat
  first : Nat
  count : Nat
  todo : List (Nat × Nat)
  open_ : Nat
  parts : List (Nat × List Byte)
  failed : Bool
  deriving DecidableEq, Repr

/-- The scope of a host-port reset in progress (R241). -/
inductive ResetScope where
  | port (sticky : Bool)
  | pf0
  | vfs
  | one (fn : Nat)
  deriving DecidableEq, Repr

/-- One host port (R222 to R245): outstanding tags, ring reads, MW4 requests held by a commit (R229), resets in progress, the link's power states and
what the host enables of them (R238), whether WAKEp_N is driven low (R240), and VF Enable with NumVFs. -/
structure HpSt where
  tags : List TagSt := []
  reads : List ReadSt := []
  nextRead : Nat := 0
  tagBits : Nat := 8
  held : List (Nat × Nat × Mw4Kind) := []
  resets : List ResetScope := []
  l1 : Bool := false
  aspmL1 : Bool := false
  l1ss : Bool := false
  l0pEn : Bool := false
  l23 : Bool := false
  wakeLow : Bool := false
  vfEn : Bool := false
  numVfs : Nat := 0
  deriving DecidableEq, Repr

/-- What a completion entry says beside its queue, generation and index (R262, R264): status, kind, bytes, stamp and the kind-specific words; a silent one
writes no entry (R390). -/
structure Cpl where
  status : Nat
  kind : Nat
  bytes : Nat := 0
  stamp : Stamp := ⟨0, 0, 0, 0⟩
  w2 : Option Nat := none
  w6 : Nat := 0
  w7 : Nat := 0
  w45 : Option Nat := none
  silent : Bool := false
  deriving DecidableEq, Repr

/-- What an item of a queue is: a whole send chain; a chain, run or command refused with a status; a command entry; a work request. -/
inductive ItemKind where
  | chain
  | bad (status : Nat)
  | cmd
  | work
  deriving DecidableEq, Repr

/-- One item of a queue from its close to its completion (R255 to R259, R266, R267): its number, kind, ring slot, the index after its last entry,
its entries' words, its fetch stamp, the generation at dispatch once dispatched, and its completion once finished. -/
structure Item where
  id : Nat
  kind : ItemKind
  slot : Nat
  after : Nat
  entries : List (List Nat)
  stamp : Stamp
  disp : Option Nat := none
  done : Option Cpl := none
  deriving DecidableEq, Repr

/-- One queue context (R247 to R250, R267, R268, R276): state 0 FREE, 1 RUNNING, 2 STOPPING, 3 HALTED; for a completion queue `tail` is PI and `ci` is H.
`times` holds when each unconsumed entry was written, oldest first, and the newest `unann` of them are unannounced; `stale` holds the abandoned
items with the generation of the completion queue they reserved in; `waiter` is the command that waits for the queue to stop; `fault` says that a ring read failed (R255). -/
structure QCtx where
  st : Nat := 0
  gen : Nat := 0
  reason : Nat := 0
  port : Nat := 0
  fn : Nat := 0
  w5 : Nat := 0
  base : Nat := 0
  w8 : Nat := 0
  w9 : Nat := 0
  cq : Nat := 0
  tail : Nat := 0
  ci : Nat := 0
  fetch : Nat := 0
  res : Nat := 0
  armed : Bool := false
  unann : Nat := 0
  times : List Nat := []
  nCqFull : Nat := 0
  nRqEmpty : Nat := 0
  nBad : Nat := 0
  stopAt : Nat := 0
  open_ : List (Nat × List Nat) := []
  run : Bool := false
  items : List Item := []
  nextItem : Nat := 0
  stale : List (Nat × Nat) := []
  posts : List (Nat × List Nat) := []
  waiter : Option (Nat × Nat) := none
  cqFullAt : Option Nat := none
  rqEmptyAt : Option Nat := none
  xpt : Option Nat := none
  fault : Bool := false
  deriving DecidableEq, Repr

/-- An open dirty-page log (R301 to R304): its number of entries as a power of two, page size as a power of two, PI, the cached CI, FULL and LOST, the filter newest
first, the entries that wait for a re-read of CI, and whether a loss has been reported since the last DIRTY_SYNC. -/
structure DirtySt where
  base : Nat
  log2 : Nat
  page : Nat
  vector : Nat
  pi : Nat := 0
  ci : Nat := 0
  full : Bool := false
  lost : Nat := 0
  filter : List Nat := []
  wait : List (Nat × Nat) := []
  told : Bool := false
  deriving DecidableEq, Repr

/-- One tenant beside what FNM_TSTAT reports (R283, R288, R305): the argument words 6 to 15 in force, its dirty log, and the QUIESCE command that
waits, as (command queue, item, when it times out). -/
structure TenantSt where
  args : List Nat := []
  dirty : Option DirtySt := none
  quiescing : Option (Nat × Nat × Nat) := none
  deriving DecidableEq, Repr

end Sys2Proof.Machine
end

