-- ==== Sys2Proof/Machine/StateNet.lean ====
section
/-! DEFINITION. State of the network side: packets and their metadata, the MACs' buffers and flow control. Default values are the reset values. -/

namespace Sys2Proof.Machine

/-- The send chain a frame came from: its queue's global index and generation, and the number of the dispatched item (R257, R262). -/
structure SendRef where
  queue : Nat
  gen : Nat
  item : Nat
  deriving DecidableEq, Repr

/-- A stamp of nothing. -/
def noStamp : Stamp := ⟨0, 0xFF, 0, 0⟩

/-- A frame with the metadata that travels with it. `port` is the receiving port and 16 for a frame that no port received; `src` is the sending function;
`buf` its buffer's handle; `rx` the stamp that travels with it (R53, R264); `stepEpoch` the step epoch at ingress (R71); `bank` the rule bank and
`pbank` the parse bank it captured (R129, R145); `prec` the parse record of its last pass (R127); `status` the status that its receive
completion will carry; the meter, class, association and context that its last pass named (R137); the spray option with the outer source address and UDP source port
captured at the first parse (R208), the stack member that received it and the member and tag of the send
entry that waits for TXDONE (R446, R448); and the transport context that sent it with the item of its work request plus 1, or 0. -/
structure Pkt where
  bytes : List Byte := []
  port : Nat := 16
  src : Option (Nat × Nat) := none
  buf : Option Nat := none
  pipe : Nat := 0
  profile : Nat := 0
  pass : Nat := 0
  rx : Stamp := noStamp
  stepEpoch : Nat := 0
  bank : Nat := 0
  pbank : Nat := 0
  prec : List Nat := []
  status : Nat := 0
  prio : Nat := 0
  cls : Option Nat := none
  meter : Option Nat := none
  sa : Option Nat := none
  ctx : Option Nat := none
  deftmq : Nat := 0
  send : Option SendRef := none
  csum : Bool := false
  launch : Option Nat := none
  oneStep : Bool := false
  macsec : Bool := false
  yellow : Bool := false
  spray : Option (List Byte × List Nat) := none
  member : Option Nat := none
  home : Option (Nat × Nat) := none
  skylark : Bool := false
  xref : Option (Nat × Nat) := none
  deriving DecidableEq, Repr

/-- A hold by received pause, of the link or of one priority (R102, R103): when it ends, since when it has held without a break, and until when
received pause is ignored. -/
structure HoldSt where
  until_ : Option Nat := none
  since : Nat := 0
  ignore : Option Nat := none
  deriving DecidableEq, Repr

/-- One MAC: its stored received frames oldest first, the frames of its transmit buffer oldest first, its holds (index 8 is the link's), the
priorities whose pause state has yet to be sent, when it last sent pause, the snapshot (R108), and the pipeline field taken at its enable (R21). -/
structure MacSt where
  rxBuf : List Pkt := []
  txBuf : List Pkt := []
  holds : Tab HoldSt := []
  toSend : List Nat := []
  pauseAt : Nat := 0
  snap : Tab Nat := []
  pipe : Nat := 0
  stopAt : Option Nat := none
  deriving DecidableEq, Repr

/-- One recorded header (R112, R113): its type, node, offset, length and layer, and the envelope end it was judged by. -/
structure Hdr where
  typ : Nat
  node : Nat
  off : Nat
  len : Nat
  layer : Nat
  fin : Nat
  deriving DecidableEq, Repr

/-- The destination of a pass (R139). -/
inductive Dest where
  | none
  | drop
  | queue (q : Nat)
  | itab (t k : Nat)
  | tmq (q : Nat)
  | engine (w c : Nat)
  | recirc (profile : Nat)
  deriving DecidableEq, Repr

/-- An edit collected by a pass (R137, R140). -/
inductive Edit where
  | rewrite (hdr off len value : Nat)
  | decTtl (layer : Nat)
  deriving DecidableEq, Repr

/-- The result of a lookup that hit (R157, R162, R165): its action list and the fields that are valid. -/
structure ResSt where
  alist : Option Nat := none
  cls : Option Nat := none
  meter : Option Nat := none
  sa : Option Nat := none
  ctx : Option Nat := none
  queue : Option (Bool × Nat) := none
  deriving DecidableEq, Repr

/-- One lookup of a pass (R138, R152, R170): the table, its key and key definition, the list for a miss, when it was issued, the member asked and
the tag of the request when it is remote, and the answer once there is one. -/
structure LookupSt where
  table : Nat
  key : Nat
  kdef : Nat
  miss : Nat
  at_ : Nat
  remote : Option (Nat × Nat)
  answer : Option (Option ResSt)
  deriving DecidableEq, Repr

/-- A pass in progress (R137 to R143): the packet, its recorded headers, and what its actions have collected so far. -/
structure PassSt where
  pkt : Pkt
  hdrs : List Hdr := []
  dest : Dest := .none
  final : Bool := false
  ttl : Bool := false
  edits : List Edit := []
  pop : Option Nat := none
  popTag : Option Nat := none
  pushes : List (Nat × Bool) := []
  mirrors : List Nat := []
  copy : Option (Nat × Nat) := none
  lookups : List LookupSt := []
  looked : Nat := 0
  deriving DecidableEq, Repr

/-- One pipeline: the dispatched sent frames, the recirculated packets, the engines' return queue (R353) and the packets that XPT originates, each
oldest first; the pass in progress; whether it has taken the committed parse bank (R129); and the Clover credits of its sources (R29). -/
structure PipeSt where
  sendIn : List Pkt := []
  recirc : List Pkt := []
  ret : List Pkt := []
  xptIn : List Pkt := []
  pass : Option PassSt := none
  switched : Bool := false
  clover : Tab Int := []
  deriving DecidableEq, Repr

/-- One node of the TMG tree (R200): its four configuration words and its credit in bits. -/
structure NodeSt where
  w0 : Nat
  w1 : Nat
  w2 : Nat
  w3 : Nat
  credit : Int
  deriving DecidableEq, Repr

/-- The frames of an L0 queue, oldest first, each with the time it was queued; whether the head is in its port's launch calendar; and since the last
sample the frames dropped and the longest wait (R181, R183, R194, R198). -/
structure TmqSt where
  frames : List (Pkt × Nat) := []
  headAt : Nat := 0
  inCal : Bool := false
  calWait : Bool := false
  drops : Nat := 0
  maxWait : Nat := 0
  deriving DecidableEq, Repr

/-- One meter (R179, R180): its five words, its two buckets in bits, and its four counts. -/
structure MeterSt where
  w : List Nat := []
  tc : Nat := 0
  tp : Nat := 0
  counts : List Nat := []
  deriving DecidableEq, Repr

/-- TMG: nodes keyed by level and index, the L0 queues, meters, the rotation credits keyed by child and class, each port's calendar and the entry of its
gate list in force, when each port's current frame ends and when its last launch frame does, and the last tick and sweep (R176 to R199). -/
structure TmgSt where
  nodes : Tab NodeSt := []
  queues : Tab TmqSt := []
  meters : Tab MeterSt := []
  clover : Tab Int := []
  cal : Tab (List Nat) := []
  gclFrom : Tab Nat := []
  busyTo : Tab Nat := []
  ltEnd : Tab Int := []
  lastTick : Nat := 0
  lastSweep : Nat := 0
  sweeps : Nat := 0
  deriving DecidableEq, Repr

/-- The forwarding tables (R153 to R169): Hedgerow's entries by location as 16 words, an overflow entry at 2^24 plus its index, their hit bits and the
buckets' spill counts; the prefix rows in order as (value, length, result); the MAC entries by pipeline and place as 4 words, and their hit bits;
the pending learns of each pipeline as (FID and MAC, tag); the current millisecond's learns; and the time of the last ageing tick. -/
structure TblSt where
  hedge : Tab (List Nat) := []
  hhit : Tab Bool := []
  spill : Tab Nat := []
  lpm : List (Nat × Nat × Nat) := []
  macs : Tab (List Nat) := []
  mhit : Tab Bool := []
  learns : Tab (List (Nat × Nat)) := []
  rate : Tab (Nat × Nat) := []
  lastAge : Nat := 0
  deriving DecidableEq, Repr

/-- A fragment-table entry (R119, R120): its key, its ports, and when its life ends. -/
structure FragSt where
  key : List Nat
  ports : Nat
  until_ : Nat
  deriving DecidableEq, Repr

/-- The rule sets and the parser's own state (R129, R132, R141, R146, R148): rules by bank and index as 20 words, action lists as eight actions, a swap that
pipelines still take, when the last swap's remaining holds are revoked, the copies counted per mirror session, a bank copy in
progress with its end, the packets held by engines by their buffer, the parse bank in force, and the fragment entries by pipeline, set and way. -/
structure ClsSt where
  rules : Tab (List Nat) := []
  alists : Tab (List Nat) := []
  swapping : Bool := false
  revokeAt : Nat := 0
  mirrorCnt : Tab Nat := []
  copy : Option (Nat × Nat) := none
  punts : Tab (Option (Pkt × Bool × Bool)) := []
  cur : Nat := 0
  frags : Tab (Option FragSt) := []
  deriving DecidableEq, Repr

end Sys2Proof.Machine
end

