-- ==== Sys2Proof/Machine/StateSec.lean ====
section
/-! DEFINITION. State of the shared units: security associations, order restoration flows and transport contexts. Default values are the reset values. -/

namespace Sys2Proof.Machine

/-- A security association (R364, R365): its state, its parameter words, the next outbound sequence or the highest verified one, the sequences seen in
the window and the sequence at or below which all count as seen, and its counts. -/
structure SaSt where
  st : Nat := 0
  w : List Nat := []
  seq : Nat := 0
  seen : List Nat := []
  low : Nat := 0
  pkts : Nat := 0
  bytes : Nat := 0
  auth : Nat := 0
  rep : Nat := 0
  deriving DecidableEq, Repr

/-- A packet that ORS holds (R209, R210): its destination, P.s with P.b and its source domain and sequence, and whether it has been counted in CLIPPED. -/
structure HeldSt where
  pkt : Pkt
  dest : Dest
  s : Stamp
  clipped : Bool
  deriving DecidableEq, Repr

/-- A flow context (R207, R220): whether it is open, its words, its held packets head first, the last released one's stamp, its LATE and FORCED counts, and
when ORS_FUTURE was last logged for it. -/
structure FlowSt where
  isOpen : Bool := false
  w : List Nat := []
  held : List HeldSt := []
  last : Option Stamp := none
  late : Nat := 0
  forced : Nat := 0
  futureAt : Option Nat := none
  deriving DecidableEq, Repr

/-- A packet that a transport context has to send (R388): its PSN or TCP sequence, BTH opcode, the bytes between BTH and payload, the payload, whether it
asks for an acknowledgement and for a solicited event, the item of the work request it serves plus 1 or 0, and for a datagram the sixteen words of its headers and its destination QPN. -/
structure XFrame where
  psn : Nat
  op : Nat := 0
  ext : List Byte := []
  data : List Byte := []
  ack : Bool := false
  se : Bool := false
  wr : Nat := 0
  hw : List Nat := []
  dqp : Option Nat := none
  deriving DecidableEq, Repr

/-- A work request in progress (R389 to R391): its item, its words, its first and last PSN, the bytes moved, the stamp its completion will carry, and for NVMe/TCP its
CID, whether a data digest has failed, and the data moved by offset. -/
structure XReq where
  id : Nat
  w : List Nat
  first : Nat := 0
  last : Nat := 0
  moved : Nat := 0
  stamp : Stamp := noStamp
  cid : Nat := 0
  digest : Bool := false
  parts : List (Nat × List Byte) := []
  deriving DecidableEq, Repr

/-- The received message in progress (R394): its posting's ring slot, host address and length, and the bytes received. -/
structure XMsg where
  slot : Nat
  addr : Nat
  cap : Nat
  got : Nat
  deriving DecidableEq, Repr

/-- A transport context (R381, R382, R393 to R397). `win` holds the packets not yet acknowledged, of which `sent` have been sent since the last return to the
oldest and `hi` have been sent at all; `ctl` holds acknowledgements and responses; `timer` says since when there has been no progress; `cursor` is the host address and the bytes
left of a WRITE in progress and `wlen` its length; `ackAt` and `cnpAt` are the ACK deadline and the time of the last CNP; `rate` is R in Mb/s. `una`, `rcv`, `wnd`, `dup` and `rto` are TCP's; `outB` and `inB`
the bytes of PDUs not yet sent and not yet taken. -/
structure XptSt where
  st : Nat := 0
  port : Nat := 0
  fn : Nat := 0
  owner : Nat := 0
  w : List Nat := []
  sq : Option Nat := none
  rq : Option Nat := none
  psn : Nat := 0
  epsn : Nat := 0
  msn : Nat := 0
  win : List XFrame := []
  sent : Nat := 0
  hi : Nat := 0
  ctl : List XFrame := []
  reqs : List XReq := []
  timer : Nat := 0
  retries : Nat := 0
  rnr : Nat := 0
  rnrUntil : Option Nat := none
  msg : Option XMsg := none
  cursor : Option (Nat × Nat) := none
  wlen : Nat := 0
  nak : Bool := false
  owed : Nat := 0
  ackAt : Option Nat := none
  cnpAt : Option Nat := none
  rate : Nat := 0
  rateAt : Nat := 0
  freeAt : Nat := 0
  una : Nat := 0
  rcv : Nat := 0
  wnd : Nat := 0
  dup : Nat := 0
  rto : Nat := 0
  outB : List Byte := []
  inB : List Byte := []
  tx : Nat := 0
  rx : Nat := 0
  deriving DecidableEq, Repr

/-- The shared units: the associations, the number of CRY's device key draws (R366), the flows and when ORS_STORE_FULL was last logged, the transport
contexts, and the packets that XPT has taken from the pipelines, oldest first. -/
structure SecSt where
  sas : Tab SaSt := []
  draws : Nat := 0
  flows : Tab FlowSt := []
  storeFullAt : Option Nat := none
  xpts : Tab XptSt := []
  xptIn : List (Nat × Pkt) := []
  deriving DecidableEq, Repr

end Sys2Proof.Machine
end

