-- ==== Sys2Proof/Machine/StateStk.lean ====
section
/-! DEFINITION. State of stacking (R435 to R448). Default values are the reset values. -/

namespace Sys2Proof.Machine

/-- One Dasko link: when its last valid HELLO came and what it said; the last LSEQ sent and the last received in order; the messages not yet
acknowledged with the time each was sent; when a HELLO and a PDELAY_REQ were sent last; and the bytes in its DATA queue as of a time (R436 to R448). -/
structure LinkSt where
  helloAt : Option Nat := none
  peer : Option StkHello := none
  txSeq : Nat := 0
  rxSeq : Nat := 0
  unacked : List (StkMsg × Nat) := []
  helloSent : Option Nat := none
  pdSent : Option Nat := none
  pdTime : Option Nat := none
  egress : Nat := 0
  egressAt : Nat := 0
  deriving DecidableEq, Repr

/-- A message accepted from a link that its effect awaits: the link, the hops it made, and the stamp taken at its receipt. -/
structure InMsg where
  link : Nat
  hops : Nat
  stamp : Stamp
  msg : StkMsg
  deriving DecidableEq, Repr

/-- STK: the links; the messages that await their effect, oldest first; the next tag; the frames handed to other members by tag and member; the member
IDs by serial number; whether this member's strap ID was refused; since when the HELLOs have been stable; when the first link came up; when the master
was last heard, ASSIGN and TIME were last sent; the newest TIME acted on with its hops; and the run of updates within the lock threshold. -/
structure StkSt where
  links : Tab LinkSt := []
  inbox : List InMsg := []
  tags : Nat := 0
  away : List (Nat × Nat × Pkt) := []
  ids : List (Nat × Nat) := []
  refused : Bool := false
  stableSince : Nat := 0
  firstUp : Option Nat := none
  masterAt : Nat := 0
  assignAt : Option Nat := none
  timeAt : Option Nat := none
  lastTime : Option (Nat × Nat) := none
  inLock : Nat := 0
  deriving DecidableEq, Repr

end Sys2Proof.Machine
end

