-- ==== Sys2Proof/Machine/StateSys.lean ====
section
/-! DEFINITION. State of the clocks, resets, eFuse, configuration store, Skylark's management agent and management Ethernet. Default values are the
reset values. -/

namespace Sys2Proof.Machine

/-- A change of an island's source in progress (R481, R482): the new source, when its present step began, whether the old clock still runs, and whether the
gate was closed asynchronously. -/
structure SwitchSt where
  src : Nat
  at_ : Nat
  alive : Bool
  forced : Bool := false
  deriving DecidableEq, Repr

/-- A PLL that has lost lock (R483): when it was powered down or its retry began, and whether a retry runs. -/
structure PllSt where
  at_ : Nat
  retry : Bool := false
  deriving DecidableEq, Repr

/-- The clocks (R477 to R488): the source changes in progress by island, the PLLs that have lost lock, and the power state to return to after SAFE_REF. -/
structure CguSt where
  sw : Tab (Option SwitchSt) := []
  plls : Tab (Option PllSt) := []
  prev : Nat := 0
  deriving DecidableEq, Repr

/-- Resets, temperature and the age meter (R489 to R497, R556): the block reset in progress (block, its islands, end); when the watchdog was last kicked and the sensors
last read; since when a reading has been at or above TRIP; the minutes of each count not yet tallied, the equivalent ones in 2^-32 minute; when a
minute last ended; the hottest reading since, in 1/16 °C; the power-on count; and the boot record's stamp, WARM and NOHIST, from the time SYS starts until the ROM has
chosen (R465, R506). -/
structure RstSt where
  busy : Option (Nat × List Nat × Nat) := none
  kick : Nat := 0
  sampled : Nat := 0
  hot : Option Nat := none
  powered : Nat := 0
  equiv : Nat := 0
  minuteAt : Nat := 0
  hottest : Option Int := none
  count : Nat := 0
  bootRec : Option (Stamp × Bool × Bool) := none
  deriving DecidableEq, Repr

/-- eFuse (R492, R503, R556): revision, serial number, the smallest security version, the key hash, the delays it gives the islands and, by port and mode, the network
ports, and the tallies. No reset changes it. -/
structure FuseSt where
  rev : Nat := 0
  serial : Nat := 0
  minsvn : Nat := 0
  pkhash : List Byte := []
  isldly : Tab Nat := []
  calrx : Tab Nat := []
  caltx : Tab Nat := []
  tallyP : Nat := 0
  tallyE : Nat := 0
  deriving DecidableEq, Repr

/-- The configuration store (R512 to R515): the binding and source of a session opened by a management command; the session's length, the next offset to write, the
held header and the target slot; the command that runs as (OP, issuer); and whether PORN has fallen since. -/
structure CfsSt where
  client : Option (Nat × Nat) := none
  len : Nat := 0
  next : Nat := 0
  hdr : List Byte := []
  target : Nat := 0
  op : Option (Nat × Nat) := none
  held : Bool := false
  deriving DecidableEq, Repr

/-- A complete message that waits for the agent (R526): its binding (0 SMBus, 1 and 2 the host ports, 3 Ethernet), its source, the transport bytes that its response
needs, and its body from the message type on (a command's body from its first byte on). -/
structure MgtReq where
  binding : Nat
  src : Nat
  via : List Byte
  body : List Byte
  deriving DecidableEq, Repr

/-- An MCTP message in assembly (R521): its binding, source EID with tag and owner bit, next packet sequence, and bytes. -/
structure AsmSt where
  binding : Nat
  key : Nat
  seq : Nat
  bytes : List Byte
  deriving DecidableEq, Repr

/-- Skylark's agent (R518 to R526): the boot step to come (0 none, 1 the ROM, 2 the ROM after a management reset, 3 firmware); whether firmware runs; the
requests that wait, oldest first; the messages in assembly; the network settings; the PHY address; the allow list as (address, prefix length); the CFS_OP that waits for its command; whether
SMB_ALERT_N is low; when 0xF803 was last logged for a datagram; and the board's delay to the connector by port, transmit at 2n and receive at 2n + 1 (R502). -/
structure MgtSt where
  boot : Nat := 1
  reqs : List MgtReq := []
  asm : List AsmSt := []
  ip : Nat := 0
  plen : Nat := 0
  gateway : Nat := 0
  port : Nat := 8148
  phy : Nat := 0
  allow : List (Nat × Nat) := []
  cfsWait : Option MgtReq := none
  alertLow : Bool := false
  deniedAt : Option Nat := none
  board : Tab Nat := []
  deriving DecidableEq, Repr

/-- A management Ethernet transmission (R529): the frame, the collisions it has met, when this attempt began and its stamp; `backoff` says when the back-off ends. -/
structure MgeTx where
  frame : List Byte
  coll : Nat := 0
  sending : Bool := false
  start : Nat := 0
  stamp : Stamp := ⟨0, 0xFF, 0, 0⟩
  backoff : Option Nat := none
  deriving DecidableEq, Repr

/-- Management Ethernet (R527 to R530): the frames to send, oldest first; the PHY's last speed, duplex and link as firmware read them, and those it is about to set; when
the PHY was last read; and when the MDIO frame in progress ends. -/
structure MgeSt where
  txq : List MgeTx := []
  phy : Nat × Bool × Bool := (0, true, false)
  toSet : Option (Nat × Bool × Bool) := none
  polled : Nat := 0
  mdioEnd : Nat := 0
  deriving DecidableEq, Repr

end Sys2Proof.Machine
end

