-- ==== Sys2Proof/Machine/State.lean ====
section
/-! DEFINITION. The state of the FQ-7280: the register file, the state of every block, and the queue of waiting commands. Every
default value is the value at reset. -/

namespace Sys2Proof.Machine

/-- A master's latch of a register read whole (R2): the master, the offset of the register's first word, and the words latched. -/
structure Latch where
  m : Master
  reg : Nat
  words : List Word
  deriving DecidableEq, Repr

/-- The machine. `regs` holds every register that is not at its reset value, under its MW0 offset or function-page key; `now` counts ns of
the reference since reset; `seqs` holds the source sequence of each domain (R47); `free` counts the free values taken so far; `hbm` and `flash` hold the
bytes written there, an unlisted byte reading 0 and 0xFF; `live` holds the live copies of Shadowed registers (R9). -/
structure State where
  pending : List Instr := []
  regs : Tab Word := []
  latches : List Latch := []
  heldLow : List Latch := []
  now : Nat := 0
  free : Nat := 0
  seqs : Tab Nat := []
  islands : Tab IslandSt := []
  tku : TkuSt := {}
  flt : FltSt := {}
  evr : EvrSt := {}
  mem : MemSt := {}
  hbm : Tab Byte := []
  flash : Tab Byte := []
  live : Tab Word := []
  fns : Tab FnCfg := []
  hps : Tab HpSt := []
  queues : Tab QCtx := []
  tenants : Tab TenantSt := []
  macs : Tab MacSt := []
  pipes : Tab PipeSt := []
  tmg : TmgSt := {}
  tbl : TblSt := {}
  cls : ClsSt := {}
  sec : SecSt := {}
  eng : EngSt := {}
  mov : MovSt := {}
  stk : StkSt := {}
  cgu : CguSt := {}
  rst : RstSt := {}
  fuse : FuseSt := {}
  cfs : CfsSt := {}
  mgt : MgtSt := {}
  mge : MgeSt := {}
  chans : Tab ChanSt := []
  bufs : Tab BufSt := []
  poolEmptyAt : Tab Nat := []
  out : List OutEv := []
  deriving DecidableEq, Repr

/-- The machine right after a power-on reset (R35, R48, R487): nothing listed anywhere, so every register reads its reset value. -/
def State.reset : State := {}

/-- Why a step stops with a fault. No meaning of this model faults: every constructor would be safe, and none is raised. -/
inductive Fault where
  /-- Raised by no meaning; the model answers every command with a next state. Safe. -/
  | none
  deriving DecidableEq, Repr

/-- Why a command has no meaning. -/
inductive Refusal where
  /-- Raised by `exec` for a command whose meaning has not been written. Safe: nothing is claimed of it. -/
  | notModelled (mnemonic : String)
  deriving DecidableEq, Repr

/-- What a step answers. -/
abbrev Outcome := Host.Outcome State Fault Refusal

end Sys2Proof.Machine
end

