-- ==== Sys2Proof/Machine/Ops.lean ====
section
/-! DEFINITION. The named operations that every block shares: reading and writing registers and their fields, counters, reports,
bound codes, stamps and the ordering rule, and what the device sends out. -/

namespace Sys2Proof.Machine

/-! ## Registers -/

/-- The word a register holds. -/
def State.rd (s : State) (off : Nat) : Word := tabGet resetWord s.regs off

/-- The word a register holds, as a number. -/
def State.rdN (s : State) (off : Nat) : Nat := (s.rd off).toNat

/-- The register with a new word, whatever its access codes: a write by the block itself. -/
def State.wr (s : State) (off : Nat) (v : Word) : State := { s with regs := tabSet resetWord s.regs off v }

/-- `wr` of a number, modulo 2^32. -/
def State.wrN (s : State) (off v : Nat) : State := s.wr off (word v)

/-- A field's value. -/
def State.gf (s : State) (f : Fld) : Nat := bitsOf (s.rdN f.reg) f.lo f.width

/-- A one-bit field's value. -/
def State.gb (s : State) (f : Fld) : Bool := s.gf f == 1

/-- The register with a field replaced, by the block itself. -/
def State.sf (s : State) (f : Fld) (v : Nat) : State := s.wrN f.reg (putBits (s.rdN f.reg) f.lo f.width v)

/-- The register with a one-bit field replaced. -/
def State.sb (s : State) (f : Fld) (v : Bool) : State := s.sf f (b2n v)

/-- A field counted up by one, saturating at its greatest value. -/
def State.satInc (s : State) (f : Fld) : State :=
  if s.gf f + 1 < 2 ^ f.width then s.sf f (s.gf f + 1) else s

/-- A whole register counted up, saturating at 2^32 - 1. -/
def State.satInc32 (s : State) (off : Nat) : State :=
  if s.rdN off + 1 < 2 ^ 32 then s.wrN off (s.rdN off + 1) else s

/-- A register of `n` words, lowest word at the lowest offset, as one number. -/
def State.rdWide (s : State) (off : Nat) : Nat → Nat
  | 0 => 0
  | n + 1 => s.rdN off + 2 ^ 32 * State.rdWide s (off + 4) n

/-- A register of `n` words written as one number. -/
def State.wrWide (s : State) (off : Nat) : Nat → Nat → State
  | 0, _ => s
  | n + 1, v => State.wrWide (s.wrN off v) (off + 4) n (v / 2 ^ 32)

/-- A 64-bit register's value. -/
def State.rd64 (s : State) (off : Nat) : Nat := s.rdWide off 2

/-- A 64-bit register written by the block itself. -/
def State.wr64 (s : State) (off v : Nat) : State := s.wrWide off 2 v

/-- A 48-bit counter counted up by `n`, modulo 2^48. -/
def State.bumpBy (s : State) (off n : Nat) : State := s.wr64 off ((s.rd64 off + n) % 2 ^ 48)

/-- A 48-bit counter counted up by one, modulo 2^48. -/
def State.bump (s : State) (off : Nat) : State := s.bumpBy off 1

/-! ## Reports (R10, R11, R449) -/

/-- A report with its own reporter and blame, put on its way to FLT in the order the reports arise. -/
def State.reportAs (s : State) (code sev reporter blame : Nat) (detail : List Nat) : State :=
  { s with flt := { s.flt with arriving := s.flt.arriving ++ [⟨code, sev, reporter, blame, detail⟩] } }

/-- A report by instance `inst` of the code's own block, which takes the blame itself (R457). -/
def State.report (s : State) (code sev inst : Nat) (detail : List Nat) : State :=
  s.reportAs code sev (code / 256 * 256 + inst) (code / 256 * 256 + inst) detail

/-- The master as a detail word holds it (R463). -/
def masterWord : Master → Nat
  | .skylark => 1
  | .host p f => p.val * 4 + f.val * 8
  | .engine t => 2 + t.val * 4

/-- FLT_CFGVIOL: a dropped register write, with the offset and the master (R5, R8, R9, R26, R463). -/
def State.cfgViol (s : State) (m : Master) (off : Nat) : State := s.report 0x0501 0 0 [off, masterWord m]

/-- The instance that names a host function: its index, 0xFF from index 255 on (R457). -/
def fnInst (f : Nat) : Nat := if f ≤ 254 then f else 0xFF

/-- A host function blamed through its port's block (R457). -/
def fnBlame (p f : Nat) : Nat := (0x10 + p) * 256 + fnInst f

/-- A host function blamed through FNM, where the two ports' functions of one index are one unit (R457). -/
def fnmBlame (f : Nat) : Nat := 0x2000 + fnInst f

/-- Detail word 6 of a record that blames a host function (R457). -/
def fnWord (p f : Nat) : Nat := 2 ^ 31 + f * 2 + p

/-- The detail words of a report that blames a host function: no rule of such a code gives it any but word 6 (R457, R463). -/
def fnDetail (p f : Nat) : List Nat := [0, 0, 0, 0, 0, 0, fnWord p f]

/-- A report that blames FNM and a host function (R281, R298, R457). -/
def State.reportFn (s : State) (code sev reporter p f : Nat) : State := s.reportAs code sev reporter (fnmBlame f) (fnDetail p f)

/-- A free value taken: the number under which it is free, and the state with the count moved on. -/
def State.fresh (s : State) : Nat × State := (s.free, { s with free := s.free + 1 })

/-- Something the device sends out. -/
def State.emit (s : State) (e : OutEv) : State := { s with out := e :: s.out }

/-! ## Bounds (R42 to R45) -/

/-- The bound a code below 0xFF decodes to, in 1/256 ns. -/
def boundUnits (code : Nat) : Nat := (8 + code % 8) * 2 ^ (code / 8 + 3)

/-- The first code from `c` on whose bound is not less than `b`. -/
def boundFrom (b : Nat) : Nat → Nat → Nat
  | 0, _ => 0xFF
  | fuel + 1, c => if c < 0xFF then (if b ≤ boundUnits c then c else boundFrom b fuel (c + 1)) else 0xFF

/-- The code of a bound of `b` in 1/256 ns, never rounded down (R45). -/
def boundCode (b : Nat) : Nat := boundFrom b 256 0

/-! ## Stamps -/

/-- An island's record. -/
def State.island (s : State) (i : Nat) : IslandSt := tabGet (fun _ => {}) s.islands i

/-- Change an island's record. -/
def State.setIsland (s : State) (i : Nat) (v : IslandSt) : State :=
  { s with islands := tabSet (fun _ => {}) s.islands i v }

/-- An island's counter of Device Time in 1/65,536 ns: it follows Device Time while it runs and holds its value while stopped (R23, R65). -/
def State.counter (s : State) (i : Nat) : Nat :=
  match (s.island i).held with
  | some v => v
  | none => ((s.tku.dt : Int) + (s.island i).off).toNat

/-- The bound code a stamp of island `i` carries (R22, R23): 0xFF while the island is unaligned or no bound is published, else the computed
bound widened by the island's uncertainty and then encoded. -/
def State.islandBound (s : State) (i : Nat) : Nat :=
  if (s.island i).aligned then
    match (s.island i).bound with
    | some b => boundCode (b + s.rdN (R.TKU_ISLUNC i))
    | none => 0xFF
  else 0xFF

/-- The next source sequence of a domain (R47). -/
def State.seqOf (s : State) (domain : Nat) : Nat := tabGet (fun _ => 0) s.seqs domain

/-- Take a stamp in island `i` for a domain: the counter cut to 1/256 ns, its bound code, and the domain's sequence moved on modulo 2^32
(R22, R37, R46, R47). -/
def State.stamp (s : State) (i domain : Nat) : Stamp × State :=
  (⟨s.counter i / 256 * 256, s.islandBound i, domain, s.seqOf domain⟩,
   { s with seqs := tabSet (fun _ => 0) s.seqs domain ((s.seqOf domain + 1) % 2 ^ 32) })

/-- The short stamp of a full stamp (R41). -/
def shortOf (t : Nat) : Nat := t / 256 % 2 ^ 64

/-- A full stamp's 96-bit layout (R36). -/
def fullOf (t : Nat) : Nat :=
  (t / secondUnits % 2 ^ 48) * 2 ^ 48 + (t / 65536 % 1000000000) * 2 ^ 16 + t % 65536

/-- The nanoseconds field of a full stamp's layout. -/
def fullNs (v : Nat) : Nat := bitsOf v 16 32

/-- The time of a full stamp's layout, in 1/65,536 ns. -/
def timeOfFull (v : Nat) : Nat := (v / 2 ^ 48 % 2 ^ 48) * secondUnits + fullNs v * 65536 + v % 2 ^ 16

/-- What R54 answers of two events. -/
inductive Order where
  | before | after | same | concurrent
  deriving DecidableEq, Repr

/-- Step 1 of R54: two stamps ordered by their bounds alone, compared as short stamps (R40); none where a bound is infinite or they overlap. -/
def orderBounds (a b : Stamp) : Option Order :=
  let gap := signedOf 64 (shortOf b.time + 2 ^ 64 - shortOf a.time)
  let w : Int := boundUnits a.bound + boundUnits b.bound
  if a.bound = 0xFF || b.bound = 0xFF then none
  else if gap > w then some .before else if gap < -w then some .after else none

/-- The ordering rule of R54 on two stamps: by their bounds, and else by serial sequence within a domain (R50). -/
def order (a b : Stamp) : Order :=
  match orderBounds a b with
  | some o => o
  | none =>
    if a.domain = b.domain then
      let d := signedOf 32 (b.seq + 2 ^ 32 - a.seq % 2 ^ 32)
      if d > 0 then .before else if d < 0 then .after else .same
    else .concurrent

/-! ## Islands (R12, R65) -/

/-- Island indices of R65. -/
def islAON : Nat := 0
def islSYS : Nat := 1
def islHPI (p : Nat) : Nat := 2 + p
def islNQ (q : Nat) : Nat := 4 + q
def islPP (p : Nat) : Nat := 8 + p
def islSHD : Nat := 12
def islSW (n : Nat) : Nat := 13 + n
def islHB (n : Nat) : Nat := 77 + n
def islSTK : Nat := 79

/-! ## Bytes, memories and checks -/

/-- `n` bytes of a number, least significant first. -/
def leBytes : Nat → Nat → List Byte
  | 0, _ => []
  | n + 1, v => byte v :: leBytes n (v / 256)

/-- A number from bytes, least significant first. -/
def ofLe : List Byte → Nat
  | [] => 0
  | b :: t => b.toNat + 256 * ofLe t

/-- One byte of CRC32C, least significant bit first, polynomial 0x82F63B78 reflected. -/
def crcBits : Nat → Nat → Nat
  | 0, c => c
  | n + 1, c => crcBits n (if c % 2 = 1 then (c / 2) ^^^ 0x82F63B78 else c / 2)

/-- CRC32C carried over bytes. -/
def crcStep (c : Nat) : List Byte → Nat
  | [] => c
  | b :: t => crcStep (crcBits 8 (c ^^^ b.toNat)) t

/-- The CRC32C of bytes, from all ones and inverted at the end. -/
def crc32c (l : List Byte) : Nat := crcStep 0xFFFFFFFF l ^^^ 0xFFFFFFFF

/-- What an HBM byte that nothing has written reads as (log entry 4). -/
def hbmDefault : Nat → Byte := fun _ => 0

/-- What an erased flash byte reads as. -/
def flashDefault : Nat → Byte := fun _ => 0xFF

/-- Bytes written to a memory at rising addresses. -/
def memWrite (d : Nat → Byte) (m : Tab Byte) (a : Nat) : List Byte → Tab Byte
  | [] => m
  | b :: t => memWrite d (tabSet d m a b) (a + 1) t

/-- `n` bytes of a memory. -/
def memRead (d : Nat → Byte) (m : Tab Byte) (a : Nat) : Nat → List Byte
  | 0 => []
  | n + 1 => tabGet d m a :: memRead d m (a + 1) n

/-- Write bytes to HBM. -/
def State.hbmWrite (s : State) (a : Nat) (l : List Byte) : State := { s with hbm := memWrite hbmDefault s.hbm a l }

/-- Read bytes of HBM. -/
def State.hbmRead (s : State) (a n : Nat) : List Byte := memRead hbmDefault s.hbm a n

/-- Write bytes to flash. -/
def State.flashWrite (s : State) (a : Nat) (l : List Byte) : State := { s with flash := memWrite flashDefault s.flash a l }

/-- Erase a range of flash. -/
def State.flashErase (s : State) (a n : Nat) : State :=
  { s with flash := s.flash.filter fun e => e.1 < a || a + n ≤ e.1 }

/-- Read bytes of flash. -/
def State.flashRead (s : State) (a n : Nat) : List Byte := memRead flashDefault s.flash a n

/-! ## Functions of the host ports -/

/-- The key of a function: its port and its function index (R243). -/
def fnKey (p f : Nat) : Nat := p * 1024 + f

/-- A function's configuration. -/
def State.fn (s : State) (p f : Nat) : FnCfg := tabGet (fun _ => {}) s.fns (fnKey p f)

/-- Change a function's configuration. -/
def State.setFn (s : State) (p f : Nat) (g : FnCfg → FnCfg) : State :=
  { s with fns := tabMod (fun _ => {}) s.fns (fnKey p f) g }

/-- Send MSI-X message `v` of a function, or set its pending bit while the vector or the function is masked (R268); nothing is sent while MSI-X
is off or Bus Master Enable is 0. -/
def State.sendMsix (s : State) (p f v : Nat) : State :=
  let c := s.fn p f
  if !c.msixEn || !c.bme || 1024 ≤ v then s
  else if c.msixMask || s.gb (F.FN_MSIXCTL_MASK p f v) then
    s.sb ⟨R.FN_PBA p f (v / 32), v % 32, 1⟩ true
  else s.emit (.msix p f v)

/-- A posted write of a function, sent while its Bus Master Enable is 1 (R234, R242). -/
def State.hostWrite (s : State) (p f a : Nat) (l : List Byte) : State :=
  if (s.fn p f).bme then s.emit (.hostWrite p f a l) else s

/-! ## Host ports and functions -/

/-- A host port's record. -/
def State.hp (s : State) (p : Nat) : HpSt := tabGet (fun _ => {}) s.hps p

/-- Change a host port's record. -/
def State.modHp (s : State) (p : Nat) (g : HpSt → HpSt) : State := { s with hps := tabMod (fun _ => {}) s.hps p g }

/-- A reset of this scope covers function `f`. -/
def ResetScope.covers : ResetScope → Nat → Bool
  | .port _, _ => true
  | .pf0, f => f == 0 || decide (2 ≤ f)
  | .vfs, f => decide (2 ≤ f)
  | .one g, f => f == g

/-- A function is in a reset that has not completed (R241). -/
def State.inReset (s : State) (p f : Nat) : Bool := (s.hp p).resets.any fun r => r.covers f

/-- An event of a host port that blames the port and the function (R236, R246, R457). -/
def State.hpReport (s : State) (p loc sev f : Nat) : State :=
  s.reportAs (0x1000 + 0x100 * p + loc) sev ((0x10 + p) * 256) (fnBlame p f) (fnDetail p f)

/-- Count in HP_CNT[k]. -/
def State.hpCount (s : State) (p k : Nat) : State := s.bump (R.HP_CNT p k)

/-- A correctable error in a function's AER registers, told to the host unless masked (R237). -/
def State.aerCor (s : State) (p f bit : Nat) : State :=
  let s' := s.setFn p f fun c => { c with aer := { c.aer with cor := c.aer.cor ||| 2 ^ bit } }
  if bitAt (s.fn p f).aer.corMask bit then s' else s'.emit (.message p "ERR_COR")

/-- Log the header of an error, at most four; a further one sets Header Log Overflow, which is reported as Correctable (R237). -/
def State.aerHeader (s : State) (p f bit addr : Nat) : State :=
  if (s.fn p f).aer.headers.length < 4 then
    s.setFn p f fun c => { c with aer := { c.aer with headers := c.aer.headers ++ [(bit, addr)] } }
  else s.aerCor p f 15

/-- An uncorrectable error in a function's AER registers (R236, R237): advisory ones are told as correctable, and masked ones not at all. -/
def State.aerUnc (s : State) (p f bit addr : Nat) (advisory : Bool) : State :=
  let a := (s.fn p f).aer
  let s := s.setFn p f fun c => { c with aer := { c.aer with unc := c.aer.unc ||| 2 ^ bit } }
  if bitAt a.uncMask bit then s else
  let s := s.aerHeader p f bit addr
  if advisory then s.aerCor p f 13
  else s.emit (.message p (if bitAt a.uncSev bit then "ERR_FATAL" else "ERR_NONFATAL"))

/-- AER status bits of the base specification. -/
def aerDlp : Nat := 4
def aerPoison : Nat := 12
def aerFcp : Nat := 13
def aerTmo : Nat := 14
def aerUnexp : Nat := 16
def aerOverflow : Nat := 17
def aerMalformed : Nat := 18
def aerUr : Nat := 20
def aerInternal : Nat := 22

/-- A request that a function answers with Unsupported Request (R236): reported to AER, logged, and completed with UR when it is not posted. -/
def State.unsupported (s : State) (p f addr : Nat) (posted : Bool) : State :=
  let s := (s.aerUnc p f aerUr addr posted).hpReport p 4 0 f
  if posted then s else (s.hpCount p 4).emit (.completion p f 1 [])

/-- A request that reaches a function under reset (R241): counted, and a read answered with UR and logged but not reported to AER. -/
def State.resetDrop (s : State) (p f : Nat) (posted : Bool) : State :=
  let s := s.hpCount p 9
  if posted then s else ((s.hpCount p 4).hpReport p 4 0 f).emit (.completion p f 1 [])

/-- A memory request that the function accepts (R236, R239, R241): not under reset, Memory Space Enable 1, not in D3hot. -/
def State.memAccess (s : State) (p f addr : Nat) (posted : Bool) (k : State → State) : State :=
  if s.inReset p f then s.resetDrop p f posted
  else if !(s.fn p f).mse || (s.fn p f).d3 then s.unsupported p f addr posted
  else k s

/-! ## Register accesses from outside -/

/-- The block IDs that the block table assigns (R16). -/
def assignedBlock (b : Nat) : Bool :=
  [0x00, 0x01, 0x02, 0x03, 0x04, 0x05, 0x10, 0x11, 0x20, 0x30, 0x40, 0x50, 0x60, 0x61, 0x70, 0x71, 0x80, 0x88, 0x90, 0xA0, 0xB0, 0xC0,
   0xE0, 0xF0, 0xF8, 0xFC].contains b

/-- The block ID of an offset. ENG's registers and swards lie within one block's range, and so do STK's and CFS's (R16). -/
def blockOf (off : Nat) : Nat := off / 0x100000

/-- A block's registers can be reached (R487, R488). -/
def State.enabled (s : State) (b : Nat) : Bool := assignedBlock b && s.gb (F.CGU_CLKEN_EN b)

/-- The PF0 that may write device-wide registers (R26). -/
def State.cfgHost (s : State) : Nat := s.gf F.TOP_MASTERS_CFGHOST

/-- A master may write the register at `off` (R26, R27, R491, R511, R512): Skylark always; a host function only as PF0 of the named port, and not
while hosts are locked out, or in Safe-Talk as a recovery function the registers of CFS; an engine thread only in a sward with REGWR = 1, and never the registers that refuse engine threads. -/
def State.mayWrite (s : State) (m : Master) (off : Nat) : Bool :=
  match m with
  | .skylark => true
  | .host p f =>
    f.val == 0 &&
      (if s.gf F.RST_STATE_PSTATE = 3 then blockOf off == 0xFC
       else !s.gb F.TOP_MASTERS_HOSTLOCKOUT &&
        (if blockOf off = 0x10 then p.val == 0 else if blockOf off = 0x11 then p.val == 1 else p.val == s.cfgHost))
  | .engine t =>
    s.gb (F.ENG_SWCTL_REGWR (t.val / 128)) && off != R.RST_CTL && off != R.RST_BLK && off != R.CFS_CMD

/-- An access to a gated block or an unassigned block ID is recorded (R488). -/
def State.gatedEvent (s : State) (m : Master) (off : Nat) : State :=
  s.reportAs 0x0103 (if s.gb F.CGU_COMPAT_ZEROREAD then 0 else 2) 0x0100 (blockOf off * 256) [off, masterWord m]

/-- An access to a gated block or an unassigned block ID is answered under the gating mode (R488): a host's read by UR or by 0, Skylark's by a bus error or
by 0; a write is dropped. What an engine thread sees of it is its own load's or store's affair (R320). -/
def State.gatedAccess (s : State) (m : Master) (off : Nat) (posted : Bool) : State :=
  let native := !s.gb F.CGU_COMPAT_ZEROREAD
  let s := s.gatedEvent m off
  match m with
  | .host p f =>
    if native then
      let s := s.aerUnc p f aerUr off posted
      if posted then s else (s.hpCount p 4).emit (.completion p f 1 [])
    else if posted then s else s.emit (.completion p f 0 (leBytes 4 0))
  | .skylark =>
    if native then s.emit (.skylark "BUS_ERROR" [off]) else if posted then s else s.emit (.regRead 0)
  | .engine _ => s

/-- A write to a block register at `off`, as its master reaches it: a host function through its own MW0, where only PF0 decodes block registers, and in
Safe-Talk only those of CFS (R225, R511, R532). -/
def State.reaches (s : State) (m : Master) (off : Nat) (f : State → State) : State :=
  match m with
  | .host p g =>
    s.memAccess p g off true fun s =>
      if g.val = 0 && (s.gf F.RST_STATE_PSTATE != 3 || blockOf off == 0xFC) then f s else s.unsupported p g off true
  | _ => f s

/-- A register write that reaches a command register: refused while the block is gated (R488), dropped and logged where the master has no
write right (R26), and otherwise what `f` says. -/
def State.asWriter (s : State) (m : Master) (off : Nat) (f : State → State) : State :=
  s.reaches m off fun s =>
    if s.enabled (blockOf off) then (if s.mayWrite m off then f s else s.cfgViol m off) else s.gatedAccess m off true

/-! ## What works -/

/-- A PLL has not lost lock (R483). -/
def State.pllGood (s : State) (k : Nat) : Bool := (tabGet (fun _ => none) s.cgu.plls k).isNone

/-- A block works (R13, R480, R487, R490): it is enabled, its island `i` runs, and no reset of it is in progress. -/
def State.works (s : State) (b i : Nat) : Bool :=
  s.enabled b && s.gb (F.CGU_ISL_RUNNING i) && (match s.rst.busy with | some (k, l, _) => k != b || !l.contains i | none => true)

/-- What block `b` does in island `i`, done only while the block works. -/
def State.inBlock (s : State) (b i : Nat) (f : State → State) : State := if s.works b i then f s else s

/-- The data path is stopped by a Device-fatal report (R472). -/
def State.devFatal (s : State) : Bool := s.gb F.FLT_STATUS_DEVFATAL

end Sys2Proof.Machine
end

