-- ==== Sys2Proof/Machine/Tku.lean ====
section
/-! DEFINITION. The timekeeper (chapter 03): states and sources, servo updates, the published bound, adjustments, the time bus, PTP
recognition, PTM towards the hosts, PPS, and the traceability record. -/

namespace Sys2Proof.Machine

/-- Change TKU's state. -/
def State.setTku (s : State) (f : TkuSt → TkuSt) : State := { s with tku := f s.tku }

/-- TKU's state code (R57). -/
def State.tkuState (s : State) : Nat := s.gf F.TKU_STATE_STATE

/-- The published bound code (R61). -/
def State.pubCode (s : State) : Nat := s.gf F.TKU_STATE_BOUND

/-- The rate in force in 2^-16 ppb (R60, R64): the register, but the value at entry in HOLDOVER. -/
def State.freqNow (s : State) : Int :=
  if s.tkuState = 3 then s.tku.heldFreq else signedOf 32 (s.rdN R.TKU_FREQ)

/-- The servo quantities as the registers hold them now, with TKU_ADJUNC in the place of TKU_SRVUNC for an adjustment (R60, R63). -/
def State.servoRegs (s : State) (srvunc : Nat) : ServoQ :=
  { srcacc := s.rdN R.TKU_SRCACC, asymunc := s.rdN R.TKU_ASYMUNC, srvunc := srvunc,
    frqunc := s.rdN R.TKU_FRQUNC, drift := s.rdN R.TKU_DRIFT }

/-- The computed bound at age `t` ns, in 1/256 ns rounded up (R61). -/
def computedBound (q : ServoQ) (t : Nat) : Nat :=
  q.srcacc + q.asymunc + q.srvunc +
    (q.frqunc * t * 256 * 10 ^ 12 + q.drift * t * t * 128 + 10 ^ 24 - 1) / 10 ^ 24

/-- The age at the end of the interval a computation governs, plus bus delivery (R61): 1,024 ns and 256 ns past now. -/
def State.boundAge (s : State) : Nat :=
  s.now + 1280 - (if s.tkuState = 3 then s.tku.holdEntry else s.tku.lastUpdate)

/-- The bound TKU computes now: none in FREERUN (R61). -/
def State.boundNow (s : State) : Option Nat :=
  if s.tkuState = 0 then none else some (computedBound s.tku.q s.boundAge)

/-- The code of a computed bound. -/
def codeOfBound : Option Nat → Nat
  | none => 0xFF
  | some b => boundCode b

/-- Broadcast a time-bus message with the bound just computed (R65). Messages older than 1,024 ns have reached every island. -/
def State.busSend (s : State) (b : Option Nat) : State :=
  s.setTku fun t => { t with
    busNum := t.busNum + 1, lastBus := s.now,
    bus := t.bus.filter (fun m => s.now ≤ m.sentAt + 1024) ++
      [⟨t.busNum + 1, s.now, if codeOfBound b = 0xFF then none else b, s.gf F.TKU_STATE_EPOCH⟩] }

/-- Compute and publish the bound, and send it in a bus message (R61). -/
def State.publish (s : State) : State :=
  let b := s.boundNow
  let s1 := (s.sf F.TKU_STATE_BOUND (codeOfBound b)).setTku fun t => { t with bound := b.getD 0, lastCompute := s.now }
  s1.busSend b

/-- The words of the traceability record that follow TKU's state and registers (R83). -/
def State.recordWords (s : State) : State :=
  let w0 := 1 + s.tkuState * 2 ^ 8 + s.gf F.TKU_CTRL_SRC * 2 ^ 12 + s.gf F.TKU_CTRL_SRCPORT * 2 ^ 14 +
    s.gf F.TKU_CTRL_TAI * 2 ^ 18 + s.gf F.TKU_CTRL_UTCV * 2 ^ 19 + s.pubCode * 2 ^ 24
  ((s.wrN R.TKU_TREC w0).wrN (R.TKU_TREC + 40) (s.rdN (R.TKU_ASYM (s.gf F.TKU_CTRL_SRCPORT)))).wrN (R.TKU_TREC + 44) (s.rdN R.TKU_ASYMUNC)

/-- Copy the record to EVR in two reports, stamped `st` (R84). -/
def State.copyRecord (s : State) (st : Stamp) : State :=
  let word (w : Nat) : Nat := s.rdN (R.TKU_TREC + 4 * w)
  let rep (cont : Nat) (d : List Nat) : Record := ⟨⟨0x0402, 0, 0x0300, 0x0300, d⟩, { st with bound := s.pubCode }, cont, 0⟩
  { s with evr := { s.evr with tkuIn := s.evr.tkuIn ++
      [(rep 0x20 ((List.range 7).map word), s.now), (rep 0 (((List.range 6).map fun w => word (w + 7)) ++ [0]), s.now)] } }

/-- Rewrite the traceability record, stamp CHANGE_TIME in domain 0x0302 and copy the record to EVR (R83, R84). -/
def State.rewriteRecord (s : State) : State :=
  let x := s.recordWords.stamp islSYS 0x0302
  (x.2.wrWide (R.TKU_TREC + 52) 3 (fullOf x.1.time)).copyRecord x.1

/-- Enter a state (R58): the change is logged, holdover entry is noted, the bound recomputed and the record rewritten. -/
def State.tkuEnter (s : State) (st : Nat) : State :=
  let s1 := if st = 3 then
      let h := (s.setTku fun t => { t with holdEntry := s.now, heldFreq := s.freqNow })
      h.wrWide (R.TKU_TREC + 28) 3 (fullOf s.tku.dt)
    else s
  let s2 := (s1.sf F.TKU_STATE_STATE st).report 0x0302 0 0 []
  s2.publish.rewriteRecord

/-- Recompute the bound (R61, R84): in HOLDOVER a code above LIMIT ends in FREERUN (R58); a committed record, or a code that moves across an
exponent, rewrites the record. -/
def State.recompute (s : State) : State :=
  let old := s.pubCode
  let s1 := s.publish
  let s2 := if s1.gb F.TKU_COMMIT_PENDING then
      (s1.wrWide (R.TKU_TREC + 4) 4 (s1.rdWide R.TKU_TRECSH 4)).sb F.TKU_COMMIT_PENDING false
    else s1
  if s2.tkuState = 3 ∧ s2.gf F.TKU_HOLDCFG_LIMIT < s2.pubCode then (s2.report 0x0305 2 0 []).tkuEnter 0
  else if s1.gb F.TKU_COMMIT_PENDING ∨ old / 8 ≠ s2.pubCode / 8 then s2.rewriteRecord
  else s2

/-- The magnitude of an offset in 1/65,536 ns exceeds the bound in force (R62): the bound the published code decodes to. -/
def State.breaches (s : State) (offset : Int) : Bool :=
  s.pubCode != 0xFF && decide (boundUnits s.pubCode * 256 < offset.natAbs)

/-- Log a breach, count it in the record and rewrite the record (R62, R84). -/
def State.breach (s : State) (offset : Int) : State :=
  if s.breaches offset then
    ((s.report 0x0304 2 0 []).satInc ⟨R.TKU_TREC + 48, 0, 16⟩).rewriteRecord
  else s

/-- A write of TKU_SRVUNC counts as a servo update (R60): a source is selected and TKU is in ACQUIRING, LOCKED or HOLDOVER. -/
def State.servoTakes (s : State) : Bool := s.gf F.TKU_CTRL_SRC != 0 && s.tkuState != 0

/-- A servo update with the quantities given (R60): age and watchdog restart, TKU_OFFSET goes into the record, the breach test is made, and
HOLDOVER moves to ACQUIRING. -/
def State.servoUpdate (s : State) (q : ServoQ) : State :=
  let s1 := s.wrWide (R.TKU_TREC + 20) 2 (s.rd64 R.TKU_OFFSET)
  let s2 := s1.breach (signedOf 64 (s.rd64 R.TKU_OFFSET))
  let s3 := s2.setTku fun t => { t with lastUpdate := s.now, q := q }
  if s.tkuState = 3 then s3.tkuEnter 1 else s3.recompute

/-- SERVO_UPDATE (R60): a write of TKU_SRVUNC. Where it is no servo update the value is only stored. -/
def State.writeSrvunc (s : State) (v : Word) : State :=
  let s1 := s.wr R.TKU_SRVUNC v
  if s1.servoTakes then s1.servoUpdate (s1.servoRegs v.toNat) else s1

def execServoUpdate (m : Master) (v : Word) (s : State) : Outcome :=
  .next (s.asWriter m R.TKU_SRVUNC fun s => s.writeSrvunc v)

/-- A refused request of TKU (R58, R63). -/
def State.adjRefused (s : State) : State := s.report 0x0306 0 0 []

/-- LOCKREQ (R58). -/
def State.lockReq (s : State) : State :=
  if s.tkuState = 2 then s
  else if s.tkuState = 1 ∧ s.rdN R.TKU_SRVUNC ≤ s.rdN R.TKU_LOCKTHR then s.tkuEnter 2
  else s.adjRefused

def execLockreq (m : Master) (s : State) : Outcome := .next (s.asWriter m R.TKU_CTRL State.lockReq)

/-- HOLDREQ (R58): ACQUIRING or LOCKED moves to HOLDOVER. -/
def State.holdReq (s : State) : State := if s.tkuState = 1 ∨ s.tkuState = 2 then s.tkuEnter 3 else s

def execHoldreq (m : Master) (s : State) : Outcome := .next (s.asWriter m R.TKU_CTRL State.holdReq)

/-- UNTRACE (R58): any other state moves to FREERUN. -/
def State.untrace (s : State) : State := if s.tkuState = 0 then s else s.tkuEnter 0

def execUntrace (m : Master) (s : State) : Outcome := .next (s.asWriter m R.TKU_CTRL State.untrace)

/-- A write of SRC and SRCPORT (R58, R84): a change moves ACQUIRING or LOCKED to HOLDOVER and rewrites the record; SRCPORT above 1 with
SRC = 3 is refused and both keep their values. -/
def State.srcChange (s : State) (src port : Nat) : State :=
  if src = 3 ∧ 2 ≤ port then s.adjRefused
  else if s.gf F.TKU_CTRL_SRC = src ∧ s.gf F.TKU_CTRL_SRCPORT = port then s
  else
    let s1 := ((s.sf F.TKU_CTRL_SRC src).sf F.TKU_CTRL_SRCPORT port).sf F.TKU_STATE_SRC src
    let s2 := s1.setTku fun t => { t with stackMsgAt := s.now, ppsiLast := t.ppsiLast }
    if s.tkuState = 1 ∨ s.tkuState = 2 then s2.tkuEnter 3 else s2.rewriteRecord

def execSrcChange (m : Master) (src : BitVec 2) (srcport : BitVec 4) (s : State) : Outcome :=
  .next (s.asWriter m R.TKU_CTRL fun s => s.srcChange src.toNat srcport.toNat)

/-- The selected source is lost (R59): it is logged and TKU enters HOLDOVER. -/
def State.sourceLost (s : State) : State := (s.report 0x0301 2 0 []).tkuEnter 3

/-- TKU follows a source, so that one can be lost. -/
def State.following (s : State) : Bool := s.tkuState == 1 || s.tkuState == 2

/-- The servo watchdog in ns: SRVTMO ms, 0 taken as 1. -/
def State.srvTmo (s : State) : Nat := max 1 (s.gf F.TKU_HOLDCFG_SRVTMO) * 1000000

/-- SERVO_WATCHDOG (R59). -/
def State.watchdogDue (s : State) : Bool := s.following && decide (s.tku.lastUpdate + s.srvTmo ≤ s.now)

def execServoWatchdog (s : State) : Outcome := .next (s.inBlock 0x03 islSYS fun s => if s.watchdogDue then s.sourceLost else s)

/-- PPSI_TIMEOUT (R59): no valid edge for 1.1 s while PPSI is the source. -/
def State.ppsiTimeoutDue (s : State) : Bool :=
  s.following && s.gf F.TKU_CTRL_SRC == 2 && decide ((s.tku.ppsiLast.getD 0) + 1100000000 ≤ s.now)

def execPpsiTimeout (s : State) : Outcome := .next (s.inBlock 0x03 islSYS fun s => if s.ppsiTimeoutDue then s.sourceLost else s)

/-- STACK_TIME_LOSS (R59): neither link has delivered a valid time message for 8 ms while the stack is the source. -/
def State.stackLossDue (s : State) : Bool :=
  s.following && s.gf F.TKU_CTRL_SRC == 3 && decide (s.tku.stackMsgAt + 8000000 ≤ s.now)

def execStackTimeLoss (s : State) : Outcome := .next (s.inBlock 0x03 islSYS fun s => if s.stackLossDue then s.sourceLost else s)

/-- The link of the PTP source port went down (R59). -/
def State.ptpLinkLost (s : State) (n : Nat) : State :=
  if s.following ∧ s.gf F.TKU_CTRL_SRC = 1 ∧ s.gf F.TKU_CTRL_SRCPORT = n then s.sourceLost else s

/-- BOUND_RECOMPUTE (R61): every 1,024 ns. -/
def State.recomputeDue (s : State) : Bool := decide (s.tku.lastCompute + 1024 ≤ s.now)

def execBoundRecompute (s : State) : Outcome := .next (s.inBlock 0x03 islSYS fun s => if s.recomputeDue then s.recompute else s)

/-- The oldest bus message that an island has not received. -/
def State.nextMsg (s : State) (i : Nat) : Option BusMsg := s.tku.bus.find? fun m => (s.island i).got < m.num

/-- What an island does with a bus message (R65, R66): its counter is compared with Device Time moved by the difference of TKU_ISLDLY from the
true bus delay (taken as 0, the register's reset value) and realigned beyond TOL; the first message after a reset, clock switch or stop only aligns it. -/
def State.receiveMsg (s : State) (i : Nat) (m : BusMsg) : State :=
  let isl := s.island i
  let off : Int := -(256 * (s.rdN (R.TKU_ISLDLY i) : Int))
  let diff := (off - isl.off).natAbs
  let tol := s.rdN R.TKU_BUSCFG * 256
  let aligned : IslandSt := { isl with aligned := true, bound := m.bound, got := m.num, held := none }
  if isl.aligned then
    if tol < diff then
      let s1 := (s.setIsland i { aligned with off := off }).satInc32 (R.TKU_ISLSTAT i)
      if 4 * tol < diff then s1.report 0x0309 1 0 [] else s1
    else s.setIsland i aligned
  else s.setIsland i { aligned with off := off }

/-- BUS_MESSAGE_RECEIVE (R65): an island whose clock runs takes its next message. -/
def execBusMessageReceive (i : Fin 80) (s : State) : Outcome :=
  .next (if s.gb (F.CGU_ISL_RUNNING i.val) then
      match s.nextMsg i.val with
      | some m => s.receiveMsg i.val m
      | none => s
    else s)

/-- The largest Device Time a full stamp holds (R36). -/
def maxTime : Nat := 2 ^ 48 * secondUnits

/-- A refused adjustment (R63). -/
def State.adjFail (s : State) : State := (s.sb F.TKU_ADJCMD_ERR true).adjRefused

/-- Schedule an adjustment 512 ns of Device Time ahead and set BUSY (R63). -/
def State.adjSchedule (s : State) (isSet : Bool) (v : Int) : State :=
  ((s.sb F.TKU_ADJCMD_BUSY true).sb F.TKU_ADJCMD_ERR false).setTku
    fun t => { t with adj := some ⟨isSet, v, t.dt + 512 * 65536⟩ }

/-- GO with OP = SET (R63, R38). -/
def State.adjSet (s : State) : State :=
  let v := s.rdWide R.TKU_ADJVAL 3
  if s.gb F.TKU_ADJCMD_BUSY ∨ 999999999 < fullNs v then s.adjFail
  else s.adjSchedule true (timeOfFull v)

/-- The signed amount of a STEP in 1/65,536 ns (words 0 and 1 of TKU_ADJVAL). -/
def State.stepValue (s : State) : Int := signedOf 64 (s.rd64 R.TKU_ADJVAL)

/-- GO with OP = STEP (R62, R63). -/
def State.adjStep (s : State) : State :=
  let v := s.stepValue
  let t : Int := (s.tku.dt : Int) + 512 * 65536 + v
  if s.gb F.TKU_ADJCMD_BUSY ∨ s.tkuState = 0 ∨ t < 0 ∨ (maxTime : Int) ≤ t then s.adjFail
  else (s.breach v).adjSchedule false v

def execTkuSet (m : Master) (s : State) : Outcome :=
  .next (s.asWriter m R.TKU_ADJCMD fun s => (s.sf F.TKU_ADJCMD_OP 1).adjSet)

def execTkuStep (m : Master) (s : State) : Outcome :=
  .next (s.asWriter m R.TKU_ADJCMD fun s => (s.sf F.TKU_ADJCMD_OP 2).adjStep)

/-- A GO with any OP (the register table of TKU_ADJCMD): OP 0 and 3 only set ERR. -/
def State.adjGo (s : State) : State :=
  match s.gf F.TKU_ADJCMD_OP with
  | 1 => s.adjSet
  | 2 => s.adjStep
  | _ => s.sb F.TKU_ADJCMD_ERR true

/-- The state after an adjustment (R58). -/
def adjState (isSet : Bool) (src st : Nat) : Nat :=
  if isSet then (if src = 0 then 0 else 1) else if st = 2 then 1 else st

/-- The whole second that Device Time `t` has passed, moved by TKU_PPSOCAL (R81). -/
def State.ppsoSecond (s : State) (t : Nat) : Nat :=
  (((t : Int) + 256 * signedOf 32 (s.rdN R.TKU_PPSOCAL)).toNat) / secondUnits

/-- A step forward across a second boundary suppresses that second's edge and counts it; a step backward never repeats one (R81). -/
def State.ppsoStep (s : State) (t : Nat) : State :=
  if s.tku.ppsoLast < s.ppsoSecond t then
    let s1 := s.setTku fun k => { k with ppsoLast := s.ppsoSecond t }
    if s.gb F.TKU_PPSOCFG_EN then s1.satInc F.TKU_PPSSTAT_SUPPR else s1
  else s

/-- Apply an adjustment in every island and in TKU (R58, R63, R65, R84): Device Time moves, the step epoch and STEP_COUNT advance, TKU_ADJUNC
takes the place of TKU_SRVUNC and counts as an update, the state moves, and the record is rewritten. -/
def State.adjApply (s : State) (a : Adj) : State :=
  let t : Int := if a.isSet then a.value else (s.tku.dt : Int) + a.value
  let s1 := (s.ppsoStep t.toNat).setTku fun k => { k with
    dt := t.toNat, adj := none, lastStep := t.toNat - (s.tku.dt : Int), busyUntil := t.toNat + 1000000 * 65536, lastUpdate := s.now, holdEntry := s.now,
    q := s.servoRegs (s.rdN R.TKU_ADJUNC) }
  let s2 := s1.sf F.TKU_STATE_EPOCH (s.gf F.TKU_STATE_EPOCH + 1)
  let s3 := s2.sf ⟨R.TKU_TREC + 48, 16, 16⟩ (s2.gf ⟨R.TKU_TREC + 48, 16, 16⟩ + 1)
  let st := adjState a.isSet (s.gf F.TKU_CTRL_SRC) s.tkuState
  if st ≠ s.tkuState then s3.tkuEnter st else s3.publish.rewriteRecord

/-- ADJ_APPLY (R63): due when Device Time reaches the apply instant. -/
def execAdjApply (s : State) : Outcome :=
  .next (s.inBlock 0x03 islSYS fun s => match s.tku.adj with
    | some a => if a.applyAt ≤ s.tku.dt then s.adjApply a else s
    | none => s)

/-- ADJ_BUSY_CLEAR (R63): 1 ms of Device Time after the apply instant. -/
def State.busyClearDue (s : State) : Bool :=
  s.gb F.TKU_ADJCMD_BUSY && s.tku.adj.isNone && decide (s.tku.busyUntil ≤ s.tku.dt)

def execAdjBusyClear (s : State) : Outcome :=
  .next (s.inBlock 0x03 islSYS fun s => if s.busyClearDue then s.sb F.TKU_ADJCMD_BUSY false else s)

/-- TKU_COMMIT (R9, R84): PENDING until the next bound computation; a further write while it is 1 is ignored. -/
def State.tkuCommit (s : State) : State := s.sb F.TKU_COMMIT_PENDING true

def execTkuCommit (m : Master) (s : State) : Outcome := .next (s.asWriter m R.TKU_COMMIT State.tkuCommit)

/-! ## PTP (R67 to R74) -/

/-- A byte of a frame, 0 past its end. -/
def byteAt (f : List Byte) (i : Nat) : Nat := ((f[i]?).map BitVec.toNat).getD 0

/-- `n` bytes from `i` on, first byte most significant. -/
def beAt (f : List Byte) (i : Nat) : Nat → Nat
  | 0 => 0
  | n + 1 => byteAt f i * 256 ^ n + beAt f (i + 1) n

/-- The offset of the EtherType after zero, one or two VLAN tags (R67, R94). -/
def etherAt (f : List Byte) : Nat :=
  let tag (t : Nat) : Bool := t == 0x8100 || t == 0x88A8
  if tag (beAt f 12 2) then (if tag (beAt f 16 2) then 20 else 16) else 12

/-- Where a recognised PTP message begins in a frame under the encapsulations enabled (R67), if it is one. -/
def ptpAt (encap : Nat) (f : List Byte) : Option Nat :=
  let e := etherAt f
  let t := beAt f e 2
  let p := e + 2
  if t = 0x88F7 ∧ bitAt encap 0 then some p
  else if t = 0x0800 ∧ bitAt encap 1 ∧ byteAt f (p + 9) = 17 then
    let u := p + 4 * (byteAt f p % 16)
    if beAt f (u + 2) 2 = 319 ∨ beAt f (u + 2) 2 = 320 then some (u + 8) else none
  else if t = 0x86DD ∧ bitAt encap 2 ∧ byteAt f (p + 6) = 17 then
    let u := p + 40
    if beAt f (u + 2) 2 = 319 ∨ beAt f (u + 2) 2 = 320 then some (u + 8) else none
  else none

/-- The least length of each PTP message type (R73), none for a reserved type. -/
def ptpMinLen : Nat → Option Nat
  | 0 => some 44 | 1 => some 44 | 2 => some 54 | 3 => some 54 | 8 => some 44 | 9 => some 54 | 0xA => some 54 | 0xB => some 64
  | 0xC => some 44 | 0xD => some 48 | _ => none

/-- The partner violations the firmware answers by a drop and a log (R73): too short or over-long, a reserved type, a version other than 2, or a
timestamp with nanoseconds above 999,999,999. -/
def ptpViolates (f : List Byte) (p : Nat) : Bool :=
  let ty := byteAt f p % 16
  let len := beAt f (p + 2) 2
  match ptpMinLen ty with
  | none => true
  | some n => decide (len < n) || decide (f.length < p + len) || byteAt f (p + 1) % 16 != 2 ||
      decide (999999999 < beAt f (p + 40) 4)

/-- The receive stamp moved to the port's reference plane (R74): TKU_CALRX subtracted. -/
def State.calRx (s : State) (n : Nat) (st : Stamp) : Stamp := { st with time := st.time - 256 * s.rdN (R.TKU_CALRX n) }

/-- The transmit stamp moved to the reference plane (R74): TKU_CALTX added. -/
def State.calTx (s : State) (n : Nat) (st : Stamp) : Stamp := { st with time := st.time + 256 * s.rdN (R.TKU_CALTX n) }

/-- The island whose counter stamps port `n` (R12, R65): its quad's. -/
def portIsland (n : Nat) : Nat := islNQ (n / 4)

/-- The receive stamp of port `n`, at its reference plane (R52, R74). -/
def State.rxStamp (s : State) (n : Nat) : Stamp × State :=
  let (st, s') := s.stamp (portIsland n) (0x6000 + n)
  (s'.calRx n st, s')

/-- The transmit stamp of port `n`, at its reference plane (R52, R74). -/
def State.txStamp (s : State) (n : Nat) : Stamp × State :=
  let (st, s') := s.stamp (portIsland n) (0x6010 + n)
  (s'.calTx n st, s')

/-- A recognised message goes to Skylark's PTP queue, at most 8,192 a second device-wide, the excess dropped and counted (R67); a message that breaks
R73 is then dropped and logged, and a two-step Sync waits for its Follow_Up. -/
def State.ptpTake (s : State) (n p : Nat) (f : List Byte) (st : Stamp) : State :=
  let w := s.now / 1000000000
  let c := if s.tku.ptpWindow = w then s.tku.ptpCount else 0
  if 8192 ≤ c then s.satInc32 R.TKU_PTPDROP
  else
    let s1 := s.setTku fun t => { t with ptpWindow := w, ptpCount := c + 1 }
    if ptpViolates f p then s1.report 0x0308 0 0 []
    else
      let ty := byteAt f p % 16
      let sid := beAt f (p + 30) 2
      let two := bitAt (byteAt f (p + 6)) 1
      let s2 := s1.setTku fun t => { t with ptpQueue := t.ptpQueue ++ [⟨n, f, st, s.gf F.TKU_STATE_EPOCH⟩] }
      if ty = 0 ∧ two then s2.setTku fun t => { t with syncs := t.syncs.filter (fun e => e.1 ≠ n) ++ [(n, sid, s.now)] }
      else if ty = 8 then
        match s.tku.syncs.find? (fun e => e.1 = n) with
        | some e =>
          let s3 := s2.setTku fun t => { t with syncs := t.syncs.filter (fun e => e.1 ≠ n) }
          if e.2.1 = sid then s3 else s3.report 0x0308 0 0 []
        | none => s2
      else s2

/-- FOLLOW_UP_TIMEOUT (R73): a two-step Sync of the port has waited 1 s for its Follow_Up. -/
def State.followUpDue (s : State) (n : Nat) : Bool := s.tku.syncs.any fun e => e.1 == n && decide (e.2.2 + 1000000000 ≤ s.now)

def execFollowUpTimeout (n : Fin 16) (s : State) : Outcome :=
  .next (s.inBlock 0x03 islSYS fun s => if s.followUpDue n.val then
      (s.setTku fun t => { t with syncs := t.syncs.filter (fun e => e.1 ≠ n.val) }).report 0x0308 0 0 []
    else s)

end Sys2Proof.Machine
end

