-- ==== Sys2Proof/Machine/Clock.lean ====
section
/-! DEFINITION. The passage of time between commands (R34, R64). -/

namespace Sys2Proof.Machine

/-- Device Time moves on by one ns of the reference, steered by the frequency in force (R57, R64): TKU_FREQ counts 2^-16 ppb, and Device Time 1/65,536 ns, so
one ns of the reference is 65,536 units and TKU_FREQ parts in 10^9 of one. -/
def TkuSt.advance (t : TkuSt) (freq : Int) : TkuSt :=
  let n := t.acc + freq
  { t with dt := ((t.dt : Int) + 65536 + n / 1000000000).toNat, acc := n % 1000000000 }

/-- One ns passes (log entry 3): Device Time runs while island SYS runs. -/
def State.tick (s : State) : State :=
  let s := { s with now := s.now + 1 }
  if s.gb (F.CGU_ISL_RUNNING islSYS) then s.setTku fun t => t.advance s.freqNow else s

end Sys2Proof.Machine
end

