-- ==== Sys2Proof/Config.lean ====
section
/-! DEFINITION. What the manual leaves open: free values, as constants without a body. Nothing can evaluate one or prove anything of its value. -/

namespace Sys2Proof.Config

/-- The number from which the device picks among choices that the manual leaves open: a free buffer, tag or queue index (log entry 20). The
argument is the count of free values taken so far. -/
opaque pick : Nat → Nat

/-- The status, modulo 14, with which a sent frame completes where the manual states none (log entry 31). The argument is the count of free
values taken so far. -/
opaque openStatus : Nat → Nat

/-- The receive window, modulo 2^16, that a TCP segment carries (log entry 34). The argument is the count of free values taken so far. -/
opaque tcpWindow : Nat → Nat

/-- The word that TKU_FREQ takes when a stack member steers to its master (R445, log entry 47). The argument is the count of free values taken so far. -/
opaque steer : Nat → Nat

/-- What an engine's lookup on another member returns beside the words the member sends, modulo 2^32 (log entry 46): word 14 of the entry and the
location word. The argument is the count of free values taken so far. -/
opaque remoteWord : Nat → Nat

/-- Byte `k`, modulo 256, of the UUID that the management endpoint answers with (R521, log entry 58). -/
opaque uuid : Nat → Nat

/-- The HBM address, modulo 2^35, to which Skylark firmware copies engine image number `k` of the booted slot (R503, log entry 59). -/
opaque engineImage : Nat → Nat

end Sys2Proof.Config
end

