-- ==== Sys2Proof/Machine/Channels.lean ====
section
/-! DEFINITION. Live copies of Shadowed registers, open choices, and messages that a unit seals into an engine channel. -/

namespace Sys2Proof.Machine

/-! ## Live copies (R9) -/

/-- The live word of a Shadowed register. -/
def State.lrd (s : State) (off : Nat) : Nat := (tabGet resetWord s.live off).toNat

/-- The live value of a Shadowed field. -/
def State.lgf (s : State) (f : Fld) : Nat := bitsOf (s.lrd f.reg) f.lo f.width

/-- The live value of a one-bit Shadowed field. -/
def State.lgb (s : State) (f : Fld) : Bool := s.lgf f == 1

/-- The live value of a 64-bit Shadowed register. -/
def State.lrd64 (s : State) (off : Nat) : Nat := s.lrd off + 2 ^ 32 * s.lrd (off + 4)

/-- Registers whose shadow words become the live words, `n` words from `off` on. -/
def State.goLive (s : State) (off : Nat) : Nat → State
  | 0 => s
  | n + 1 => State.goLive { s with live := tabSet resetWord s.live off (s.rd off) } (off + 4) n

/-! ## Open choices -/

/-- The first number from `k` on, modulo `n`, that can be taken. -/
def pickFrom (ok : Nat → Bool) (n : Nat) : Nat → Nat → Option Nat
  | 0, _ => none
  | fuel + 1, k => if ok (k % n) then some (k % n) else pickFrom ok n fuel (k + 1)

/-- One of the numbers below `n` that can be taken, which one being open, and the free value it used. -/
def State.pick (s : State) (n : Nat) (ok : Nat → Bool) : Option Nat × State :=
  let (k, s) := s.fresh
  (pickFrom ok n n (Config.pick k), s)

/-! ## Channels (R346, R348, R350) -/

/-- The key of channel `c` of sward `w`. -/
def chanKey (w c : Nat) : Nat := w * 256 + c

/-- A channel. -/
def State.chan (s : State) (k : Nat) : ChanSt := tabGet (fun _ => {}) s.chans k

/-- A slot of a channel. -/
def ChanSt.slot (c : ChanSt) (k : Nat) : SlotSt := tabGet (fun _ => {}) c.slots k

/-- The channel with one slot replaced. -/
def ChanSt.setSlot (c : ChanSt) (k : Nat) (v : SlotSt) : ChanSt := { c with slots := tabSet (fun _ => {}) c.slots k v }

/-- How many of the sixteen slots are in a state. -/
def ChanSt.countOf (c : ChanSt) (st : Nat) : Nat := ((List.range 16).filter fun k => (c.slot k).st == st).length

/-- The lowest FREE slot. -/
def ChanSt.freeSlot (c : ChanSt) : Option Nat := (List.range 16).find? fun k => (c.slot k).st == 0

/-- Change a channel; ENG_CHCFG reports its SEALED and CLAIMED slots (R359). -/
def State.setChan (s : State) (k : Nat) (c : ChanSt) : State :=
  let s := { s with chans := tabSet (fun _ => {}) s.chans k c }
  (s.sf (F.ENG_CHCFG_SEALED (k / 256) (k % 256)) (c.countOf 2)).sf (F.ENG_CHCFG_CLAIMED (k / 256) (k % 256)) (c.countOf 1)

/-- A unit seals eight words into the lowest FREE slot in one step (R350); none when the channel is full. -/
def State.seal (s : State) (k : Nat) (words : List Nat) : Option State :=
  let c := s.chan k
  match c.freeSlot with
  | none => none
  | some i =>
    let c := c.setSlot i { st := 2, mem := words }
    some ((s.setChan k { c with queue := c.queue ++ [i] }).bump (R.ENG_CNT (k / 256) 4))

/-- Bytes as 64-bit words, the first byte least significant; `n` words. -/
def wordsOfBytes : Nat → List Byte → List Nat
  | 0, _ => []
  | n + 1, l => ofLe (l.take 8) :: wordsOfBytes n (l.drop 8)

/-- A unit seals a 64-byte record (R350). -/
def State.post (s : State) (w c : Nat) (record : List Byte) : Option State := s.seal (chanKey w c) (wordsOfBytes 8 record)

/-- The record bytes of a stamp: short stamp, bound code, a type byte, domain and sequence, as the 16 bytes that open most records. -/
def stampBytes (t : Stamp) (type : Nat) : List Byte :=
  leBytes 8 (shortOf t.time) ++ [byte t.bound, byte type] ++ leBytes 2 t.domain ++ leBytes 4 t.seq

/-- Bytes cut or padded with zeros to `n`. -/
def fitBytes (n : Nat) (l : List Byte) : List Byte := (l ++ List.replicate n 0).take n

end Sys2Proof.Machine
end

