-- ==== Sys2Proof/Machine/Hash.lean ====
section
/-! DEFINITION. The hash functions of R122 and byte fields of frames. -/

namespace Sys2Proof.Machine

/-- Rotate a 32-bit number left. -/
def rotl32 (x k : Nat) : Nat := (x * 2 ^ k % 2 ^ 32) ||| (x / 2 ^ (32 - k))

/-- One step of a hash (R122). -/
def hmix (h w : Nat) : Nat :=
  let h := h ^^^ w
  let h := (h + rotl32 h 12) % 2 ^ 32
  h ^^^ rotl32 h 24

/-- The hash of a list of 32-bit words under a key (R122). -/
def hashWords (key : Nat) (w : List Nat) : Nat :=
  let h := w.foldl hmix key
  h ^^^ (h / 65536)

/-- The 32-bit words of a number of `n` words, most significant first. -/
def msWords : Nat → Nat → List Nat
  | 0, _ => []
  | n + 1, v => v / 2 ^ (32 * n) % 2 ^ 32 :: msWords n v

/-- A number from 32-bit words, most significant first. -/
def ofMs (l : List Nat) : Nat := l.foldl (fun a w => a * 2 ^ 32 + w % 2 ^ 32) 0

/-- `n` big-endian bytes of a number. -/
def beBytes (n v : Nat) : List Byte := (leBytes n v).reverse

/-- A number from big-endian bytes. -/
def ofBe (l : List Byte) : Nat := l.foldl (fun a b => a * 256 + b.toNat) 0

/-- Bytes `off` to `off + n - 1` of a frame as a big-endian number, bytes beyond `fin` reading 0. -/
def beField (f : List Byte) (fin off n : Nat) : Nat :=
  ofBe ((List.range n).map fun i => if off + i < fin then f.getD (off + i) 0 else 0)

end Sys2Proof.Machine
end

