-- ==== Sys2Proof/Machine/Parse.lean ====
section
/-! DEFINITION. The parser: the walk through the parse graph, lengths, layers, fragments, hashes and the parse record, and the
commit of the graph (R111 to R131). -/

namespace Sys2Proof.Machine

/-! ## Banks (R128, R129) -/

/-- A word of the parse bank `b`: the bank in force is the live copy, and the other is the shadow. -/
def State.prd (s : State) (b off : Nat) : Nat := if b = s.cls.cur then s.lrd off else s.rdN off

/-- A field of a bank, read through the bank's words. -/
def rf (rd : Nat → Nat) (f : Fld) : Nat := bitsOf (rd f.reg) f.lo f.width

/-- A one-bit field of a bank. -/
def rb (rd : Nat → Nat) (f : Fld) : Bool := rf rd f == 1

/-! ## Checksums -/

/-- Fold a sum of 16-bit words to 16 bits with end-around carry. -/
def fold16 (n : Nat) : Nat :=
  let a := n % 65536 + n / 65536
  let b := a % 65536 + a / 65536
  b % 65536 + b / 65536

/-- The sum of a list of bytes as big-endian 16-bit words, an odd last byte padded with zero. -/
def sum16 : List Byte → Nat
  | [] => 0
  | [a] => a.toNat * 256
  | a :: b :: t => a.toNat * 256 + b.toNat + sum16 t

/-- The Internet checksum of bytes. -/
def inetSum (l : List Byte) : Nat := 65535 - fold16 (sum16 l)

/-- Bytes `a` to `a + n - 1` of a frame. -/
def cut (f : List Byte) (a n : Nat) : List Byte := (f.drop a).take n

/-- The sum of the pseudo-header of an L4 segment: the L3 of type `t` at `l3`, the protocol and the segment's length. -/
def pseudoSum (f : List Byte) (t l3 proto n : Nat) : Nat :=
  (if t = 5 then sum16 (cut f (l3 + 8) 32) else sum16 (cut f (l3 + 12) 8)) + proto + n / 65536 + n % 65536

/-! ## Layers (R113) -/

/-- What a layer of a walk holds: its first header's type, its Ethernet header's offset and the bytes from there to the envelope end; its L3 and L4
as (type, offset); the last protocol value; its tags; whether its L3 is a fragment, and then whether the first one and with which
identification; and its L4 checksum code. -/
structure LayerSt where
  first : Option Nat := none
  l2 : Option (Nat × Nat) := none
  l3 : Option (Nat × Nat) := none
  l4 : Option (Nat × Nat) := none
  proto : Nat := 0
  tags : Nat := 0
  tci : Option Nat := none
  frag : Option (Bool × Nat) := none
  csum : Nat := 0
  deriving DecidableEq, Repr

/-- A walk in progress (R112, R116): headers recorded, headers counted, the layers inner first, the envelope end, the mismatches found, the outer
L3 checksum code, and the bad checksums found. -/
structure Walk where
  hdrs : List Hdr := []
  count : Nat := 0
  layers : List LayerSt := [{}]
  env : Nat
  lenmm : Nat := 0
  l3csum : Nat := 0
  bad3 : Nat := 0
  bad4 : Nat := 0
  deriving DecidableEq, Repr

/-- The layer being walked, and its index, held at 15 (R127). -/
def Walk.cur (w : Walk) : LayerSt := w.layers.headD {}
def Walk.layer (w : Walk) : Nat := w.layers.length - 1

/-- Change the layer being walked. -/
def Walk.setCur (w : Walk) (l : LayerSt) : Walk := { w with layers := l :: w.layers.drop 1 }

/-- What the treatment of a recorded header answers. -/
inductive Treat where
  | go
  | stop
  | short
  deriving DecidableEq, Repr

/-- The declared end `d` of an IPv4, IPv6 or UDP header of length `len` at `o` (R117): the first matching line; `first` says that the header is the first L3
of its layer. -/
def Walk.declare (w : Walk) (o len d : Nat) (first : Bool) : Treat × Walk :=
  if d < o + len then (.short, w)
  else if w.env < d then (.short, w)
  else if d = w.env then (.go, w)
  else if first && w.cur.first == some 1 && (match w.cur.l2 with | some (_, n) => n == 60 | none => false) then (.go, { w with env := d })
  else (.go, { w with env := d, lenmm := w.lenmm + 1 })

/-- The checksum code of an IPv4 header (R114, R127). -/
def csum4 (f : List Byte) (o len : Nat) : Nat := if fold16 (sum16 (cut f o len)) = 65535 then 1 else 2

/-- The checksum code of a UDP or TCP segment that runs to the envelope end (R114, R127). -/
def csumL4 (f : List Byte) (l3 : Nat × Nat) (t o fin : Nat) : Nat :=
  if t = 8 && beAt f (o + 6) 2 == 0 then 3
  else if fold16 (pseudoSum f l3.1 l3.2 (if t = 8 then 17 else 6) (fin - o) + sum16 (cut f o (fin - o))) = 65535 then 1 else 2

/-- A header that may be its layer's L4 is recorded (R113, R114). -/
def Walk.takeL4 (w : Walk) (f : List Byte) (check : Bool) (t o : Nat) : Walk :=
  let l := w.cur
  match l.l3, l.l4 with
  | some l3, none =>
    let c := if check && (t == 8 || t == 9) && l.frag.isNone then csumL4 f l3 t o w.env else 0
    { w.setCur { l with l4 := some (t, o), csum := c } with bad4 := w.bad4 + b2n (c == 2) }
  | _, _ => w

/-- An IPv4 or IPv6 header is recorded (R113, R114, R117). -/
def Walk.takeL3 (w : Walk) (f : List Byte) (t o len : Nat) : Treat × Walk :=
  let l := w.cur
  let isFirst := l.l3.isNone
  let fl := if t = 4 then beAt f (o + 6) 2 else 0
  let frag := t == 4 && fl % 16384 != 0
  let l' := if isFirst then
      { l with l3 := some (t, o), proto := byteAt f (if t = 4 then o + 9 else o + 6),
               frag := if frag then some (fl % 8192 == 0, beAt f (o + 4) 2) else none }
    else l
  match (w.setCur l').declare o len (if t = 4 then o + beAt f (o + 2) 2 else o + 40 + beAt f (o + 4) 2) isFirst with
  | (.go, w) =>
    let c := if t = 4 && !frag then csum4 f o len else 0
    (if t = 4 && fl % 8192 != 0 then .stop else .go,
     { w with l3csum := if isFirst && w.layers.length == 1 then c else w.l3csum, bad3 := w.bad3 + b2n (c == 2) })
  | r => r

/-- A VLAN tag is recorded (R114). -/
def Walk.takeTag (w : Walk) (f : List Byte) (o : Nat) : Walk :=
  let l := w.cur
  w.setCur { l with tags := min 15 (l.tags + 1), tci := some (l.tci.getD (beAt f o 2)) }

/-- An IPv6 extension or fragment header is recorded (R114, R123). -/
def Walk.takeExt (w : Walk) (f : List Byte) (t o : Nat) : Treat × Walk :=
  let l := w.cur
  let l := if l.l3.isSome && l.l4.isNone then { l with proto := byteAt f o } else l
  let fo := beAt f (o + 2) 2
  if t = 7 && (fo / 8 != 0 || fo % 2 != 0) then
    let l := if l.l3.isSome then { l with frag := some (fo / 8 == 0, beAt f (o + 4) 4) } else l
    (if fo / 8 = 0 then .go else .stop, w.setCur l)
  else (.go, w.setCur l)

/-- The treatment of a recorded header by its architectural type (R114, R117). `check` is L4CSUM_EN. -/
def Walk.treat (w : Walk) (f : List Byte) (check : Bool) (t o len : Nat) : Treat × Walk :=
  if t = 1 then (.go, w.setCur { w.cur with tags := 0, l2 := some (w.cur.l2.getD (o, w.env - o)) })
  else if t = 2 then (.go, w.takeTag f o)
  else if t = 4 || t = 5 then w.takeL3 f t o len
  else if t = 6 || t = 7 then w.takeExt f t o
  else if t = 8 then
    let n := beAt f (o + 4) 2
    if n < 8 then (.short, w.takeL4 f false t o) else
    match w.declare o len (o + n) false with
    | (.go, w) => (.go, w.takeL4 f check t o)
    | r => r
  else if t = 9 then (.go, w.takeL4 f check t o)
  else if t = 0xA || t = 0xB then (.go, w.takeL4 f false t o)
  else (.go, w)

/-- A header of node `n` and type `t` is recorded; type 0x00 is never recorded, and only counted (R113, R114). -/
def Walk.record (w : Walk) (t n o len : Nat) (tunnel : Bool) : Walk :=
  let w := { w with count := w.count + 1 }
  if t = 0 then w else
  let w := if tunnel && decide (w.layers.length < 16) then { w with layers := {} :: w.layers } else w
  let l := w.cur
  { w.setCur { l with first := some (l.first.getD t) } with hdrs := w.hdrs ++ [⟨t, n, o, len, w.layer, w.env⟩] }

/-! ## The walk (R112) -/

/-- How a walk ended. -/
inductive WalkEnd where
  | fin
  | trunc
  | short
  deriving DecidableEq, Repr

/-- The next node by the transitions of a node, the first match winning. -/
def nextNode (rd : Nat → Nat) (n key : Nat) : Option Nat :=
  ((List.range (rf rd (F.PRS_NODE_TCOUNT n))).find? fun k =>
    let t := rf rd (F.PRS_NODE_TBASE n) + k
    rb rd (F.PRS_TRANS_VALID t) && rf rd (F.PRS_TRANS_VALUE t) == key).map fun k => rf rd (F.PRS_TRANS_NODE (rf rd (F.PRS_NODE_TBASE n) + k))

/-- The length of a node's header at `o`, none where a computed one is below FIXLEN. -/
def nodeLen (rd : Nat → Nat) (f : List Byte) (n o : Nat) : Option Nat :=
  let fix := rf rd (F.PRS_NODE_FIXLEN n)
  if rf rd (F.PRS_NODE_LENMODE n) = 1 then
    let v := bitsOf (beAt f (o + rf rd (F.PRS_NODE_LOFF n)) 2) (rf rd (F.PRS_NODE_LSHIFT n)) 16 &&& rf rd (F.PRS_NODE_LMASK n)
    let l := v * 2 ^ rf rd (F.PRS_NODE_LSCALE n) + rf rd (F.PRS_NODE_LADD n)
    if l < fix then none else some l
  else some fix

/-- The walk from node `n` at offset `o` (R112): how it ended, where it stopped, and what it recorded. -/
def walk (rd : Nat → Nat) (f : List Byte) (p : Nat) : Nat → Nat → Nat → Walk → WalkEnd × Nat × Walk
  | 0, _, o, w => (.trunc, o, w)
  | fuel + 1, n, o, w =>
    let fix := rf rd (F.PRS_NODE_FIXLEN n)
    let most := rf rd (F.PRS_PROF_MAXBYTES p)
    if w.count = rf rd (F.PRS_PROF_MAXHDR p) then (.trunc, o, w)
    else if most < o + fix then (.trunc, o, w)
    else if w.env < o + fix then (.short, o, w)
    else match nodeLen rd f n o with
    | none => (.short, o, w)
    | some len =>
      if most < o + len then (.trunc, o, w)
      else if w.env < o + len then (.short, o, w)
      else
        let t := rf rd (F.PRS_NODE_HDRTYPE n)
        match (w.record t n o len (rb rd (F.PRS_NODE_TUNNEL n))).treat f (rb rd (F.PRS_PROF_L4CSUM_EN p)) t o len with
        | (.short, w) => (.short, o, w)
        | (.stop, w) => (.fin, o + len, w)
        | (.go, w) =>
          let key := bitsOf (beField f w.env (o + rf rd (F.PRS_NODE_KOFF n)) 2) (rf rd (F.PRS_NODE_KSHIFT n)) 16 &&& rf rd (F.PRS_NODE_KMASK n)
          match nextNode rd n key with
          | some m => walk rd f p fuel m (o + len) w
          | none =>
            if rb rd (F.PRS_NODE_DEFSTOP n) then (.fin, o + len, w) else walk rd f p fuel (rf rd (F.PRS_NODE_DEFNODE n)) (o + len) w

/-! ## Hashes (R122 to R125) -/

/-- Header types whose L4 carries ports. -/
def hasPorts (t : Nat) : Bool := t == 8 || t == 9 || t == 0xA

/-- The main hash of R123 over an L3 given as (IPv6, source, destination), with its ports and protocol. -/
def mainHash (key : Nat) (v6 : Bool) (a b pa pb proto : Nat) : Nat :=
  let swap := decide (b < a) || (decide (a = b) && decide (pb < pa))
  let (lo, hi, plo, phi) := if swap then (b, a, pb, pa) else (a, b, pa, pb)
  let n := if v6 then 4 else 1
  hashWords key (msWords n lo ++ msWords n hi ++ [plo * 65536 + phi, proto * 256 + (if v6 then 6 else 4)])

/-- The addresses of a layer's L3: (IPv6, source, destination). -/
def l3Addrs (f : List Byte) (l3 : Nat × Nat) : Bool × Nat × Nat :=
  if l3.1 = 5 then (true, beAt f (l3.2 + 8) 16, beAt f (l3.2 + 24) 16) else (false, beAt f (l3.2 + 12) 4, beAt f (l3.2 + 16) 4)

/-- The first or last recorded header of a type. -/
def findHdr (hdrs : List Hdr) (t : Nat) (last : Bool) : Option Hdr :=
  if last then hdrs.reverse.find? fun h => h.typ == t else hdrs.find? fun h => h.typ == t

/-- One selector's word, none where its header is absent or its bytes lie past the envelope end (R124). -/
def selWord (rd : Nat → Nat) (f : List Byte) (hdrs : List Hdr) (k : Nat) : Option Nat :=
  match findHdr hdrs (rf rd (F.PRS_FSEL_HTYPE k)) (rb rd (F.PRS_FSEL_OCC k)) with
  | none => none
  | some h =>
    let a := h.off + rf rd (F.PRS_FSEL_OFFSET k)
    let n := rf rd (F.PRS_FSEL_LEN k) + 1
    if h.fin < a + n then none else some (beAt f a n)

/-- The field-select hash and whether a selector missed (R124). -/
def selHash (rd : Nat → Nat) (f : List Byte) (hdrs : List Hdr) (p : Nat) : Nat × Bool :=
  let w := (List.range (rf rd (F.PRS_PROF_FSCOUNT p) + 1)).map fun k => selWord rd f hdrs (rf rd (F.PRS_PROF_FSBASE p) + k)
  (hashWords (rf rd (F.PRS_PROF_FSKEY p)) (w.map fun x => x.getD 0), w.any fun x => x.isNone)

/-- A VLAN TPID that the MAC passes over (R125). -/
def isTpid (t : Nat) : Bool := t == 0x8100 || t == 0x88A8 || t == 0x9100

/-- The MAC's own walk over IPv6 extension headers (R125): the protocol found. -/
def spreadProto (f : List Byte) : Nat → Nat → Nat → Nat
  | 0, _, proto => proto
  | fuel + 1, o, proto =>
    let len := if proto = 44 then 8 else 8 * (byteAt f (o + 1) + 1)
    if !(proto == 0 || proto == 43 || proto == 60 || proto == 44) || f.length < o + len then proto
    else spreadProto f fuel (o + len) (byteAt f o)

/-- The spread hash of a frame (R125). -/
def spreadHash (key : Nat) (f : List Byte) : Nat :=
  let e := if isTpid (beAt f 12 2) then (if isTpid (beAt f 16 2) then 20 else 16) else 12
  let t := beAt f e 2
  if t = 0x0800 && decide (e + 22 ≤ f.length) then
    let (_, a, b) := l3Addrs f (4, e + 2)
    mainHash key false a b 0 0 (byteAt f (e + 11))
  else if t = 0x86DD && decide (e + 42 ≤ f.length) then
    let (_, a, b) := l3Addrs f (5, e + 2)
    mainHash key true a b 0 0 (spreadProto f 4 (e + 42) (byteAt f (e + 8)))
  else
    let a := beAt f 0 6
    let b := beAt f 6 6
    let lo := min a b
    let hi := max a b
    hashWords key [lo / 65536, (lo % 65536) * 65536 + hi / 2 ^ 32, hi % 2 ^ 32, t]

/-! ## Fragments (R119 to R121) -/

/-- The key of a fragment, and its set. -/
def fragKey (f : List Byte) (l3 : Nat × Nat) (proto id : Nat) : List Nat × Nat :=
  let (v6, a, b) := l3Addrs f l3
  ([a, b, proto, id], (mainHash 0 v6 a b 0 0 proto ^^^ id) % 2048)

/-- A way of a pipeline's fragment table. -/
def State.fragAt (s : State) (k : Nat) : Option FragSt := tabGet (fun _ => none) s.cls.frags k

/-- Change a way. -/
def State.setFrag (s : State) (k : Nat) (v : Option FragSt) : State :=
  { s with cls := { s.cls with frags := tabSet (fun _ => none) s.cls.frags k v } }

/-- The key of way 0 of a set. -/
def fragWay (p set : Nat) : Nat := p * 8192 + set * 4

/-- The live entry of a set with a key. -/
def State.fragFind (s : State) (p set : Nat) (key : List Nat) : Option (Nat × FragSt) :=
  (List.range 4).findSome? fun i =>
    match s.fragAt (fragWay p set + i) with
    | some e => if e.key == key && decide (s.now < e.until_) then some (fragWay p set + i, e) else none
    | none => none

/-- An event of the parser (R118, R457): it blames MAC and the receive port, or FNM and the sending function. -/
def State.prsReport (s : State) (code : Nat) (k : Pkt) : State :=
  if k.port < 16 then s.reportAs code 0 0x7000 (0x6000 + k.port) []
  else match k.src with
    | some (p, f) => s.reportFn code 0 0x7000 p f
    | none => s.report code 0 0 []

/-- Count in PRS_CNT[p][k]. -/
def State.prsCount (s : State) (p k : Nat) : State := s.bump (R.PRS_CNT p k)

/-- A first fragment inserts its key (R120). -/
def State.fragInsert (s : State) (p set : Nat) (key : List Nat) (ports : Nat) : State :=
  let e : FragSt := ⟨key, ports, s.now + 1000 * max 1 (s.gf F.PRS_FRAGCFG_TMO)⟩
  match s.fragFind p set key with
  | some (i, _) => (s.setFrag i (some e)).prsCount p 4
  | none =>
    match (List.range 4).find? fun i => match s.fragAt (fragWay p set + i) with | some x => decide (x.until_ ≤ s.now) | none => true with
    | some i => (s.setFrag (fragWay p set + i) (some e)).prsCount p 4
    | none => (s.prsCount p 7).report 0x7004 0 0 []

/-- The ports of a layer's L4. -/
def l4Ports (f : List Byte) (l : LayerSt) : Nat × Nat :=
  match l.l4 with
  | some (t, o) => if hasPorts t then (beAt f o 2, beAt f (o + 2) 2) else (0, 0)
  | none => (0, 0)

/-- What the fragment table says of a packet: ports, FRAGHIT, FRAGMISS and the state it leaves (R119 to R121). -/
def State.fragments (s : State) (k : Pkt) (en : Bool) (l : LayerSt) : (Nat × Nat) × Bool × Bool × State :=
  let p := k.pipe
  let own := l4Ports k.bytes l
  match l.l3, l.frag with
  | some l3, some (first, id) =>
    if !en then (own, false, false, s) else
    let (key, set) := fragKey k.bytes l3 l.proto id
    if first then
      (own, false, false, if l.l4.isSome then s.fragInsert p set key (own.1 + own.2 * 65536) else s)
    else match s.fragFind p set key with
      | some (_, e) => ((e.ports % 65536, e.ports / 65536), true, false, s.prsCount p 5)
      | none => ((0, 0), false, true, s.prsCount p 6)
  | _, _ => (own, false, false, s)

/-! ## A pass's parse (R111, R115 to R118, R127) -/

/-- What a parse decides: the packet goes on to the classifier, to EXCDEST, or is dropped. -/
inductive ParseAct where
  | go
  | exception
  | drop
  deriving DecidableEq, Repr

/-- The stricter of two outcomes (R118). -/
def ParseAct.join : ParseAct → ParseAct → ParseAct
  | .drop, _ => .drop
  | _, .drop => .drop
  | .exception, _ => .exception
  | _, .exception => .exception
  | .go, .go => .go

/-- An action code of R115 and R118: 0 goes on, 1 is the exception, and 2 drops. -/
def actOf (n : Nat) : ParseAct := if n = 0 then .go else if n = 1 then .exception else .drop

/-- An offset of the record; absent is 0x3FF. -/
def recOff (o : Option Nat) : Nat := (o.getD 0x3FF) % 1024

/-- FRAMELEN of a packet (R93, R116): a received frame counts its FCS. -/
def Pkt.frameLen (k : Pkt) : Nat := if k.port < 16 then k.bytes.length + 4 else k.bytes.length

/-- One header's word of the record (R127). -/
def hdrWord (h : Hdr) : Nat := h.typ + h.node * 2 ^ 8 + (h.off % 1024) * 2 ^ 16 + (h.layer % 16) * 2 ^ 26

/-- The parse record of R127. -/
def recWords (k : Pkt) (w : Walk) (how : WalkEnd) (pay : Nat) (flags : List Bool) (hash ports : Nat) : List Nat :=
  let outer := w.layers.getLastD {}
  let inner := w.cur
  let fl := (List.range flags.length).foldl (fun a i => a + b2n (flags.getD i false) * 2 ^ (19 + i)) 0
  [k.profile % 64 + (k.pass % 4) * 2 ^ 6 + w.hdrs.length * 2 ^ 8 + w.layer * 2 ^ 13 + k.pbank * 2 ^ 17 + k.bank * 2 ^ 18 + fl +
     w.l3csum * 2 ^ 26 + outer.csum * 2 ^ 28 + inner.csum * 2 ^ 30,
   hash, k.frameLen % 2 ^ 15,
   recOff (outer.l3.map (·.2)) + recOff (outer.l4.map (·.2)) * 2 ^ 10 + recOff (inner.l2.map (·.1)) * 2 ^ 20,
   recOff (inner.l3.map (·.2)) + recOff (inner.l4.map (·.2)) * 2 ^ 10 + (if how = .short then 0x3FF else pay % 1024) * 2 ^ 20,
   outer.tci.getD 0 + inner.tci.getD 0 * 65536, outer.tags + inner.tags * 16, ports] ++
  (List.range 16).map fun i => match w.hdrs[i]? with | some h => hdrWord h | none => 0

/-- The hash of the record with NOHASH and FSMISS (R125). -/
def recHash (rd : Nat → Nat) (k : Pkt) (hdrs : List Hdr) (l : LayerSt) (ports : Nat × Nat) : Nat × Bool × Bool :=
  let p := k.profile
  let main := l.l3.map fun l3 =>
    let (v6, a, b) := l3Addrs k.bytes l3
    mainHash (rd R.PRS_HKEY) v6 a b ports.1 ports.2 l.proto
  let sel := selHash rd k.bytes hdrs p
  match rf rd (F.PRS_PROF_HASHMODE p), main with
  | 0, _ => (0, false, false)
  | 1, some h => (h, false, false)
  | 1, none => (0, true, false)
  | 2, _ => (sel.1, false, sel.2)
  | _, some h => (h, false, false)
  | _, none => (sel.1, false, sel.2)

/-- Repeat a change of the state. -/
def State.times (s : State) (f : State → State) : Nat → State
  | 0 => s
  | n + 1 => State.times (f s) f n

/-- One pass's parse: the headers, what follows, and the packet with its record and status. -/
def State.parse (s : State) (k : Pkt) : ParseAct × List Hdr × Pkt × State :=
  let rd := s.prd k.pbank
  let p := k.profile
  let q := k.pipe
  let (how, pay, w) := walk rd k.bytes p 17 (rf rd (F.PRS_PROF_START p)) 0 { env := k.bytes.length }
  let l := if rb rd (F.PRS_PROF_HASHLAYER p) then w.cur else w.layers.getLastD {}
  let s := s.prsCount q 0
  let s := s.times (fun s => (s.prsCount q 2).prsReport 0x7002 k) w.lenmm
  let s := (s.times (fun s => s.prsCount q 8) w.bad3).times (fun s => s.prsCount q 9) w.bad4
  let (ports, hit, miss, s) := s.fragments k (rb rd (F.PRS_PROF_FRAG_EN p)) l
  let (h, nohash, fsmiss) := recHash rd k w.hdrs l ports
  let words := recWords k w how pay [how == .trunc, decide (0 < w.lenmm), hit, miss, fsmiss, nohash, l.frag.isSome] h
    (if hit then ports.1 + ports.2 * 65536 else 0)
  let s := match how with
    | .short => (s.prsCount q 1).prsReport 0x7001 k
    | .trunc => (s.prsCount q 3).prsReport 0x7003 k
    | .fin => s
  let short := if how = .short then (if rf rd (F.PRS_PROF_SHORT_ACT p) = 1 then ParseAct.exception else .drop) else .go
  let trunc := if how = .trunc then actOf (rf rd (F.PRS_PROF_TRUNC_ACT p)) else .go
  let lenmm := if 0 < w.lenmm then actOf (rf rd (F.PRS_PROF_LENMM_ACT p)) else .go
  let fm := if miss then actOf (rf rd (F.PRS_PROF_FRAGMISS_ACT p)) else .go
  let status := if how = .short then 4 else if how = .trunc then 0xA else if lenmm ≠ .go then 4 else k.status
  (((short.join trunc).join lenmm).join fm, w.hdrs, { k with prec := words, status }, s)

/-! ## Changing the graph (R128, R129) -/

/-- Why a shadow node is refused. -/
def State.badNode (s : State) (n : Nat) : Bool :=
  let c := s.gf (F.PRS_NODE_TCOUNT n)
  let t := s.gf (F.PRS_NODE_HDRTYPE n)
  decide (16 < c) || decide (1024 < s.gf (F.PRS_NODE_TBASE n) + c) || decide (1 < s.gf (F.PRS_NODE_LENMODE n)) ||
    (s.gf (F.PRS_NODE_LENMODE n) == 1 && decide (s.gf (F.PRS_NODE_FIXLEN n) < s.gf (F.PRS_NODE_LOFF n) + 2)) || (0x12 ≤ t && decide (t ≤ 0x1F))

/-- Why a shadow profile is refused. -/
def State.badProfile (s : State) (p : Nat) : Bool :=
  s.gf (F.PRS_PROF_TRUNC_ACT p) == 3 || decide (2 ≤ s.gf (F.PRS_PROF_SHORT_ACT p)) || s.gf (F.PRS_PROF_LENMM_ACT p) == 3 ||
    decide (2 ≤ s.gf (F.PRS_PROF_FRAGMISS_ACT p)) || decide (512 < s.gf (F.PRS_PROF_FSBASE p) + s.gf (F.PRS_PROF_FSCOUNT p) + 1)

/-- The first entry that a commit refuses, as (ERRKIND, ERRINDEX). -/
def State.prsBad (s : State) : Option (Nat × Nat) :=
  match (List.range 256).find? s.badNode with
  | some n => some (1, n)
  | none => ((List.range 64).find? s.badProfile).map fun p => (3, p)

/-- A write of 1 to PRS_COMMIT.COMMIT (R9, R128). -/
def State.prsCommit (s : State) : State :=
  if s.gb F.PRS_COMMIT_PENDING then s else
  match s.prsBad with
  | some (kind, i) =>
    (((s.sb F.PRS_COMMIT_ERR true).sf F.PRS_COMMIT_ERRKIND kind).sf F.PRS_COMMIT_ERRINDEX i).report 0x7005 0 0 []
  | none => { s.sb F.PRS_COMMIT_PENDING true with pipes := (List.range 4).foldl (fun t p =>
      tabMod (fun _ => {}) t p fun x => { x with switched := false }) s.pipes }

/-- PRS_COMMIT (R128). -/
def execPrsCommit (m : Master) (s : State) : Outcome := .next (s.asWriter m R.PRS_COMMIT State.prsCommit)

/-- A pipeline. -/
def State.pipe (s : State) (p : Nat) : PipeSt := tabGet (fun _ => {}) s.pipes p

/-- Change a pipeline. -/
def State.modPipe (s : State) (p : Nat) (g : PipeSt → PipeSt) : State := { s with pipes := tabMod (fun _ => {}) s.pipes p g }

/-- PRS_BANK_SWITCH (R129): a pipeline takes a valid commit at its next packet boundary. -/
def execPrsBankSwitch (p : Fin 4) (s : State) : Outcome :=
  .next (s.inBlock 0x70 (islPP p.val) fun s => if s.gb F.PRS_COMMIT_PENDING && (s.pipe p).pass.isNone then s.modPipe p fun x => { x with switched := true } else s)

/-- The bank that a pipeline's first parses capture (R129). -/
def State.newPbank (s : State) (p : Nat) : Nat :=
  if s.gb F.PRS_COMMIT_PENDING && (s.pipe p).switched then 1 - s.cls.cur else s.cls.cur

/-- The packets in a pipeline that have begun their first parse. -/
def PipeSt.packets (x : PipeSt) : List Pkt := (match x.pass with | some w => [w.pkt] | none => []) ++ x.recirc ++ x.ret.filter fun k => k.pass ≠ 0

/-- PRS_REFILL_DONE (R129): once every pipeline has switched and none holds a packet of the old bank, the new bank is the one in force and the shadow
equals it. -/
def State.prsRefill (s : State) : State :=
  let s := s.goLive R.PRS_HKEY 1
  let s := s.goLive (R.PRS_PROF 0) 512
  let s := s.goLive (R.PRS_FSEL 0) 512
  let s := (s.goLive (R.PRS_NODE 0) 1024).goLive (R.PRS_TRANS 0) 1024
  { s.sb F.PRS_COMMIT_PENDING false with cls := { s.cls with cur := 1 - s.cls.cur } }

def execPrsRefillDone (s : State) : Outcome :=
  .next (s.inBlock 0x70 (islPP 0) fun s => if s.gb F.PRS_COMMIT_PENDING && (List.range 4).all fun p => (s.pipe p).switched && (s.pipe p).packets.all fun k => k.pbank ≠ s.cls.cur
    then s.prsRefill else s)

/-- FRAG_EXPIRE (R120): a way whose entry's life has ended is freed. -/
def execFragExpire (p : Fin 4) (way : Fin 8192) (s : State) : Outcome :=
  .next (s.inBlock 0x70 (islPP p.val) fun s => match s.fragAt (p * 8192 + way) with
    | some e => if e.until_ ≤ s.now then s.setFrag (p * 8192 + way) none else s
    | none => s)

end Sys2Proof.Machine
end

