-- ==== Sys2Proof/Machine/StkBase.lean ====
section
/-! DEFINITION. Stack messages: routes, links and sending (R437 to R440, R446 to R448). -/

namespace Sys2Proof.Machine

/-- Change STK's state. -/
def State.modStk (s : State) (f : StkSt → StkSt) : State := { s with stk := f s.stk }

/-- A Dasko link. -/
def State.link (s : State) (l : Nat) : LinkSt := tabGet (fun _ => {}) s.stk.links l

/-- Change a Dasko link. -/
def State.modLink (s : State) (l : Nat) (f : LinkSt → LinkSt) : State :=
  s.modStk fun x => { x with links := tabMod (fun _ => {}) x.links l f }

/-- A link is up (R436). -/
def State.linkIsUp (s : State) (l : Nat) : Bool := bitAt (s.gf F.STK_STATUS_LINKUP) l

/-- Member `m` is in the view (R441). -/
def State.inView (s : State) (m : Nat) : Bool := bitAt (s.gf F.STK_STATUS_VIEW) m

/-- The members of a mask, in order. -/
def membersOf (v : Nat) : List Nat := (List.range 4).filter fun m => bitAt v m

/-- The number of members in the view. -/
def State.viewSize (s : State) : Nat := (membersOf (s.gf F.STK_STATUS_VIEW)).length

/-- STK_CNT[l][k]. -/
def State.stkCount (s : State) (l k : Nat) : State := s.bump (R.STK_CNT l k)

/-- STK_MSG_VIOL (R440). -/
def State.stkViol (s : State) (l : Nat) : State := (s.stkCount l 7).report 0xF006 0 l []

/-- The hops from this member to another along DL0, the members lying round the ring in the order of their IDs (log entry 45). -/
def State.hopsTo (s : State) (m : Nat) : Nat :=
  let v := membersOf (s.gf F.STK_STATUS_VIEW)
  let n := v.length
  if n = 0 then 0 else (v.idxOf m + n - v.idxOf (s.gf F.STK_STATUS_MYID)) % n

/-- The link of the route to a member (R440): the one with fewer hops, DL0 where they are equal, and the other where that link is down. -/
def State.route (s : State) (m : Nat) : Option Nat :=
  let a := if s.hopsTo m ≤ s.viewSize - s.hopsTo m then 0 else 1
  if s.linkIsUp a then some a else if s.linkIsUp (1 - a) then some (1 - a) else none

/-- A message goes out on a link. -/
def State.daskoOut (s : State) (l : Nat) (m : StkMsg) : State := s.emit (.dasko l m)

/-- A control message sent on a link: it takes the link's next LSEQ, carries LACK, and is kept until it is acknowledged (R437, R439). -/
def State.ctlSend (s : State) (l : Nat) (m : StkMsg) : State :=
  let x := s.link l
  let q := (x.txSeq + 1) % 65536
  let m := { m with lseq := q, lack := x.rxSeq }
  ((s.modLink l fun x => { x with txSeq := q, unacked := x.unacked ++ [(m, s.now)] }).stkCount l 0).daskoOut l m

/-- A message of this member. -/
def State.ownMsg (s : State) (dst : Nat) (bcast : Bool) (body : StkBody) : StkMsg :=
  { src := s.gf F.STK_STATUS_MYID, dst := if bcast then 0 else dst, bcast, hops := 0, mgen := s.gf F.STK_STATUS_MGEN, lseq := 0, lack := 0, body }

/-- A control message to a member; false when no route is up. -/
def State.ctlTo (s : State) (m : Nat) (body : StkBody) : Bool × State :=
  match s.route m with
  | none => (false, s)
  | some l => (true, s.ctlSend l (s.ownMsg m false body))

/-- A broadcast on every link that is up. -/
def State.ctlAll (s : State) (body : Nat → State → StkBody × State) : State :=
  (List.range 2).foldl (fun s l => if s.linkIsUp l then let (b, s) := body l s; s.ctlSend l (s.ownMsg 0 true b) else s) s

/-- TXDONE to the member that handed a frame here (R446). -/
def State.stkTxdone (s : State) (m tag status : Nat) (tx : Option StkStamp) : State := (s.ctlTo m (.txdone tag status tx)).2

/-- A lookup sent to a member (R170, R447): the member and the tag of its request, none when the member is absent or no route is up, which is a miss and
counts REMOTE_TMO. -/
def State.askMember (s : State) (m kdef key : Nat) : Option (Nat × Nat) × State :=
  let tag := s.stk.tags
  let miss : Option (Nat × Nat) × State := (none, s.bump (R.TBL_CNT 9))
  if !s.inView m then miss else
  match s.ctlTo m (.lookupReq tag kdef key) with
  | (false, _) => miss
  | (true, s) => (some (m, tag), (s.modStk fun x => { x with tags := x.tags + 1 }).bump (R.TBL_CNT 8))

/-- The room that a link's DATA queue of 4 MiB has left, drained at 100 bytes per ns (R435, R448). -/
def State.egressNow (s : State) (l : Nat) : Nat := let x := s.link l; x.egress - 100 * (s.now - x.egressAt)

/-- A DATA message sent on a link; false when its queue is full (R448). -/
def State.dataSend (s : State) (l : Nat) (m : StkMsg) (bytes : Nat) : Bool × State :=
  let e := s.egressNow l
  if 4194304 < e + bytes then (false, s)
  else (true, ((s.modLink l fun x => { x with egress := e + bytes, egressAt := s.now }).stkCount l 4).daskoOut l m)

/-- STK_DATA_DROP (R448). -/
def State.dataDrop (s : State) (l : Nat) : State := (s.stkCount l 6).report 0xF008 0 l []

end Sys2Proof.Machine
end

