-- ==== Sys2Proof/Machine/Tbl.lean ====
section
/-! DEFINITION. The forwarding tables: Hedgerow, prefixes and learned MAC addresses, their lookups, commands, learning and ageing
(R151 to R175). -/

namespace Sys2Proof.Machine

/-- Change the tables. -/
def State.modTbl (s : State) (g : TblSt → TblSt) : State := { s with tbl := g s.tbl }

/-! ## Hedgerow entries (R153 to R155) -/

/-- Words 8 to 13 may hold bits only under these masks (R153). -/
def hedgeMask : Nat → Nat
  | 8 => 0x07FF00FF
  | 9 => 0x7FFFFF
  | 10 => 0x1FFFF
  | 11 => 0x3FFFF
  | 12 => 0x1FFFFF
  | 13 => 0xFFFFF
  | _ => 0xFFFFFFFF

def hValid (e : List Nat) : Bool := bitAt (e.getD 8 0) 0
def hStatic (e : List Nat) : Bool := bitAt (e.getD 8 0) 1
def hKdef (e : List Nat) : Nat := bitsOf (e.getD 8 0) 2 6
def hOwner (e : List Nat) : Nat := bitsOf (e.getD 8 0) 16 11
def hKey (e : List Nat) : Nat := ofMs (e.take 8)
def hIdle (e : List Nat) : Nat := bitsOf (e.getD 14 0) 16 8

/-- The entry with CHECK computed over words 0 to 14 (R153). -/
def hSeal (e : List Nat) : List Nat :=
  let w := (List.range 15).map fun k => e.getD k 0
  w ++ [crc32c (w.flatMap fun x => leBytes 4 x)]

/-- The entry at a location. -/
def State.hEnt (s : State) (loc : Nat) : List Nat := tabGet (fun _ => []) s.tbl.hedge loc

/-- The spill count of a bucket. -/
def State.spillOf (s : State) (b : Nat) : Nat := tabGet (fun _ => 0) s.tbl.spill b

/-- The two candidate buckets and the overflow set of a key (R154). -/
def State.hPlaces (s : State) (key kdef : Nat) : Nat × Nat × Nat :=
  let w := msWords 8 key ++ [kdef]
  let h1 := hashWords (s.rdN R.TBL_HKEY1) w
  let b1 := h1 % 2 ^ 22
  let b2 := hashWords (s.rdN R.TBL_HKEY2) w % 2 ^ 22
  (b1, (if b2 = b1 then b1 ^^^ 1 else b2), h1 % 2 ^ 11)

/-- The locations of a bucket's slots, and of an overflow set's ways. -/
def slotsOf (b : Nat) : List Nat := (List.range 4).map fun i => 4 * b + i
def waysOf (o : Nat) : List Nat := (List.range 8).map fun i => 2 ^ 24 + 8 * o + i

/-- A location's bucket, none in the overflow store. -/
def bucketOf (loc : Nat) : Option Nat := if loc < 2 ^ 24 then some (loc / 4) else none

/-- A location as a location word (R160). -/
def locWord (loc : Nat) : Nat := if loc < 2 ^ 24 then loc else 2 ^ 31 + (loc - 2 ^ 24)

/-- The location that a location word encodes, where it is in range (R160). -/
def ofLocWord (w : Nat) : Option Nat :=
  if bitAt w 31 then (if w % 2 ^ 31 < 16384 then some (2 ^ 24 + w % 2 ^ 31) else none) else if w < 2 ^ 24 then some w else none

/-- An entry resides in its own b1. -/
def State.inHome (s : State) (loc : Nat) (e : List Nat) : Bool := bucketOf loc == some (s.hPlaces (hKey e) (hKdef e)).1

/-- A spill count goes up, saturating at 15 (R155). -/
def State.spillUp (s : State) (b : Nat) : State :=
  s.modTbl fun t => { t with spill := tabSet (fun _ => 0) t.spill b (min 15 (s.spillOf b + 1)) }

/-- A spill count goes down; a saturated one stays (R155). -/
def State.spillDown (s : State) (b : Nat) : State :=
  if s.spillOf b = 15 then s else s.modTbl fun t => { t with spill := tabSet (fun _ => 0) t.spill b (s.spillOf b - 1) }

/-- The number of valid entries of an owner, and of all. -/
def State.hCount (s : State) (loc owner : Nat) (up : Bool) : State :=
  let d (s : State) (f : Fld) : State := s.sf f (if up then s.gf f + 1 else s.gf f - 1)
  let s := d s F.TBL_HSTAT_COUNT
  let s := if loc < 2 ^ 24 then s else d s F.TBL_OVFSTAT_COUNT
  if owner < 1024 then d s (F.TBL_OWNER_COUNT owner) else s

/-- Store an entry's words at a location, with its hit bit. -/
def State.hStore (s : State) (loc : Nat) (e : List Nat) (hit : Bool) : State :=
  s.modTbl fun t => { t with hedge := tabSet (fun _ => []) t.hedge loc e, hhit := tabSet (fun _ => false) t.hhit loc hit }

/-- A new entry placed at a free location; outside its b1 the spill count goes up first (R158). -/
def State.hPlace (s : State) (loc : Nat) (e : List Nat) : State :=
  let s := if s.inHome loc e then s else s.spillUp (s.hPlaces (hKey e) (hKdef e)).1
  (s.hStore loc (hSeal e) false).hCount loc (hOwner e) true

/-- An entry removed, with what it counted in (R155, R161). -/
def State.hRemove (s : State) (loc : Nat) : State :=
  let e := s.hEnt loc
  let s := if s.inHome loc e then s else s.spillDown (s.hPlaces (hKey e) (hKdef e)).1
  (s.hStore loc [] false).hCount loc (hOwner e) false

/-- A move of an entry (R159): the spill count of its b1 follows where it comes from and goes to. -/
def State.hMove (s : State) (src dst : Nat) : State :=
  let e := s.hEnt src
  let b1 := (s.hPlaces (hKey e) (hKdef e)).1
  let hit := tabGet (fun _ => false) s.tbl.hhit src
  let s := if s.inHome src e then s.spillUp b1 else s
  let s := (s.hStore dst e hit).hStore src [] false
  let s := if src < 2 ^ 24 then s else s.sf F.TBL_OVFSTAT_COUNT (s.gf F.TBL_OVFSTAT_COUNT - 1)
  let s := if s.inHome dst e then s.spillDown b1 else s
  s.bump (R.TBL_CNT 3)

/-- The lowest location of a list that holds no valid entry. -/
def State.hFree (s : State) (locs : List Nat) : Option Nat := locs.find? fun l => !hValid (s.hEnt l)

/-- TBL_ENTRY_CHECK: valid entries of a list whose CHECK does not match are invalidated, counted and logged (R161). -/
def State.hCheck (s : State) (locs : List Nat) : State :=
  locs.foldl (fun s l =>
    let e := s.hEnt l
    if hValid e && hSeal e != e then ((s.hRemove l).bump (R.TBL_CNT 5)).report 0x8003 2 0 [] else s) s

/-- Where a key resides: in b1, else b2, else the overflow set (R156). -/
def State.hFind (s : State) (key kdef : Nat) : Option Nat × State :=
  let (b1, b2, o) := s.hPlaces key kdef
  let locs := slotsOf b1 ++ (if s.spillOf b1 = 0 then [] else slotsOf b2 ++ waysOf o)
  let s := s.hCheck locs
  (locs.find? fun l => let e := s.hEnt l; hValid e && hKdef e == kdef && hKey e == key, s)

/-! ## Results and lookups (R156, R157, R162 to R166) -/

/-- The result that words 9 to 13 of a Hedgerow entry give (R153, R157). -/
def hResult (e : List Nat) : ResSt :=
  let c := e.getD 9 0
  { alist := if bitAt c 22 then some (bitsOf c 0 13) else none
    cls := if bitAt c 18 then some (bitsOf c 19 3) else none
    meter := if bitAt c 15 then some (bitsOf (e.getD 11 0) 0 18) else none
    sa := if bitAt c 16 then some (bitsOf (e.getD 12 0) 0 21) else none
    ctx := if bitAt c 17 then some (bitsOf (e.getD 13 0) 0 20) else none
    queue := if bitAt c 13 then some (bitAt c 14, bitsOf (e.getD 10 0) 0 17) else none }

/-- The result that a prefix row's 64 bits give (R162). -/
def lpmResult (r : Nat) : ResSt :=
  { alist := if bitAt r 13 then some (bitsOf r 0 13) else none
    cls := if bitAt r 17 then some (bitsOf r 18 3) else none
    meter := if bitAt r 16 then some (bitsOf r 38 18) else none
    queue := if bitAt r 14 then some (bitAt r 15, bitsOf r 21 17) else none }

/-- The result of a learned MAC address: its tag's target (R165). -/
def State.macResult (s : State) (tag : Nat) : ResSt :=
  { alist := if s.gb (F.TBL_MLTARGET_AV tag) then some (s.gf (F.TBL_MLTARGET_ALIST tag)) else none
    queue := if s.gb (F.TBL_MLTARGET_QV tag) then some (s.gb (F.TBL_MLTARGET_QKIND tag), s.gf (F.TBL_MLTARGET_QUEUE tag)) else none }

/-- A Hedgerow lookup (R156): the location that matched; its hit bit is set. -/
def State.hLookup (s : State) (key kdef : Nat) : Option Nat × State :=
  let s := s.bump (R.TBL_CNT 0)
  let s := if s.spillOf (s.hPlaces key kdef).1 = 0 then s else s.bump (R.TBL_CNT 2)
  match s.hFind key kdef with
  | (some l, s) => (some l, (s.modTbl fun t => { t with hhit := tabSet (fun _ => false) t.hhit l true }).bump (R.TBL_CNT 1))
  | (none, s) => (none, s)

/-- A row matches a 160-bit key (R162). -/
def rowMatches (row : Nat × Nat × Nat) (key : Nat) : Bool := key / 2 ^ (160 - row.2.1) == row.1 / 2 ^ (160 - row.2.1)

/-- A prefix lookup: the lowest matching row (R163). -/
def State.lpmLookup (s : State) (key : Nat) : Option Nat × State :=
  let s := s.bump (R.TBL_CNT 6)
  match s.tbl.lpm.findIdx? fun r => rowMatches r key with
  | some i => (some i, s.bump (R.TBL_CNT 7))
  | none => (none, s)

/-- The first place of a MAC key's bucket in a pipeline's table (R165). -/
def State.macBucket (s : State) (p fid mac : Nat) : Nat :=
  p * 2 ^ 18 + 4 * (hashWords (s.rdN R.TBL_MKEY) [fid * 65536 + mac / 2 ^ 32, mac % 2 ^ 32] % 65536)

/-- A MAC entry. -/
def State.macEnt (s : State) (k : Nat) : List Nat := tabGet (fun _ => []) s.tbl.macs k

def mValid (e : List Nat) : Bool := bitAt (e.getD 2 0) 12
def mStatic (e : List Nat) : Bool := bitAt (e.getD 2 0) 11
def mTag (e : List Nat) : Nat := bitsOf (e.getD 2 0) 0 11
def mIdle (e : List Nat) : Nat := bitsOf (e.getD 2 0) 16 8
def mMac (e : List Nat) : Nat := e.getD 0 0 + bitsOf (e.getD 1 0) 0 16 * 2 ^ 32
def mFid (e : List Nat) : Nat := bitsOf (e.getD 1 0) 16 16

/-- A MAC entry with its CHECK over words 0 to 2 (R165). -/
def macSeal (e : List Nat) : List Nat :=
  let w := (List.range 3).map fun k => e.getD k 0
  w ++ [crc32c (w.flatMap fun x => leBytes 4 x)]

/-- The words of a MAC entry. -/
def macWords (fid mac tag : Nat) (static : Bool) (idle : Nat) : List Nat :=
  macSeal [mac % 2 ^ 32, mac / 2 ^ 32 % 65536 + fid * 65536, tag + b2n static * 2048 + 4096 + idle * 65536]

/-- Store a MAC entry with its hit bit. -/
def State.macStore (s : State) (k : Nat) (e : List Nat) (hit : Bool) : State :=
  s.modTbl fun t => { t with macs := tabSet (fun _ => []) t.macs k e, mhit := tabSet (fun _ => false) t.mhit k hit }

/-- Where a MAC key resides in a pipeline's table; an entry whose CHECK does not match is invalidated and logged (R161, R165). -/
def State.macFind (s : State) (p fid mac : Nat) : Option Nat × State :=
  let b := s.macBucket p fid mac
  let ks := (List.range 4).map fun i => b + i
  let s := ks.foldl (fun s k =>
    let e := s.macEnt k
    if mValid e && macSeal e != e then ((s.macStore k [] false).bump (R.TBL_CNT 5)).report 0x8003 2 0 [] else s) s
  (ks.find? fun k => let e := s.macEnt k; mValid e && mFid e == fid && mMac e == mac, s)

/-- A learned-MAC lookup of a pipeline (R165): the tag found; its hit bit is set. -/
def State.macLookup (s : State) (p fid mac : Nat) : Option Nat × State :=
  let s := s.bump (R.TBL_MCNT p 0)
  match s.macFind p fid mac with
  | (some k, s) => (some (mTag (s.macEnt k)), (s.modTbl fun t => { t with mhit := tabSet (fun _ => false) t.mhit k true }).bump (R.TBL_MCNT p 1))
  | (none, s) => (none, s)

/-- The pending learns of a pipeline. -/
def State.learnsOf (s : State) (p : Nat) : List (Nat × Nat) := tabGet (fun _ => []) s.tbl.learns p

/-- A learn presented to a pipeline's learning unit (R166, R167): `key` is FID and MAC. -/
def State.presentLearn (s : State) (p key tag : Nat) : State :=
  let l := s.learnsOf p
  if !s.gb (F.TBL_MLCFG_EN p) || bitAt key 40 then s
  else if l.any fun e => e.1 == key then s
  else if 64 ≤ l.length then s.bump (R.TBL_MCNT p 6)
  else s.modTbl fun t => { t with learns := tabSet (fun _ => []) t.learns p (l ++ [(key, tag)]) }

/-- A local search of a table (R151, R156, R162, R165): the result, and what the hit tells an engine thread (location, row or tag). -/
def State.tblSearch (s : State) (p table key kdef : Nat) : Option (ResSt × Nat) × State :=
  if table = 0 then
    match s.hLookup key kdef with
    | (some l, s) => (some (hResult (s.hEnt l), l), s)
    | (none, s) => (none, s)
  else if table = 1 then
    match s.lpmLookup key with
    | (some i, s) => (some (lpmResult (s.tbl.lpm.getD i (0, 0, 0)).2.2, i), s)
    | (none, s) => (none, s)
  else
    match s.macLookup p (key / 2 ^ 48 % 65536) (key % 2 ^ 48) with
    | (some tag, s) => (some (s.macResult tag, tag), s)
    | (none, s) => (none, s)

/-! ## Key definitions (R151, R152) -/

/-- The live control word of a key definition. -/
def State.kdefTable (s : State) (d : Nat) : Nat := s.lgf (F.TBL_KDEFCTL_TABLE d)

/-- A shadow key definition that a commit refuses (R152). -/
def State.kdefBad (s : State) (d : Nat) : Bool :=
  let t := s.gf (F.TBL_KDEFCTL_TABLE d)
  t == 3 || (s.gb (F.TBL_KDEFCTL_LEARN d) && t != 2) || (s.gb (F.TBL_KDEFCTL_REMOTE d) && t != 0)

/-- The shadow key definitions become the live ones once every pipeline is at a packet boundary (R152). -/
def State.kdefTake (s : State) : State :=
  if s.gb F.TBL_COMMIT_PENDING && (List.range 4).all fun p => (tabGet (fun _ => {}) s.pipes p : PipeSt).pass.isNone then
    ((List.range 64).foldl (fun s d => s.goLive (R.TBL_KDEF d) 17) s).sb F.TBL_COMMIT_PENDING false
  else s

/-- A write of 1 to TBL_COMMIT.COMMIT (R152). -/
def State.tblCommit (s : State) : State :=
  if s.gb F.TBL_COMMIT_PENDING then s else
  match (List.range 64).find? fun d => s.kdefBad d with
  | some d => ((s.sb F.TBL_COMMIT_ERR true).sf F.TBL_COMMIT_ERRINDEX d).report 0x8009 0 0 []
  | none => (s.sb F.TBL_COMMIT_PENDING true).kdefTake

def execTblCommit (m : Master) (s : State) : Outcome := .next (s.asWriter m R.TBL_COMMIT State.tblCommit)

/-! ## Commands (R158 to R160, R164, R171 to R173) -/

/-- A word of a command port's data. -/
def State.cd (s : State) (c w : Nat) : Nat := s.rdN (R.TBL_CDATA c w)

/-- A word of a command port's data written. -/
def State.setCd (s : State) (c w v : Nat) : State := s.wrN (R.TBL_CDATA c w) v

/-- Words of a command port's data written from word 0. -/
def State.setCds (s : State) (c : Nat) (l : List Nat) : State :=
  (List.range l.length).foldl (fun s w => s.setCd c w (l.getD w 0)) s

/-- A command's outcome (R172). -/
def State.tblStatus (s : State) (c st : Nat) : State := s.sf (F.TBL_CMD_STATUS c) st

/-- A committed change is stamped, and the stamp latched for the port (R173). -/
def State.tblStamp (s : State) (c domain : Nat) : State :=
  let (t, s) := s.stamp islSHD domain
  ((s.wr64 (R.TBL_CSTAMP c) (shortOf t.time)).sf (F.TBL_CINFO_BOUND c) t.bound).wrN (R.TBL_CSEQ c) t.seq

/-- The member ID of the device, once it has one. -/
def State.ownMember (s : State) : Nat := s.gf F.STK_STATUS_MYID

/-- A key definition names a partition of another member (R170). -/
def State.kdefRemote (s : State) (d : Nat) : Bool :=
  s.lgb (F.TBL_KDEFCTL_REMOTE d) && s.lgf (F.TBL_KDEFCTL_MEMBER d) != s.ownMember

/-- A Hedgerow command whose KDEF is refused: of another table, or remote (R170, R172). -/
def State.kdefRefused (s : State) (d : Nat) : Option Nat :=
  if s.kdefTable d ≠ 0 then some 5 else if s.kdefRemote d then some 7 else none

/-- The other candidate bucket of the entry at a location (R158). -/
def State.otherBucket (s : State) (loc : Nat) : Nat :=
  let e := s.hEnt loc
  let (b1, b2, _) := s.hPlaces (hKey e) (hKdef e)
  if loc / 4 = b1 then b2 else b1

/-- The first path of moves, breadth first, that ends in a bucket with a free slot (R158): each path is the locations to move, first to last. -/
def State.movePath (s : State) : Nat → List (List Nat) → Option (List Nat × Nat)
  | 0, _ => none
  | n + 1, paths =>
    let ends := paths.filterMap fun p => (p.getLast?).map fun l => (p, s.otherBucket l)
    match ends.findSome? fun e => (s.hFree (slotsOf e.2)).map fun d => (e.1, d) with
    | some r => some r
    | none => s.movePath n (ends.flatMap fun e => (slotsOf e.2).map fun l => e.1 ++ [l])

/-- Make the moves of a path, last move first; answers with the first location free (R158). -/
def State.makeMoves (s : State) (path : List Nat) (dst : Nat) : State :=
  (path.reverse.foldl (fun (a : State × Nat) l => (a.1.hMove l a.2, l)) (s, dst)).1

/-- The entries that an eviction may take, in location order (R160). -/
def State.victims (s : State) (locs : List Nat) : List Nat := locs.filter fun l => !hStatic (s.hEnt l)

/-- The victim with the largest IDLE, the lowest location on a tie (R160). -/
def State.idlest (s : State) (locs : List Nat) : Option Nat :=
  (s.victims (locs.mergeSort fun a b => decide (a ≤ b))).foldl (fun best l =>
    match best with
    | none => some l
    | some b => if hIdle (s.hEnt b) < hIdle (s.hEnt l) then some l else some b) none

/-- The new entry takes a victim's location (R160). -/
def State.evict (s : State) (c v : Nat) (e : List Nat) : State :=
  let old := s.hEnt v
  let s := ((s.hRemove v).hPlace v e).bump (R.TBL_CNT 4)
  let s := ((s.tblStamp c 0x8000).setCds c old).setCd c 16 (locWord v)
  (s.report 0x8002 0 0 []).tblStatus c 6

/-- No place is left for an entry (R160). -/
def State.insertFull (s : State) (c : Nat) (e : List Nat) (locs : List Nat) : State :=
  let mode := s.gf F.TBL_HCFG_EVICT
  let full := (s.report 0x8001 0 0 []).tblStatus c 3
  if mode = 2 then (match s.idlest locs with | some v => s.evict c v e | none => full)
  else if mode = 1 then
    let vs := s.victims locs
    match s.pick vs.length fun _ => true with
    | (some i, s) => s.evict c (vs.getD i 0) e
    | (none, _) => full
  else full

/-- An entry placed at a location, stamped, and the command done. -/
def State.inserted (s : State) (c loc : Nat) (e : List Nat) : State :=
  (((s.hPlace loc e).tblStamp c 0x8000).setCd c 16 (locWord loc)).tblStatus c 0

/-- INSERT (R153, R158, R160). -/
def State.tblInsert (s : State) (c : Nat) : State :=
  let w := (List.range 14).map fun k => s.cd c k
  let e := (w.set 8 (w.getD 8 0 ||| 1)) ++ [0]
  let o := hOwner e
  let d := hKdef e
  if ((List.range 6).any fun k => (w.getD (8 + k) 0 ||| hedgeMask (8 + k)) != hedgeMask (8 + k)) || (0x400 ≤ o && o != 0x7FF) then s.tblStatus c 5 else
  match s.kdefRefused d with
  | some st => s.tblStatus c st
  | none =>
    let key := hKey e
    let (hit, s) := s.hFind key d
    if hit.isSome then s.tblStatus c 2
    else if o ≠ 0x7FF && s.gf (F.TBL_OWNER_LIMIT o) ≤ s.gf (F.TBL_OWNER_COUNT o) then
      let s := s.report 0x8008 0 0 []
      let s := if s.gf (F.FNM_TSTAT_STATE o) = 0 then s else s.bump (R.FNM_TCNT o 4)
      s.tblStatus c 4
    else
      let (b1, b2, os) := s.hPlaces key d
      match s.hFree (slotsOf b1 ++ slotsOf b2) with
      | some l => s.inserted c l e
      | none =>
        match s.movePath (s.gf F.TBL_HCFG_MAXMOVES) ((slotsOf b1 ++ slotsOf b2).map fun l => [l]) with
        | some (path, dst) => (s.makeMoves path dst).inserted c (path.headD 0) e
        | none =>
          match s.hFree (waysOf os) with
          | some l => s.inserted c l e
          | none => s.insertFull c e (slotsOf b1 ++ slotsOf b2 ++ waysOf os)

/-- The entry that a command names by key and KDEF. -/
def State.withEntry (s : State) (c : Nat) (k : Nat → State → State) : State :=
  let d := bitsOf (s.cd c 8) 2 6
  match s.kdefRefused d with
  | some st => s.tblStatus c st
  | none =>
    match s.hFind (ofMs ((List.range 8).map fun w => s.cd c w)) d with
    | (none, s) => s.tblStatus c 1
    | (some l, s) => k l s

/-- UPDATE (R153, R171): words 9 to 13 and STATIC are new, and VERSION moves on. -/
def State.tblUpdate (s : State) (c : Nat) : State :=
  if (List.range 5).any fun k => (s.cd c (9 + k) ||| hedgeMask (9 + k)) != hedgeMask (9 + k) then s.tblStatus c 5 else
  s.withEntry c fun l s =>
    let e := s.hEnt l
    let w8 := putBits (e.getD 8 0) 1 1 (bitsOf (s.cd c 8) 1 1)
    let w14 := putBits (e.getD 14 0) 0 16 (bitsOf (e.getD 14 0) 0 16 + 1)
    let e' := hSeal (e.take 8 ++ [w8] ++ ((List.range 5).map fun k => s.cd c (9 + k)) ++ [w14])
    (((s.hStore l e' (tabGet (fun _ => false) s.tbl.hhit l)).tblStamp c 0x8000).setCd c 16 (locWord l)).tblStatus c 0

/-- DELETE (R171). -/
def State.tblDelete (s : State) (c : Nat) : State :=
  s.withEntry c fun l s => (((s.hRemove l).tblStamp c 0x8000).setCd c 16 (locWord l)).tblStatus c 0

/-- READ (R171). -/
def State.tblRead (s : State) (c : Nat) : State :=
  s.withEntry c fun l s => ((s.setCds c (s.hEnt l)).setCd c 16 (locWord l)).tblStatus c 0

/-- READ_LOC (R171): a place without an entry reads zeros. -/
def State.readLoc (s : State) (c : Nat) : State :=
  match ofLocWord (s.cd c 16) with
  | none => s.tblStatus c 5
  | some l => (s.setCds c ((List.range 16).map fun k => (s.hEnt l).getD k 0)).tblStatus c 0

/-- Saturated spill counts are counted again where no spilled entry is left (R155). -/
def State.spillPass (s : State) : State :=
  s.tbl.spill.foldl (fun s (e : Nat × Nat) =>
    if e.2 = 15 && s.tbl.hedge.all (fun x => (s.hPlaces (hKey x.2) (hKdef x.2)).1 != e.1 || s.inHome x.1 x.2) then
      s.modTbl fun t => { t with spill := tabSet (fun _ => 0) t.spill e.1 0 }
    else s) s

/-- Delete every entry of an owner, static ones too; answers how many (R171). -/
def State.flushOwner (s : State) (o : Nat) : Nat × State :=
  let locs := (s.tbl.hedge.filter fun e => hValid e.2 && hOwner e.2 == o).map (·.1)
  (locs.length, (locs.foldl (fun s l => s.hRemove l) s).spillPass)

/-- FLUSH_OWNER (R171, R173). -/
def State.tblFlush (s : State) (c : Nat) : State :=
  let o := bitsOf (s.cd c 8) 16 11
  if 0x400 ≤ o && o != 0x7FF then s.tblStatus c 5 else
  let (n, s) := s.flushOwner o
  ((if n = 0 then s else s.tblStamp c 0x8000).setCd c 17 n).tblStatus c 0

/-- COMPACT (R171): each overflow entry moves home wherever a slot is free. -/
def State.tblCompact (s : State) (c : Nat) : State :=
  let locs := (s.tbl.hedge.filter fun e => 2 ^ 24 ≤ e.1).map (·.1)
  let (n, s) := locs.foldl (fun (a : Nat × State) l =>
    let e := a.2.hEnt l
    let (b1, b2, _) := a.2.hPlaces (hKey e) (hKdef e)
    match a.2.hFree (slotsOf b1 ++ slotsOf b2) with
    | some d => (a.1 + 1, a.2.hMove l d)
    | none => a) (0, s)
  ((if n = 0 then s.spillPass else s.spillPass.tblStamp c 0x8000).setCd c 17 n).tblStatus c 0

/-! ### Prefix rows -/

/-- Rows of one length at the front of a list, and the rest. -/
def rowGroup : List (Nat × Nat × Nat) → List (Nat × Nat × Nat) × List (Nat × Nat × Nat)
  | [] => ([], [])
  | r :: t => (r :: t.takeWhile fun x => x.2.1 == r.2.1, t.dropWhile fun x => x.2.1 == r.2.1)

/-- Each length's rows with the first moved after the last (an insert below them), or the last before the first (a delete) (R164). -/
def rotateGroups (up : Bool) : Nat → List (Nat × Nat × Nat) → List (Nat × Nat × Nat)
  | 0, l => l
  | _, [] => []
  | n + 1, l =>
    let (g, rest) := rowGroup l
    (if up then g.drop 1 ++ g.take 1 else g.drop (g.length - 1) ++ g.take (g.length - 1)) ++ rotateGroups up n rest

/-- The row order after an insert at the end of its length's rows; answers its row (R164). -/
def lpmInsertRow (rows : List (Nat × Nat × Nat)) (r : Nat × Nat × Nat) : Nat × List (Nat × Nat × Nat) :=
  let a := rows.takeWhile fun x => r.2.1 ≤ x.2.1
  let b := rows.dropWhile fun x => r.2.1 ≤ x.2.1
  (a.length, a ++ [r] ++ rotateGroups true b.length b)

/-- The row order after a delete (R164): the last row of the length fills the hole, and each shorter length closes up. -/
def lpmDeleteRow (rows : List (Nat × Nat × Nat)) (i : Nat) : List (Nat × Nat × Nat) :=
  let n := (rows.getD i (0, 0, 0)).2.1
  let a := rows.takeWhile fun x => n < x.2.1
  let b := rows.dropWhile fun x => n < x.2.1
  let (g, rest) := rowGroup b
  let j := i - a.length
  let g' := if j + 1 = g.length then g.take j else (g.set j (g.getD (g.length - 1) (0, 0, 0))).take (g.length - 1)
  a ++ g' ++ rotateGroups false rest.length rest

/-- The VALUE and PLEN of a prefix command, bits below the prefix taken as 0; none where PLEN is above 160. -/
def State.lpmKey (s : State) (c : Nat) : Option (Nat × Nat) :=
  let n := bitsOf (s.cd c 5) 0 8
  if 160 < n then none else
  let v := ofMs ((List.range 5).map fun w => s.cd c w)
  some (v / 2 ^ (160 - n) * 2 ^ (160 - n), n)

/-- The result of a prefix command. -/
def State.lpmRes (s : State) (c : Nat) : Nat := s.cd c 6 + s.cd c 7 * 2 ^ 32

/-- The rows replaced; TBL_LPMSTAT counts them. -/
def State.setLpm (s : State) (l : List (Nat × Nat × Nat)) : State :=
  (s.modTbl fun t => { t with lpm := l }).sf F.TBL_LPMSTAT_COUNT l.length

/-- The row that a prefix command names. -/
def State.withRow (s : State) (c : Nat) (res : Bool) (k : Nat → Nat × Nat → Option Nat → State) : State :=
  match s.lpmKey c with
  | none => s.tblStatus c 5
  | some (v, n) =>
    if res && s.lpmRes c / 2 ^ 56 ≠ 0 then s.tblStatus c 5
    else k 0 (v, n) (s.tbl.lpm.findIdx? fun r => r.1 == v && r.2.1 == n)

/-- LPM_INSERT (R164). -/
def State.lpmInsert (s : State) (c : Nat) : State :=
  s.withRow c true fun _ key hit =>
    if hit.isSome then s.tblStatus c 2
    else if 262144 ≤ s.tbl.lpm.length then s.tblStatus c 3
    else
      let (i, l) := lpmInsertRow s.tbl.lpm (key.1, key.2, s.lpmRes c)
      (((s.setLpm l).tblStamp c 0x8001).setCd c 16 i).tblStatus c 0

/-- LPM_UPDATE (R164). -/
def State.lpmUpdate (s : State) (c : Nat) : State :=
  s.withRow c true fun _ key hit =>
    match hit with
    | none => s.tblStatus c 1
    | some i => (((s.setLpm (s.tbl.lpm.set i (key.1, key.2, s.lpmRes c))).tblStamp c 0x8001).setCd c 16 i).tblStatus c 0

/-- LPM_DELETE (R164). -/
def State.lpmDelete (s : State) (c : Nat) : State :=
  s.withRow c false fun _ _ hit =>
    match hit with
    | none => s.tblStatus c 1
    | some i => (((s.setLpm (lpmDeleteRow s.tbl.lpm i)).tblStamp c 0x8001).setCd c 16 i).tblStatus c 0

/-- LPM_READ (R171). -/
def State.lpmRead (s : State) (c : Nat) : State :=
  let i := s.cd c 16
  if 262144 ≤ i then s.tblStatus c 5 else
  let (v, n, r) := s.tbl.lpm.getD i (0, 0, 0)
  (s.setCds c (msWords 5 v ++ [n + (if i < s.tbl.lpm.length then 256 else 0), r % 2 ^ 32, r / 2 ^ 32])).tblStatus c 0

/-! ### MAC commands -/

/-- MAC_WRITE (R171): an entry created or replaced. -/
def State.macWrite (s : State) (c : Nat) : State :=
  let p := bitsOf (s.cd c 4) 0 2
  let w2 := s.cd c 2
  if bitsOf w2 13 3 ≠ 0 || bitsOf w2 24 8 ≠ 0 then s.tblStatus c 5 else
  let mac := s.cd c 0 + bitsOf (s.cd c 1) 0 16 * 2 ^ 32
  let fid := bitsOf (s.cd c 1) 16 16
  let e := macWords fid mac (bitsOf w2 0 11) (bitAt w2 11) 0
  let (hit, s) := s.macFind p fid mac
  let b := s.macBucket p fid mac
  match hit, ((List.range 4).map fun i => b + i).find? fun k => !mValid (s.macEnt k) with
  | some k, _ => ((s.macStore k e false).tblStamp c (0x8010 + p)).tblStatus c 0
  | none, some k => ((s.macStore k e false).tblStamp c (0x8010 + p)).tblStatus c 0
  | none, none => s.tblStatus c 3

/-- The MAC entry that a command names. -/
def State.withMac (s : State) (c : Nat) (f : Nat → Nat → State → State) : State :=
  let p := bitsOf (s.cd c 4) 0 2
  match s.macFind p (bitsOf (s.cd c 1) 16 16) (s.cd c 0 + bitsOf (s.cd c 1) 0 16 * 2 ^ 32) with
  | (none, s) => s.tblStatus c 1
  | (some k, s) => f p k s

/-- MAC_DELETE (R171). -/
def State.macDelete (s : State) (c : Nat) : State :=
  s.withMac c fun p k s => ((s.macStore k [] false).tblStamp c (0x8010 + p)).tblStatus c 0

/-- MAC_READ (R171). -/
def State.macRead (s : State) (c : Nat) : State := s.withMac c fun _ k s => (s.setCds c (s.macEnt k)).tblStatus c 0

/-- MAC_FLUSH (R171). -/
def State.macFlush (s : State) (c : Nat) : State :=
  let w := s.cd c 4
  let gone (e : Nat × List Nat) : Bool :=
    bitAt (bitsOf w 16 4) (e.1 / 2 ^ 18) && (!bitAt w 20 || mTag e.2 == bitsOf (s.cd c 2) 0 11) &&
      (!bitAt w 21 || mFid e.2 == bitsOf (s.cd c 1) 16 16) && (bitAt w 22 || !mStatic e.2)
  let ks := (s.tbl.macs.filter gone).map (·.1)
  let s := ks.foldl (fun s k => s.macStore k [] false) s
  let s := match ks.getLast? with | some k => s.tblStamp c (0x8010 + k / 2 ^ 18) | none => s
  (s.setCd c 17 ks.length).tblStatus c 0

/-- A command of a port, by its OP (R171). -/
def State.tblOp (s : State) (c op : Nat) : State :=
  match op with
  | 1 => s.tblInsert c
  | 2 => s.tblUpdate c
  | 3 => s.tblDelete c
  | 4 => s.tblRead c
  | 5 => s.readLoc c
  | 6 => s.tblFlush c
  | 7 => s.tblCompact c
  | 8 => s.lpmInsert c
  | 9 => s.lpmUpdate c
  | 10 => s.lpmDelete c
  | 11 => s.lpmRead c
  | 12 => s.macWrite c
  | 13 => s.macDelete c
  | 14 => s.macRead c
  | 15 => s.macFlush c
  | _ => s.tblStatus c 5

/-- A write of OP and GO = 1 to a command port (R171). -/
def State.tblCmd (s : State) (m : Master) (c op : Nat) : State :=
  s.asWriter m (R.TBL_CMD c) fun s => (s.sf (F.TBL_CMD_OP c) op).tblOp c op

def execTblInsert (m : Master) (c : Fin 4) (s : State) : Outcome := .next (s.tblCmd m c 1)
def execTblUpdate (m : Master) (c : Fin 4) (s : State) : Outcome := .next (s.tblCmd m c 2)
def execTblDelete (m : Master) (c : Fin 4) (s : State) : Outcome := .next (s.tblCmd m c 3)
def execTblRead (m : Master) (c : Fin 4) (s : State) : Outcome := .next (s.tblCmd m c 4)
def execReadLoc (m : Master) (c : Fin 4) (s : State) : Outcome := .next (s.tblCmd m c 5)
def execFlushOwner (m : Master) (c : Fin 4) (s : State) : Outcome := .next (s.tblCmd m c 6)
def execCompact (m : Master) (c : Fin 4) (s : State) : Outcome := .next (s.tblCmd m c 7)
def execLpmInsert (m : Master) (c : Fin 4) (s : State) : Outcome := .next (s.tblCmd m c 8)
def execLpmUpdate (m : Master) (c : Fin 4) (s : State) : Outcome := .next (s.tblCmd m c 9)
def execLpmDelete (m : Master) (c : Fin 4) (s : State) : Outcome := .next (s.tblCmd m c 10)
def execLpmRead (m : Master) (c : Fin 4) (s : State) : Outcome := .next (s.tblCmd m c 11)
def execMacWrite (m : Master) (c : Fin 4) (s : State) : Outcome := .next (s.tblCmd m c 12)
def execMacDelete (m : Master) (c : Fin 4) (s : State) : Outcome := .next (s.tblCmd m c 13)
def execMacRead (m : Master) (c : Fin 4) (s : State) : Outcome := .next (s.tblCmd m c 14)
def execMacFlush (m : Master) (c : Fin 4) (s : State) : Outcome := .next (s.tblCmd m c 15)

/-! ## Records, learning and ageing (R166 to R169) -/

/-- A record for the channel that TBL_NOTIFY names, with its stamp (R168). -/
def State.tblRecord (s : State) (t : Stamp) (type : Nat) (body : List Byte) : State :=
  if !s.gb F.TBL_NOTIFY_EN then s else
  match s.post (s.gf F.TBL_NOTIFY_SWARD) (s.gf F.TBL_NOTIFY_CHANNEL) (fitBytes 64 (stampBytes t type ++ body)) with
  | some s => s
  | none => (s.bump (R.TBL_CNT 12)).report 0x8005 0 0 []

/-- A stamped MAC record of a pipeline (R168). -/
def State.macRecord (s : State) (p type newTag oldTag fid mac : Nat) : State :=
  let (t, s) := s.stamp islSHD (0x8010 + p)
  s.tblRecord t type (leBytes 4 (newTag + oldTag * 65536) ++ leBytes 4 (mac / 2 ^ 32 + fid * 65536) ++ leBytes 4 (mac % 2 ^ 32))

/-- Learns that insert or move in this millisecond, and whether RATE permits one more (R167). -/
def State.learnRoom (s : State) (p : Nat) : Option State :=
  let r := s.gf (F.TBL_MLCFG_RATE p)
  let ms := s.now / 1000000
  let (w, n) := tabGet (fun _ => (0, 0)) s.tbl.rate p
  let n := if w = ms then n else 0
  if r ≠ 0 && r ≤ n then none else some (s.modTbl fun t => { t with rate := tabSet (fun _ => (0, 0)) t.rate p (ms, n + 1) })

/-- One learn (R166). -/
def State.learn (s : State) (p fid mac tag : Nat) : State :=
  match s.macFind p fid mac with
  | (some k, s) =>
    let e := s.macEnt k
    if mTag e = tag then s.modTbl fun t => { t with mhit := tabSet (fun _ => false) t.mhit k true }
    else if mStatic e then s.macRecord p 3 tag (mTag e) fid mac
    else match s.learnRoom p with
      | none => s.bump (R.TBL_MCNT p 6)
      | some s => ((s.macStore k (macWords fid mac tag false 0) (tabGet (fun _ => false) s.tbl.mhit k)).bump (R.TBL_MCNT p 3)).macRecord p 1 tag (mTag e) fid mac
  | (none, s) =>
    let b := s.macBucket p fid mac
    match ((List.range 4).map fun i => b + i).find? fun k => !mValid (s.macEnt k) with
    | none => ((s.bump (R.TBL_MCNT p 5)).report 0x8004 0 0 []).macRecord p 3 tag 0 fid mac
    | some k =>
      match s.learnRoom p with
      | none => s.bump (R.TBL_MCNT p 6)
      | some s => ((s.macStore k (macWords fid mac tag false 0) false).bump (R.TBL_MCNT p 2)).macRecord p 0 tag 0 fid mac

/-- LEARN_PROCESS (R166, R167): a learning unit applies its oldest pending learn. -/
def execLearnProcess (p : Fin 4) (s : State) : Outcome :=
  .next (s.inBlock 0x80 islSHD fun s => match s.learnsOf p with
    | [] => s
    | (key, tag) :: rest =>
      (s.modTbl fun t => { t with learns := tabSet (fun _ => []) t.learns p rest }).learn p (key / 2 ^ 48 % 65536) (key % 2 ^ 48) tag)

/-- The sweep visits one Hedgerow entry (R169). -/
def State.ageHedge (s : State) (loc : Nat) : State :=
  let e := s.hEnt loc
  if !hValid e || hStatic e then s
  else if tabGet (fun _ => false) s.tbl.hhit loc then s.hStore loc (hSeal (e.set 14 (putBits (e.getD 14 0) 16 8 0))) false
  else
    let idle := min 255 (hIdle e + 1)
    let most := s.gf F.TBL_AGECFG_HMAXIDLE
    if most ≠ 0 && most ≤ idle then
      let s := (s.hRemove loc).bump (R.TBL_CNT 10)
      let (t, s) := s.stamp islSHD 0x8000
      if s.gb F.TBL_NOTIFY_HAGE then
        s.tblRecord t 4 (leBytes 4 (hKdef e + hOwner e * 65536) ++ leBytes 4 (locWord loc) ++ leBytes 8 0 ++ (e.take 8).flatMap fun w => leBytes 4 w)
      else s
    else s.hStore loc (hSeal (e.set 14 (putBits (e.getD 14 0) 16 8 idle))) false

/-- The sweep visits one MAC entry (R169). -/
def State.ageMac (s : State) (k : Nat) : State :=
  let e := s.macEnt k
  let p := k / 2 ^ 18
  if !mValid e || mStatic e then s
  else if tabGet (fun _ => false) s.tbl.mhit k then s.macStore k (macSeal (e.set 2 (putBits (e.getD 2 0) 16 8 0))) false
  else
    let idle := min 255 (mIdle e + 1)
    let most := s.gf F.TBL_AGECFG_MMAXIDLE
    if most ≠ 0 && most ≤ idle then
      ((s.macStore k [] false).bump (R.TBL_MCNT p 4)).macRecord p 2 (mTag e) 0 (mFid e) (mMac e)
    else s.macStore k (macSeal (e.set 2 (putBits (e.getD 2 0) 16 8 idle))) false

/-- AGE_SWEEP (R169): at a tick of TICK ms; `running` says that the sweep before still runs, which skips this one. -/
def execAgeSweep (running : Bool) (s : State) : Outcome :=
  .next (s.inBlock 0x80 islSHD fun s => let tick := s.gf F.TBL_AGECFG_TICK
    if tick = 0 || decide (s.now < s.tbl.lastAge + 1000000 * tick) then s else
    let s := s.modTbl fun t => { t with lastAge := s.now }
    if running then (s.bump (R.TBL_CNT 11)).report 0x8007 0 0 [] else
    let s := (s.tbl.hedge.map (·.1)).foldl (fun s l => s.ageHedge l) s
    (s.tbl.macs.map (·.1)).foldl (fun s k => s.ageMac k) s)

end Sys2Proof.Machine
end

