-- ==== Sys2Proof/Machine/Cls.lean ====
section
/-! DEFINITION. The classifier: keys, rules, action lists, edits, the rule banks and their swap, and the command interface (R132 to
R150). -/

namespace Sys2Proof.Machine

/-- Change the rule sets. -/
def State.modCls (s : State) (g : ClsSt → ClsSt) : State := { s with cls := g s.cls }

/-- Count in CLS_CNT[p][k]. -/
def State.clsCount (s : State) (p k : Nat) : State := s.bump (R.CLS_CNT p k)

/-! ## Rules and lists -/

/-- The key of an index in a bank. -/
def ruleKey (b i : Nat) : Nat := b * 131072 + i
def listKey (b i : Nat) : Nat := b * 8192 + i

/-- A rule's 20 words, none when nothing has been written. -/
def State.rule (s : State) (b i : Nat) : List Nat := tabGet (fun _ => []) s.cls.rules (ruleKey b i)

/-- An action list. -/
def State.alist (s : State) (b i : Nat) : List Nat := tabGet (fun _ => []) s.cls.alists (listKey b i)

/-- Change a rule. -/
def State.setRule (s : State) (b i : Nat) (w : List Nat) : State :=
  s.modCls fun c => { c with rules := tabSet (fun _ => []) c.rules (ruleKey b i) w }

/-- A rule matches profile `p`, pass `k` and key `key` (R135, R136). -/
def ruleMatches (w : List Nat) (p k key : Nat) : Bool :=
  let c := w.getD 16 0
  bitAt c 0 && bitsOf c 1 6 == p && bitAt c (8 + k) && (key ^^^ ofMs (w.take 8)) &&& ofMs ((w.drop 8).take 8) == 0

/-- The better of two matching rules, given as (PRIO, index): the larger PRIO, then the lower index (R136). -/
def betterRule (a : Option (Nat × Nat)) (b : Nat × Nat) : Option (Nat × Nat) :=
  match a with
  | some x => if x.1 < b.1 then some b else some x
  | none => some b

/-- The winning rule of a bank, as its index (R136). -/
def State.ruleWin (s : State) (b p k key : Nat) : Option Nat :=
  ((s.cls.rules.filter fun e => e.1 / 131072 == b && ruleMatches e.2 p k key).foldl
    (fun a e => betterRule a (bitsOf (e.2.getD 16 0) 16 16, e.1 % 131072)) none).map (·.2)

/-- A match is counted in the rule's HITS, modulo 2^48 (R135, R136). -/
def State.ruleHit (s : State) (b i : Nat) : State :=
  let w := s.rule b i
  let n := (w.getD 18 0 + w.getD 19 0 * 2 ^ 32 + 1) % 2 ^ 48
  s.setRule b i (w.take 18 ++ [n % 2 ^ 32, n / 2 ^ 32])

/-! ## Extractors (R133) -/

/-- A metadata item (R133). -/
def metaItem (k : Pkt) (n : Nat) : Nat :=
  match n with
  | 0 => if k.port < 16 then k.port else 0xFFFF
  | 1 => match k.src with | some (_, f) => f | none => 0xFFFF
  | 2 => k.pass
  | 3 => match k.send with | some r => r.queue % 65536 | none => 0
  | 4 => match k.send with | some r => r.queue / 65536 % 2 | none => 0
  | _ => 0

/-- The 16 bits that an extractor word yields (R133). -/
def extract (k : Pkt) (hdrs : List Hdr) (w : Nat) : Nat :=
  match w % 4 with
  | 0 => 0
  | 1 => bitsOf (k.prec.getD (bitsOf w 2 5) 0) (bitsOf w 7 5) 16
  | 2 =>
    match findHdr hdrs (bitsOf w 2 8) (bitAt w 10) with
    | some h => beField k.bytes h.fin (h.off + bitsOf w 11 9) 2
    | none => 0
  | _ => metaItem k (bitsOf w 2 4)

/-- An extractor word that R134 refuses: a reserved META value, a WORD above 23, or a nonzero reserved bit. -/
def extractorBad (w : Nat) : Bool :=
  decide (2 ^ 20 ≤ w) || (w % 4 == 1 && decide (23 < bitsOf w 2 5)) || (w % 4 == 3 && decide (4 < bitsOf w 2 4))

/-- A key of `n` extractors, the first filling the most significant bits. -/
def keyOf (k : Pkt) (hdrs : List Hdr) (word : Nat → Nat) (n : Nat) : Nat :=
  (List.range n).foldl (fun a x => a * 65536 + extract k hdrs (word x)) 0

/-- The 256-bit key of a pass (R133). -/
def State.passKey (s : State) (k : Pkt) (hdrs : List Hdr) : Nat :=
  keyOf k hdrs (fun x => s.rdN (R.CLS_KEYTPL k.bank k.profile x)) 16

/-! ## Header edits (R139, R140) -/

/-- A frame with bytes replaced from `a` on. -/
def patch (f : List Byte) (a : Nat) (l : List Byte) : List Byte := f.take a ++ l ++ f.drop (a + l.length)

/-- The L3 of a layer, as (type, header). -/
def layerL3 (hdrs : List Hdr) (l : Nat) : Option Hdr := hdrs.find? fun h => h.layer == l && (h.typ == 4 || h.typ == 5)

/-- The L4 of a layer: its first UDP, TCP, SCTP or ICMP header after its L3 (R113). -/
def layerL4 (hdrs : List Hdr) (l : Nat) : Option Hdr :=
  match layerL3 hdrs l with
  | none => none
  | some h3 => hdrs.find? fun h => h.layer == l && h3.off < h.off && 8 ≤ h.typ && decide (h.typ ≤ 0xB)

/-- One edit applied, none where it is skipped (R140). -/
def Edit.apply (hdrs : List Hdr) (f : List Byte) : Edit → Option (List Byte)
  | .rewrite h off len v =>
    match hdrs[h]? with
    | none => none
    | some x => if x.fin < x.off + off + len then none else some (patch f (x.off + off) (beBytes len (v % 256 ^ len)))
  | .decTtl l =>
    match layerL3 hdrs l with
    | none => none
    | some x =>
      let a := x.off + (if x.typ = 4 then 8 else 7)
      some (patch f a [byte (byteAt f a + 255)])

/-- The edits of a pass in list order; answers the frame and how many were skipped. -/
def applyEdits (hdrs : List Hdr) : List Edit → List Byte → List Byte × Nat
  | [], f => (f, 0)
  | e :: t, f =>
    match e.apply hdrs f with
    | some f => applyEdits hdrs t f
    | none => let (f, n) := applyEdits hdrs t f; (f, n + 1)

/-- The sum that the change of a range of bytes adds to an incrementally updated checksum, leaving out the checksum's own two bytes at `own`. -/
def changeSum (a b : List Byte) (own : Nat) : List Nat → Nat
  | [] => 0
  | i :: t => (if i = own then 0 else 65535 - beAt a i 2 + beAt b i 2) + changeSum a b own t

/-- The even offsets of a range. -/
def evens (a n : Nat) : List Nat := (List.range (n / 2)).map fun i => a + 2 * i

/-- The offset of an L4 checksum in its header, for the types that carry the Internet checksum. -/
def csumAt (t : Nat) : Nat := if t = 8 then 6 else if t = 9 then 16 else 2

/-- The L4 checksum of a layer updated for what changed between frame `a` and frame `b` in its header and in the addresses that a pseudo-header
covers (R140): not for a UDP checksum of zero. -/
def fixL4 (a b : List Byte) (h3 h4 : Hdr) : List Byte :=
  if h4.typ = 0xA then
    if cut a h4.off h4.len = cut b h4.off h4.len then b else
    let seg (f : List Byte) := crc32c (patch (cut f h4.off (h4.fin - h4.off)) 8 [0, 0, 0, 0])
    patch b (h4.off + 8) (leBytes 4 (ofLe (cut b (h4.off + 8) 4) ^^^ seg a ^^^ seg b))
  else
    let c := h4.off + csumAt h4.typ
    let addrs := if h3.typ = 5 then evens (h3.off + 8) 32 else if h4.typ = 0xB then [] else evens (h3.off + 12) 8
    let words := addrs ++ evens h4.off h4.len
    if h4.typ = 8 && beAt b c 2 == 0 then b
    else if words.all fun i => beAt a i 2 == beAt b i 2 then b
    else
      let v := 65535 - fold16 (65535 - beAt b c 2 + changeSum a b c words)
      patch b c (beBytes 2 (if h4.typ = 8 && v == 0 then 65535 else v))

/-- The header checksum of an IPv4 header at `o`, recomputed. -/
def fixIp4 (f : List Byte) (o : Nat) : List Byte :=
  let n := 4 * (byteAt f o % 16)
  let f := patch f (o + 10) [0, 0]
  patch f (o + 10) (beBytes 2 (inetSum (cut f o n)))

/-- The checksums after header edits (R140): every changed IPv4 header's own, and each layer's L4 unless the packet is a fragment. -/
def fixSums (frag : Bool) (hdrs : List Hdr) (a b : List Byte) : List Byte :=
  let b := hdrs.foldl (fun f h => if h.typ = 4 && cut a h.off h.len != cut f h.off h.len then fixIp4 f h.off else f) b
  if frag then b else
  (List.range 16).foldl (fun f l =>
    match layerL3 hdrs l, layerL4 hdrs l with
    | some h3, some h4 => fixL4 a f h3 h4
    | _, _ => f) b

/-- Remove up to `n` VLAN tags after the outer Ethernet addresses (R140). -/
def popTags : Nat → List Byte → List Byte
  | 0, f => f
  | n + 1, f => if isTpid (beAt f 12 2) then popTags n (f.take 12 ++ f.drop 16) else f

/-- The tags after the outer Ethernet addresses. -/
def tagCount : Nat → List Byte → Nat → Nat
  | 0, _, _ => 0
  | n + 1, f, o => if isTpid (beAt f o 2) then 1 + tagCount n f (o + 4) else 0

/-- The data bytes of a push template. -/
def State.tplBytes (s : State) (b t : Nat) : List Byte := (List.range 16).flatMap fun w => beBytes 4 (s.rdN (R.CLS_PUSHTPL b t w))

/-- Fill in the headers of a template pushed at `at_`, by its control word (R140). -/
def fillPush (ctl hash at_ : Nat) (f : List Byte) : List Byte :=
  let ip4 := bitsOf ctl 7 6
  let ip6 := bitsOf ctl 13 6
  let udp := bitsOf ctl 19 6
  let f := if ip4 = 0x3F then f else patch f (at_ + ip4 + 2) (beBytes 2 (f.length - (at_ + ip4)))
  let f := if ip4 = 0x3F then f else fixIp4 f (at_ + ip4)
  let f := if ip6 = 0x3F then f else patch f (at_ + ip6 + 4) (beBytes 2 (f.length - (at_ + ip6) - 40))
  if udp = 0x3F then f else
  let u := at_ + udp
  let n := f.length - u
  let f := patch f (u + 4) (beBytes 2 n)
  let f := if bitAt ctl 25 then patch f u (beBytes 2 (0xC000 + hash % 2 ^ 14)) else f
  let f := patch f (u + 6) [0, 0]
  if ip6 = 0x3F || (ip4 != 0x3F && decide (ip6 < ip4) && decide (ip4 < udp)) then f else
  let v := 65535 - fold16 (pseudoSum f 5 (at_ + ip6) 17 n + sum16 (f.drop u))
  patch f (u + 6) (beBytes 2 (if v = 0 then 65535 else v))

/-- Push a template of a bank, at the frame start or after the outer addresses and their tags (R140). -/
def State.push (s : State) (b hash : Nat) (f : List Byte) (t : Nat) (pos : Bool) : List Byte :=
  let ctl := s.rdN (R.CLS_PUSHTPL b t 16)
  let n := bitsOf ctl 0 7
  let o := if pos then 12 + 4 * tagCount 8 f 12 else 0
  fillPush ctl hash o (f.take o ++ (s.tplBytes b t).take n ++ f.drop o)

/-- The edits of a pass, in the order of R140: the frame, what it lost or gained before its payload, and how many edits were skipped. -/
def State.editFrame (s : State) (w : PassSt) : List Byte × Int × Nat :=
  let k := w.pkt
  let (f, skip) : List Byte × Nat := applyEdits w.hdrs w.edits k.bytes
  let f := if w.edits.isEmpty then f else fixSums (bitAt (k.prec.getD 0 0) 25) w.hdrs k.bytes f
  let (f, skip) := match w.pop with
    | none => (f, skip)
    | some l =>
      match w.hdrs.find? (fun h : Hdr => h.layer == l) with
      | some h => (f.drop h.off, skip)
      | none => (f, skip + 1)
  let f := match w.popTag with | some n => popTags n f | none => f
  let (f, skip) := w.pushes.foldl (fun (a : List Byte × Nat) (e : Nat × Bool) =>
    if bitsOf (s.rdN (R.CLS_PUSHTPL k.bank e.1 16)) 0 7 = 0 then (a.1, a.2 + 1)
    else (s.push k.bank (k.prec.getD 1 0) a.1 e.1 e.2, a.2)) (f, skip)
  (if f.length < 60 && f != k.bytes then fitBytes 60 f else f, (f.length : Int) - k.bytes.length, skip)

/-! ## Actions (R137 to R139) -/

/-- A destination set unless a final action has run (R139). -/
def PassSt.dir (w : PassSt) (d : Dest) : PassSt := if w.final then w else { w with dest := d }

/-- A further action of a kind that the pass may not have (R140, R141). -/
def State.excess (s : State) (w : PassSt) : State := s.clsCount w.pkt.pipe 16

/-- The TTL or hop limit of a layer as the pass's edits so far leave it (R139). -/
def PassSt.ttlOf (w : PassSt) (l : Nat) : Option Nat :=
  (layerL3 w.hdrs l).map fun h => byteAt (applyEdits w.hdrs w.edits w.pkt.bytes).1 (h.off + (if h.typ = 4 then 8 else 7))

/-- The key that a key definition builds for a table (R151). -/
def State.tblKey (s : State) (k : Pkt) (hdrs : List Hdr) (table d : Nat) : Nat :=
  keyOf k hdrs (fun x => s.lrd (R.TBL_KDEF d + 4 * x)) (if table = 0 then 16 else if table = 1 then 10 else 4)

/-- A LOOKUP action (R138, R152, R166, R170): issued, and a learn presented. -/
def State.lookup (s : State) (w : PassSt) (table d miss : Nat) : PassSt × State :=
  if 2 ≤ w.looked then (w, s.excess w) else
  let k := w.pkt
  let w := { w with looked := w.looked + 1 }
  let key := s.tblKey k w.hdrs table d
  let l : LookupSt := ⟨table, key, d, miss, s.now, none, none⟩
  if s.kdefTable d ≠ table then ({ w with lookups := w.lookups ++ [{ l with answer := some none }] }, s.bump (R.TBL_CNT 13)) else
  let s := if table = 2 && s.lgb (F.TBL_KDEFCTL_LEARN d) then
      s.presentLearn k.pipe (keyOf k w.hdrs (fun x => s.lrd (R.TBL_KDEF d + 16 + 4 * x)) 4)
        ((extract k w.hdrs (s.lrd (R.TBL_KDEF d + 32)) + s.lgf (F.TBL_KDEFCTL_TAGADD d)) % 2048)
    else s
  let far := table == 0 && s.kdefRemote d
  if !far then ({ w with lookups := w.lookups ++ [l] }, s) else
  let (r, s) := s.askMember (s.lgf (F.TBL_KDEFCTL_MEMBER d)) d key
  ({ w with lookups := w.lookups ++ [match r with | some t => { l with remote := some t } | none => { l with answer := some none }] }, s)

/-- One action of a list (R137, R139). -/
def State.act (s : State) (w : PassSt) (a : Nat) : PassSt × State :=
  let p := w.pkt.pipe
  let live (g : PassSt × State) : PassSt × State := if w.final then (w, s) else g
  match a % 256 with
  | 0x01 => live ({ w with dest := .drop, final := true }, s)
  | 0x02 => (w.dir (.queue (bitsOf a 8 17)), s)
  | 0x03 => (w.dir (.itab (bitsOf a 8 8) (bitsOf a 16 4)), s)
  | 0x04 => (w.dir (.tmq (bitsOf a 8 17)), s)
  | 0x05 =>
    if !bitAt a 22 then (w.dir (.engine (bitsOf a 8 6) (bitsOf a 14 8)), s)
    else if w.copy.isSome then (w, s.excess w) else ({ w with copy := some (bitsOf a 8 6, bitsOf a 14 8) }, s)
  | 0x06 => if 2 ≤ w.mirrors.length then (w, s.excess w) else ({ w with mirrors := w.mirrors ++ [bitsOf a 8 4] }, s)
  | 0x07 => live (if 2 ≤ w.pushes.length then (w, s.excess w) else ({ w with pushes := w.pushes ++ [(bitsOf a 8 8, bitAt a 16)] }, s))
  | 0x08 => live (if w.pop.isSome then (w, s.excess w) else ({ w with pop := some (bitsOf a 8 4) }, s))
  | 0x09 => live (if w.popTag.isSome then (w, s.excess w) else ({ w with popTag := some (bitsOf a 8 2) }, s))
  | 0x0A => live ({ w with edits := w.edits ++ [.rewrite (bitsOf a 8 4) (bitsOf a 12 9) (bitsOf a 21 2 + 1) (a / 2 ^ 32)] }, s)
  | 0x0B =>
    live (match w.ttlOf (bitsOf a 8 4) with
      | some t => if t ≤ 1 then ({ w with dest := .none, final := true, ttl := true }, s) else ({ w with edits := w.edits ++ [.decTtl (bitsOf a 8 4)] }, s)
      | none => (w, s.clsCount p 11))
  | 0x0C => (w.dir (.recirc (bitsOf a 8 6)), s)
  | 0x0D => ({ w with pkt := { w.pkt with meter := some (bitsOf a 8 18) } }, s)
  | 0x0E => ({ w with pkt := { w.pkt with cls := some (bitsOf a 8 3) } }, s)
  | 0x0F => live (s.lookup w (bitsOf a 8 2) (bitsOf a 10 6) (bitsOf a 16 13))
  | 0x10 => live ({ w with pkt := { w.pkt with sa := some (bitsOf a 8 21) } }, s)
  | 0x11 => live ({ w with pkt := { w.pkt with ctx := some (bitsOf a 8 20) } }, s)
  | _ => (w, s)

/-- The actions of a list up to its first END (R137). -/
def State.runActs (s : State) (w : PassSt) : List Nat → PassSt × State
  | [] => (w, s)
  | a :: t => if a % 256 = 0 then (w, s) else let (w, s) := s.act w a; State.runActs s w t

/-- A list of the packet's bank. -/
def State.runList (s : State) (w : PassSt) (i : Nat) : PassSt × State := s.runActs w (s.alist w.pkt.bank i)

/-- The result fields of a hit act, in the order of R157. -/
def PassSt.result (w : PassSt) (r : ResSt) : PassSt :=
  let k := w.pkt
  let k := { k with cls := match r.cls with | some c => some c | none => k.cls
                    meter := match r.meter with | some c => some c | none => k.meter }
  let k := if w.final then k else
    { k with sa := match r.sa with | some c => some c | none => k.sa
             ctx := match r.ctx with | some c => some c | none => k.ctx }
  let w := { w with pkt := k }
  match r.queue with
  | some (false, q) => w.dir (.queue q)
  | some (true, q) => w.dir (.tmq q)
  | none => w

/-- The lookups answered at the front of a pass take effect, in the order in which their LOOKUP actions ran (R138, R157). -/
def State.advance (s : State) (w : PassSt) : Nat → PassSt × State
  | 0 => (w, s)
  | n + 1 =>
    match w.lookups with
    | [] => (w, s)
    | l :: rest =>
      match l.answer with
      | none => (w, s)
      | some none =>
        let w := { w with lookups := rest }
        let (w, s) := if l.miss = 0x1FFF then (w, s) else s.runList w l.miss
        State.advance s w n
      | some (some r) =>
        let w := { w with lookups := rest }
        let (w, s) := match r.alist with | some i => s.runList w i | none => (w, s)
        State.advance s (w.result r) n

/-- A pass's rule match and the list it runs (R136). -/
def State.classify (s : State) (w : PassSt) : PassSt × State :=
  let k := w.pkt
  let s := s.clsCount k.pipe 0
  match s.ruleWin k.bank k.profile k.pass (s.passKey k w.hdrs) with
  | some i => ((s.ruleHit k.bank i).clsCount k.pipe 1).runList w (bitsOf ((s.rule k.bank i).getD 17 0) 0 13)
  | none => (s.clsCount k.pipe 2).runList w (s.gf (F.CLS_GRPDEF_ALIST k.bank k.profile))

/-! ## Epochs and the swap (R145, R146) -/

/-- The packets in flight for a bank, and the punted packets held for it. -/
def inflight (b : Nat) : Fld := if b = 0 then F.CLS_INFLIGHT_A else F.CLS_INFLIGHT_B
def heldFld (b : Nat) : Fld := if b = 0 then F.CLS_HELD_A else F.CLS_HELD_B

/-- The bank that first parses capture. -/
def State.newBank (s : State) : Nat :=
  if s.cls.swapping then 1 - s.gf F.CLS_RULESWAP_ACTIVE else s.gf F.CLS_RULESWAP_ACTIVE

/-- The bank that a swap in progress leaves. -/
def State.oldBank (s : State) : Nat := 1 - s.newBank

/-- A write of 1 to CLS_RULESWAP.SWAP (R146). -/
def State.ruleSwap (s : State) : State :=
  if s.gb F.CLS_RULESWAP_BUSY || s.gb F.CLS_RULESWAP_COPYBUSY then (s.sb F.CLS_RULESWAP_ERR true).report 0x7102 0 0 []
  else (s.sb F.CLS_RULESWAP_BUSY true).modCls fun c => { c with swapping := true, revokeAt := s.now + 1000 * s.gf F.CLS_EPOCHCFG_ENGTMO }

def execRuleSwap (m : Master) (s : State) : Outcome := .next (s.asWriter m R.CLS_RULESWAP State.ruleSwap)

/-- Every pipeline has reached a packet boundary since the swap was written. -/
def State.allSwitched (s : State) : Bool :=
  (List.range 4).all fun p => match (s.pipe p).pass with | some w => w.pkt.bank == s.newBank | none => true

/-- CLS_SWAP_DONE (R146): ACTIVE changes, with its stamp. -/
def State.swapDone (s : State) : State :=
  let s := (s.sf F.CLS_RULESWAP_ACTIVE s.newBank).modCls fun c => { c with swapping := false }
  let s := s.sf F.CLS_RULESWAP_SWAPCOUNT (s.gf F.CLS_RULESWAP_SWAPCOUNT + 1)
  let (t, s) := s.stamp (islPP 0) 0x7100
  let s := ((s.wr64 R.CLS_SWAPSTAMP (shortOf t.time)).sf F.CLS_SWAPINFO_BOUND t.bound).wrN R.CLS_SWAPSEQ t.seq
  s.report 0x7100 0 0 [shortOf t.time % 2 ^ 32, shortOf t.time / 2 ^ 32, t.bound, t.seq]

def execClsSwapDone (s : State) : Outcome := .next (s.inBlock 0x71 (islPP 0) fun s => if s.cls.swapping && s.allSwitched then s.swapDone else s)

/-- SWAP_DRAIN_DONE (R146): BUSY clears once the old bank has no packet in flight and none held. -/
def execSwapDrainDone (s : State) : Outcome :=
  .next (s.inBlock 0x71 (islPP 0) fun s => if s.gb F.CLS_RULESWAP_BUSY && !s.cls.swapping && s.gf (inflight s.oldBank) == 0 && s.gf (heldFld s.oldBank) == 0 then
      s.sb F.CLS_RULESWAP_BUSY false
    else s)

/-- EPOCH_HOLD_REVOKE (R146): the holds that remain on the old bank are revoked. -/
def State.revokeHolds (s : State) : State :=
  let b := s.oldBank
  (s.sf (heldFld b) 0).modCls fun c => { c with punts := c.punts.map fun e =>
    (e.1, e.2.map fun x => if x.1.bank == b && !x.2.1 then (x.1, x.2.1, true) else x) }

def execEpochHoldRevoke (s : State) : Outcome :=
  .next (s.inBlock 0x71 (islPP 0) fun s => if s.gb F.CLS_RULESWAP_BUSY && decide (s.cls.revokeAt ≤ s.now) then s.revokeHolds else s)

/-! ## The command interface (R148) -/

/-- A write of OP, BANK, INDEX and GO = 1 (R148); a GO while BUSY is 1 is ignored. -/
def State.clsCmd (s : State) (m : Master) (op b i : Nat) (body : State → State) : State :=
  s.asWriter m R.CLS_RCMD fun s =>
    if s.gb F.CLS_RCMD_BUSY then s
    else body (((s.sf F.CLS_RCMD_OP op).sf F.CLS_RCMD_BANK b).sf F.CLS_RCMD_INDEX i)

/-- A command's outcome. -/
def State.clsStatus (s : State) (st : Nat) : State := s.sf F.CLS_RCMD_STATUS st

/-- A bank that no command may write: active, draining or being copied. -/
def State.bankBusy (s : State) (b : Nat) : Bool :=
  s.gf F.CLS_RULESWAP_ACTIVE == b || s.gb F.CLS_RULESWAP_BUSY || s.gb F.CLS_RULESWAP_COPYBUSY

/-- The refusal of a write to such a bank. -/
def State.activeWrite (s : State) : State := (s.report 0x7101 0 0 []).clsStatus 1

/-- The words of CLS_RDATA. -/
def State.rdata (s : State) (n : Nat) : List Nat := (List.range n).map fun w => s.rdN (R.CLS_RDATA w)

/-- Words returned in CLS_RDATA. -/
def State.setRdata (s : State) (l : List Nat) : State :=
  (List.range l.length).foldl (fun s w => s.wrN (R.CLS_RDATA w) (l.getD w 0)) s

/-- The bits that an action's opcode names (R137); none for a reserved opcode. -/
def actMask (op : Nat) : Option Nat :=
  match op with
  | 0x00 => some 0xFF | 0x01 => some 0xFF | 0x02 => some 0x1FFFFFF | 0x03 => some 0xFFFFF | 0x04 => some 0x1FFFFFF
  | 0x05 => some 0x7FFFFF | 0x06 => some 0xFFF | 0x07 => some 0x1FFFF | 0x08 => some 0xFFF | 0x09 => some 0x3FF
  | 0x0A => some 0xFFFFFFFF007FFFFF | 0x0B => some 0xFFF | 0x0C => some 0x3FFF | 0x0D => some 0x3FFFFFF | 0x0E => some 0x7FF
  | 0x0F => some 0x1FFFFFFF | 0x10 => some 0x1FFFFFFF | 0x11 => some 0xFFFFFFF | _ => none

/-- An action that a write refuses (R137): a reserved opcode or bit, or a refused value. -/
def actBad (a : Nat) : Bool :=
  match actMask (a % 256) with
  | none => true
  | some m =>
    (a ||| m) != m ||
    match a % 256 with
    | 0x03 => decide (9 < bitsOf a 16 4)
    | 0x08 => bitsOf a 8 4 == 0
    | 0x09 => bitsOf a 8 2 == 0 || bitsOf a 8 2 == 3
    | 0x0A => decide (512 < bitsOf a 12 9 + bitsOf a 21 2 + 1)
    | 0x0F => bitsOf a 8 2 == 3
    | _ => false

/-- WRITE_RULE. -/
def State.writeRule (s : State) (b i : Nat) : State :=
  let w := s.rdata 18
  if s.bankBusy b then s.activeWrite
  else if 131072 ≤ i then s.clsStatus 2
  else if (w.getD 16 0 &&& 0xF080) != 0 || decide (0x2000 ≤ w.getD 17 0) then s.clsStatus 3
  else (s.setRule b i (w ++ [0, 0])).clsStatus 0

def execWriteRule (m : Master) (b : Fin 2) (i : BitVec 17) (s : State) : Outcome :=
  .next (s.clsCmd m 1 b i.toNat fun s => s.writeRule b i.toNat)

/-- READ_RULE. -/
def State.readRule (s : State) (b i : Nat) : State :=
  if 131072 ≤ i then s.clsStatus 2 else (s.setRdata ((List.range 20).map fun w => (s.rule b i).getD w 0)).clsStatus 0

def execReadRule (m : Master) (b : Fin 2) (i : BitVec 17) (s : State) : Outcome :=
  .next (s.clsCmd m 2 b i.toNat fun s => s.readRule b i.toNat)

/-- The eight actions of a list from CLS_RDATA. -/
def State.rdataActs (s : State) : List Nat := (List.range 8).map fun i => s.rdN (R.CLS_RDATA (2 * i)) + s.rdN (R.CLS_RDATA (2 * i + 1)) * 2 ^ 32

/-- WRITE_ALIST. -/
def State.writeAlist (s : State) (b i : Nat) : State :=
  if s.bankBusy b then s.activeWrite
  else if 8192 ≤ i then s.clsStatus 2
  else if s.rdataActs.any actBad then s.clsStatus 3
  else (s.modCls fun c => { c with alists := tabSet (fun _ => []) c.alists (listKey b i) s.rdataActs }).clsStatus 0

def execWriteAlist (m : Master) (b : Fin 2) (i : BitVec 17) (s : State) : Outcome :=
  .next (s.clsCmd m 3 b i.toNat fun s => s.writeAlist b i.toNat)

/-- READ_ALIST. -/
def State.readAlist (s : State) (b i : Nat) : State :=
  if 8192 ≤ i then s.clsStatus 2
  else (s.setRdata ((List.range 8).flatMap fun k => let a := (s.alist b i).getD k 0; [a % 2 ^ 32, a / 2 ^ 32])).clsStatus 0

def execReadAlist (m : Master) (b : Fin 2) (i : BitVec 17) (s : State) : Outcome :=
  .next (s.clsCmd m 4 b i.toNat fun s => s.readAlist b i.toNat)

/-- COPY_BANK starts: BUSY and COPYBUSY stay 1 until it is done. -/
def State.copyBank (s : State) (b : Nat) : State :=
  if s.bankBusy b then s.activeWrite
  else ((s.sb F.CLS_RCMD_BUSY true).sb F.CLS_RULESWAP_COPYBUSY true).modCls fun c => { c with copy := some (b, s.now) }

def execCopyBank (m : Master) (b : Fin 2) (i : BitVec 17) (s : State) : Outcome :=
  .next (s.clsCmd m 5 b i.toNat fun s => s.copyBank b)

/-- The entries of a table with keys below `n` per bank, bank `b` holding what bank `a` holds. -/
def bankCopy {α : Type} (n a b : Nat) (t : Tab α) : Tab α :=
  let own := t.filter fun e => e.1 / n == a
  let c := own.map fun e => (b * n + e.1 % n, e.2)
  if a < b then own ++ c else c ++ own

/-- Registers copied one by one. -/
def State.copyRegs (s : State) (src dst : Nat) : Nat → State
  | 0 => s
  | n + 1 => State.copyRegs (s.wr dst (s.rd src)) (src + 4) (dst + 4) n

/-- All bank state of a bank copied into the other (R132, R148). -/
def State.copyAll (s : State) (a b : Nat) : State :=
  let s := s.modCls fun c => { c with rules := bankCopy 131072 a b c.rules, alists := bankCopy 8192 a b c.alists }
  let s := s.copyRegs (R.CLS_KEYTPL a 0 0) (R.CLS_KEYTPL b 0 0) 1024
  let s := s.copyRegs (R.CLS_GRPDEF a 0) (R.CLS_GRPDEF b 0) 64
  (List.range 256).foldl (fun s t => s.copyRegs (R.CLS_PUSHTPL a t 0) (R.CLS_PUSHTPL b t 0) 17) s

/-- COPY_BANK_DONE (R148). -/
def State.copyDone (s : State) : State :=
  match s.cls.copy with
  | none => s
  | some (b, _) =>
    let s := (s.copyAll (1 - b) b).modCls fun c => { c with copy := none }
    ((s.sb F.CLS_RULESWAP_COPYBUSY false).sb F.CLS_RCMD_BUSY false).clsStatus 0

def execCopyBankDone (s : State) : Outcome := .next (s.inBlock 0x71 (islPP 0) fun s => s.copyDone)

/-- CLEAR_BANK (R148): VALID cleared in every rule. -/
def State.clearBank (s : State) (b : Nat) : State :=
  if s.bankBusy b then s.activeWrite
  else (s.modCls fun c => { c with rules := c.rules.map fun e =>
    (e.1, if e.1 / 131072 == b then e.2.set 16 (putBits (e.2.getD 16 0) 0 1 0) else e.2) }).clsStatus 0

def execClearBank (m : Master) (b : Fin 2) (i : BitVec 17) (s : State) : Outcome :=
  .next (s.clsCmd m 6 b i.toNat fun s => s.clearBank b)

end Sys2Proof.Machine
end

