-- ==== Sys2Proof/Machine/Cipher.lean ====
section
/-! DEFINITION. The ciphers that the manual names (R361): AES-GCM with 128-bit and 256-bit keys and ChaCha20-Poly1305, each with a 12-byte nonce and a
16-byte tag. The manual names them and does not define them; they are written from their public standards (log entry 30). -/

namespace Sys2Proof.Machine

/-! ## AES -/

/-- Multiplication by x in the AES field. -/
def xtime (a : Nat) : Nat := if a < 128 then 2 * a else (2 * a) ^^^ 0x11B

/-- Multiplication in the AES field, over the bits of `b` from bit 0 up. -/
def gmul : Nat → Nat → Nat → Nat
  | 0, _, _ => 0
  | n + 1, a, b => (if b % 2 = 1 then a else 0) ^^^ gmul n (xtime a) (b / 2)

/-- The inverse in the AES field: the power 254. -/
def ginv (a : Nat) : Nat :=
  let a2 := gmul 8 a a
  let a3 := gmul 8 a2 a
  let a6 := gmul 8 a3 a3
  let a7 := gmul 8 a6 a
  let a14 := gmul 8 a7 a7
  let a15 := gmul 8 a14 a
  let a30 := gmul 8 a15 a15
  let a31 := gmul 8 a30 a
  let a62 := gmul 8 a31 a31
  let a63 := gmul 8 a62 a
  let a126 := gmul 8 a63 a63
  let a127 := gmul 8 a126 a
  gmul 8 a127 a127

/-- A byte rotated left. -/
def rotl8 (x k : Nat) : Nat := (x * 2 ^ k % 256) ||| (x / 2 ^ (8 - k))

/-- The AES substitution. -/
def sbox (x : Nat) : Nat :=
  let b := ginv x
  b ^^^ rotl8 b 1 ^^^ rotl8 b 2 ^^^ rotl8 b 3 ^^^ rotl8 b 4 ^^^ 0x63

/-- Bytes combined by exclusive or. -/
def xorBytes (a b : List Nat) : List Nat := List.zipWith (· ^^^ ·) a b

/-- The AES round constant `i`, from 1. -/
def rcon : Nat → Nat
  | 0 => 0
  | 1 => 1
  | n + 1 => xtime (rcon n)

/-- The key schedule: words of four bytes, newest first, extended to `n` words; `nk` words of key. -/
def keyWords (nk : Nat) : Nat → List (List Nat) → List (List Nat)
  | 0, w => w
  | n + 1, w =>
    let i := w.length
    let t := w.headD []
    let t := if i % nk = 0 then xorBytes ((t.drop 1 ++ t.take 1).map sbox) [rcon (i / nk), 0, 0, 0]
      else if 6 < nk && i % nk == 4 then t.map sbox else t
    keyWords nk n (xorBytes (w.getD (nk - 1) []) t :: w)

/-- Groups of `k`. -/
def groups (k : Nat) : Nat → List Nat → List (List Nat)
  | 0, _ => []
  | n + 1, l => if l.isEmpty then [] else l.take k :: groups k n (l.drop k)

/-- The round keys of a key of 16 or 32 bytes. -/
def roundKeys (key : List Nat) : List (List Nat) :=
  let nk := key.length / 4
  let total := 4 * (nk + 7)
  groups 16 (nk + 7) (keyWords nk (total - nk) (groups 4 nk key).reverse).reverse.flatten

/-- The AES row shift. -/
def shiftRows (b : List Nat) : List Nat := (List.range 16).map fun i => b.getD (4 * ((i / 4 + i % 4) % 4) + i % 4) 0

/-- The AES column mix. -/
def mixColumns (b : List Nat) : List Nat :=
  (List.range 16).map fun i =>
    let a (k : Nat) : Nat := b.getD (i / 4 * 4 + (i + k) % 4) 0
    xtime (a 0) ^^^ (xtime (a 1) ^^^ a 1) ^^^ a 2 ^^^ a 3

/-- The AES rounds after the first key addition. -/
def aesRounds : List (List Nat) → List Nat → List Nat
  | [], b => b
  | [k], b => xorBytes (shiftRows (b.map sbox)) k
  | k :: t, b => aesRounds t (xorBytes (mixColumns (shiftRows (b.map sbox))) k)

/-- One block encrypted. -/
def aesBlock (rk : List (List Nat)) (b : List Nat) : List Nat := aesRounds (rk.drop 1) (xorBytes b (rk.headD []))

/-! ## GCM -/

/-- Bytes as a number, first byte most significant. -/
def beNat (l : List Nat) : Nat := l.foldl (fun a b => a * 256 + b) 0

/-- A number as `n` bytes, first byte most significant. -/
def natBe (n v : Nat) : List Nat := (List.range n).map fun i => v / 256 ^ (n - 1 - i) % 256

/-- A number as `n` bytes, first byte least significant. -/
def natLe (n v : Nat) : List Nat := (List.range n).map fun i => v / 256 ^ i % 256

/-- The GCM field product, over the bits of `x` from the most significant of `n`. -/
def gfMul (x : Nat) : Nat → Nat → Nat
  | 0, _ => 0
  | n + 1, v => (if bitAt x n then v else 0) ^^^ gfMul x n (if v % 2 = 1 then (v / 2) ^^^ (0xE1 * 2 ^ 120) else v / 2)

/-- Bytes padded with zeros to a multiple of 16. -/
def pad16 (l : List Nat) : List Nat := l ++ List.replicate ((16 - l.length % 16) % 16) 0

/-- GHASH carried over blocks. -/
def ghash (h : Nat) (blocks : List (List Nat)) : Nat := blocks.foldl (fun y b => gfMul (y ^^^ beNat b) 128 h) 0

/-- Counter mode from a counter on. -/
def ctrMode (block : Nat → List Nat) : Nat → List (List Nat) → List Nat
  | _, [] => []
  | c, b :: t => xorBytes b (block c) ++ ctrMode block (c + 1) t

/-- Blocks of a list. -/
def blocksOf (k : Nat) (l : List Nat) : List (List Nat) := groups k (l.length / k + 1) l

/-- AES-GCM's keystream from counter 2. -/
def gcmCrypt (rk : List (List Nat)) (nonce data : List Nat) : List Nat :=
  ctrMode (fun c => aesBlock rk (nonce ++ natBe 4 c)) 2 (blocksOf 16 data)

/-- AES-GCM's tag over additional data and ciphertext. -/
def gcmTag (rk : List (List Nat)) (nonce aad ct : List Nat) : List Nat :=
  let h := beNat (aesBlock rk (List.replicate 16 0))
  let y := ghash h (blocksOf 16 (pad16 aad ++ pad16 ct ++ natBe 8 (8 * aad.length) ++ natBe 8 (8 * ct.length)))
  xorBytes (natBe 16 y) (aesBlock rk (nonce ++ natBe 4 1))

/-! ## ChaCha20-Poly1305 -/

/-- A quarter round on words `a`, `b`, `c` and `d` of the state. -/
def quarter (a b c d : Nat) (w : List Nat) : List Nat :=
  let g (l : List Nat) (i : Nat) : Nat := l.getD i 0
  let st (w : List Nat) (x y z k : Nat) : List Nat :=
    let s := (g w x + g w y) % 2 ^ 32
    let w := w.set x s
    let v := g w z ^^^ s
    w.set z ((v * 2 ^ k % 2 ^ 32) ||| (v / 2 ^ (32 - k)))
  st (st (st (st w a b d 16) c d b 12) a b d 8) c d b 7

/-- Double rounds. -/
def chachaRounds : Nat → List Nat → List Nat
  | 0, w => w
  | n + 1, w =>
    chachaRounds n (quarter 3 4 9 14 (quarter 2 7 8 13 (quarter 1 6 11 12 (quarter 0 5 10 15
      (quarter 3 7 11 15 (quarter 2 6 10 14 (quarter 1 5 9 13 (quarter 0 4 8 12 w))))))))

/-- Little-endian words of bytes. -/
def leWords (l : List Nat) : List Nat := (blocksOf 4 l).map fun b => beNat b.reverse

/-- One ChaCha20 block of 64 bytes. -/
def chachaBlock (key nonce : List Nat) (c : Nat) : List Nat :=
  let w := [0x61707865, 0x3320646E, 0x79622D32, 0x6B206574] ++ leWords key ++ [c % 2 ^ 32] ++ leWords nonce
  (List.zipWith (fun a b => (a + b) % 2 ^ 32) w (chachaRounds 10 w)).flatMap (natLe 4)

/-- ChaCha20 from counter 1. -/
def chachaCrypt (key nonce data : List Nat) : List Nat := ctrMode (chachaBlock key nonce) 1 (blocksOf 64 data)

/-- Poly1305 over whole 16-byte blocks. -/
def poly1305 (key : List Nat) (msg : List Nat) : List Nat :=
  let r := beNat (key.take 16).reverse &&& 0x0FFFFFFC0FFFFFFC0FFFFFFC0FFFFFFF
  let s := beNat ((key.drop 16).take 16).reverse
  let p := 2 ^ 130 - 5
  natLe 16 (((blocksOf 16 msg).foldl (fun a b => (a + beNat b.reverse + 256 ^ b.length) * r % p) 0 + s) % 2 ^ 128)

/-- The tag of ChaCha20-Poly1305. -/
def chachaTag (key nonce aad ct : List Nat) : List Nat :=
  poly1305 ((chachaBlock key nonce 0).take 32) (pad16 aad ++ pad16 ct ++ natLe 8 aad.length ++ natLe 8 ct.length)

/-! ## The algorithms of R365 -/

/-- The data encrypted or decrypted under algorithm `alg`. -/
def aeadCrypt (alg : Nat) (key nonce data : List Nat) : List Nat :=
  if alg = 2 then chachaCrypt key nonce data else gcmCrypt (roundKeys key) nonce data

/-- The tag over additional data and ciphertext. -/
def aeadTag (alg : Nat) (key nonce aad ct : List Nat) : List Nat :=
  if alg = 2 then chachaTag key nonce aad ct else gcmTag (roundKeys key) nonce aad ct

end Sys2Proof.Machine
end

