-- ==== Sys2Proof/Machine/Flt.lean ====
section
/-! DEFINITION. Faults, storms and the event recorder (chapter 19): the treatment of a report, the ladder, blame and storms, rate limits, the
record format, the areas, the mirrors and the Device-fatal stop. -/

namespace Sys2Proof.Machine

/-! ## The record (R463) -/

/-- Bytes 0 to 55 of a record, with KEEP as given. -/
def recordBody (r : Record) (keep : Bool) : List Byte :=
  leBytes 12 (fullOf r.stamp.time) ++ leBytes 1 r.stamp.bound ++
  leBytes 1 (r.rep.sev + r.flags + (if keep then 0x10 else 0)) ++ leBytes 2 r.rep.code ++ leBytes 4 r.stamp.seq ++
  leBytes 2 r.stamp.domain ++ leBytes 2 r.rep.blame ++ leBytes 2 r.rep.reporter ++ leBytes 2 r.suppressed ++
  ((r.rep.detail ++ List.replicate 7 0).take 7).flatMap (leBytes 4)

/-- Bytes 0 to 59: the body and its CHECK. -/
def recordChecked (r : Record) (keep : Bool) : List Byte :=
  let b := recordBody r keep
  b ++ leBytes 4 (crc32c b)

/-- MARK with a lap. -/
def recordMark (lap : Nat) : List Byte := [0xC3, byte lap, 0, 0]

/-- A whole record. -/
def recordBytes (r : Record) (keep : Bool) (lap : Nat) : List Byte := recordChecked r keep ++ recordMark lap

/-- A reader accepts 64 bytes as a record of a lap (R464). -/
def recordValid (l : List Byte) (lap : Nat) : Bool :=
  (l.drop 60).take 2 == [0xC3, byte lap] && ofLe ((l.drop 56).take 4) == crc32c (l.take 56)

/-- Bytes into words. -/
def wordsOf : List Byte → List Nat
  | a :: b :: c :: d :: t => ofLe [a, b, c, d] :: wordsOf t
  | _ => []

/-- Words into an array of registers from `off` on. -/
def State.wrWords (s : State) (off : Nat) : List Nat → State
  | [] => s
  | w :: t => State.wrWords (s.wrN off w) (off + 4) t

/-! ## The ladder (R452 to R456) -/

/-- Level `l` is in service. -/
def State.inService (s : State) (l : Nat) : Bool := bitAt (s.gf F.FLT_STATUS_INSERV) l

/-- A level above `l` is in service. -/
def State.higherInService (s : State) (l : Nat) : Bool := decide (2 ^ (l + 1) ≤ s.gf F.FLT_STATUS_INSERV)

/-- SMB_ALERT_N goes low when a level at or above ALERTSEV is notified (R522). -/
def State.smbAlert (s : State) (l : Nat) : State :=
  if s.gf F.MGT_SMBCFG_ALERTSEV ≤ l then { s with mgt := { s.mgt with alertLow := true } }.emit (.pin "SMB_ALERT_N" false) else s

/-- Deliver a level's notification to Skylark, to the SMBus and, with MSIEN, to the CFGHOST PF0 (R455, R522). -/
def State.notify (s : State) (l : Nat) : State :=
  let s := s.smbAlert l
  let s1 := { s with flt := { s.flt with skylarkIrq := s.flt.skylarkIrq ++ [l], deferred := s.flt.deferred.filter (· ≠ l) } }
  if s.gb F.FLT_NOTIFY_MSIEN then s1.sendMsix s.cfgHost 0 (s.gf F.FLT_NOTIFY_VECTOR) else s1

/-- Notify a level, deferred while a higher one is in service (R455). -/
def State.notifyOrDefer (s : State) (l : Nat) : State :=
  if s.higherInService l then
    { s with flt := { s.flt with deferred := l :: s.flt.deferred.filter (· ≠ l) } }
  else s.notify l

/-- Deliver the deferred notifications that no higher level holds back any more, highest first (R455). -/
def State.notifyDeferred (s : State) : State :=
  [4, 3, 2, 1, 0].foldl (fun s l => if s.flt.deferred.contains l && !s.higherInService l then s.notify l else s) s

/-- FAULT_N follows DEVFATAL and the levels in service (R456); a change of its level goes out. -/
def State.faultPin (s : State) : State :=
  let low := s.devFatal || decide (2 ^ s.flt.pinsev ≤ s.gf F.FLT_STATUS_INSERV)
  if low = s.flt.faultLow then s else { s with flt := { s.flt with faultLow := low } }.emit (.pin "FAULT_N" (!low))

/-- The levels in service change, and PINSEV counts as it stands now (R456, R475). -/
def State.serve (s : State) (levels : Nat) : State :=
  let s := s.sf F.FLT_STATUS_INSERV levels
  { s with flt := { s.flt with pinsev := s.gf F.FLT_NOTIFY_PINSEV } }.faultPin

/-- Apply a report to the ladder of its severity (R453). -/
def State.ladder (s : State) (r : Record) : State :=
  let l := r.rep.sev
  let ws := wordsOf (recordBytes { r with suppressed := 0 } false 0)
  if !s.inService l then
    ((s.wrWords (R.FLT_FIRST l 0) ws).serve (s.gf F.FLT_STATUS_INSERV + 2 ^ l)).notifyOrDefer l
  else if !s.gb (F.FLT_LVLCTL_NEXTVALID l) then
    (s.wrWords (R.FLT_NEXT l 0) ws).sb (F.FLT_LVLCTL_NEXTVALID l) true
  else (s.satInc32 (R.FLT_LVLOVF l)).bump (R.FLT_CNT 5)

/-! ## Blame and storms (R457 to R461) -/

/-- The entry that declares a unit, if it is declared (R458). -/
def State.declaredAt (s : State) (u : Nat) : Option Nat :=
  (List.range 64).find? fun i => s.gb (F.FLT_FAULTED_VALID i) && s.gf (F.FLT_FAULTED_UNIT i) == u

/-- The lowest free entry. -/
def State.freeDecl (s : State) : Option Nat := (List.range 64).find? fun i => !s.gb (F.FLT_FAULTED_VALID i)

/-- The host function that a report's blame names, as detail word 6 carries it (R457); 0 where it names none. -/
def Report.fn (r : Report) : Nat := if r.blame / 256 ∈ [0x10, 0x11, 0x20] then r.detail.getD 6 0 else 0

/-- Declare a unit faulted (R458); `fn` is the host function it names, if it names one. -/
def State.declare (s : State) (u fn : Nat) : State :=
  match s.declaredAt u with
  | some _ => s
  | none =>
    match s.freeDecl with
    | some i =>
      (((s.sf (F.FLT_FAULTED_UNIT i) u).sb (F.FLT_FAULTED_VALID i) true).bump (R.FLT_CNT 3)).reportAs 0x0503 0 0x0500 u [0, 0, 0, 0, 0, 0, fn]
    | none => s.reportAs 0x0504 0 0x0500 u [0, 0, 0, 0, 0, 0, fn]

/-- A report blaming `u` counted in this window, in a table of 256 units that drops the least recently used (R458). -/
def countUnit (t : List (Nat × Nat)) (u : Nat) : List (Nat × Nat) :=
  let n := ((t.find? fun e => e.1 = u).map Prod.snd).getD 0
  ((u, n + 1) :: t.filter fun e => e.1 ≠ u).take 256

/-- The declaration rule of R458 applied to a report that has reached the ladder. -/
def State.declRule (s : State) (r : Report) : State :=
  let t := countUnit s.flt.counts r.blame
  let n := ((t.find? fun e => e.1 = r.blame).map Prod.snd).getD 0
  let s1 := { s with flt := { s.flt with counts := t } }
  let th := s.flt.thresh
  if 3 ≤ r.sev then s1.declare r.blame r.fn
  else if th ≠ 0 ∧ th < n ∧ ¬ s.flt.byCount.contains r.blame then
    { s1 with flt := { s1.flt with byCount := r.blame :: s1.flt.byCount } }.declare r.blame r.fn
  else s1

/-- A report that R459 folds, room in the fold table apart. -/
def State.folds (s : State) (r : Report) : Bool :=
  (s.declaredAt r.blame).isSome && r.reporter != r.blame && r.reporter / 256 != 0x05 && decide (r.sev < 4)

/-- The pair a report folds into exists. -/
def isPair (r : Report) (p : FoldPair) : Bool := p.code == r.code && p.unit == r.blame

/-- The fold table has a place for the report. -/
def State.foldRoom (s : State) (r : Report) : Bool := s.flt.folds.any (isPair r) || decide (s.flt.folds.length < 256)

/-- Fold a report (R459). -/
def State.fold (s : State) (r : Report) (st : Stamp) : State :=
  let fs := if s.flt.folds.any (isPair r) then
      s.flt.folds.map fun p => if isPair r p then { p with count := p.count + 1, sev := max p.sev r.sev } else p
    else s.flt.folds ++ [⟨r.code, r.blame, 1, r.sev, st, r.fn⟩]
  { s with flt := { s.flt with folds := fs } }.bump (R.FLT_CNT 1)

/-- A report blaming `u` found the fold table full: counted, and logged at most once per 1 ms (R459). -/
def State.foldFull (s : State) (u fn : Nat) : State :=
  let s1 := s.bump (R.FLT_CNT 4)
  match s.flt.foldFullAt with
  | some t => if s.now < t + 1000000 then s1
      else { s1 with flt := { s1.flt with foldFullAt := some s.now } }.reportAs 0x0504 0 0x0500 u [0, 0, 0, 0, 0, 0, fn]
  | none => { s1 with flt := { s1.flt with foldFullAt := some s.now } }.reportAs 0x0504 0 0x0500 u [0, 0, 0, 0, 0, 0, fn]

/-- The storm summary of a pair (R460). -/
def State.summary (s : State) (p : FoldPair) : State :=
  let f := fullOf p.first.time
  (s.bump (R.FLT_CNT 2)).reportAs 0x0502 p.sev 0x0500 p.unit
    [p.code + p.sev * 2 ^ 16, min p.count (2 ^ 32 - 1), f % 2 ^ 32, f / 2 ^ 32 % 2 ^ 32, f / 2 ^ 64, p.first.bound, p.fn]

/-- End a declaration: its pairs are issued as summaries and its entry becomes free (R461). -/
def State.undeclare (s : State) (i : Nat) : State :=
  let u := s.gf (F.FLT_FAULTED_UNIT i)
  if s.gb (F.FLT_FAULTED_VALID i) then
    let s1 := (s.flt.folds.filter fun p => p.unit = u).foldl State.summary s
    ({ s1 with flt := { s1.flt with folds := s1.flt.folds.filter fun p => p.unit ≠ u } }.sb (F.FLT_FAULTED_VALID i) false).sf
      (F.FLT_FAULTED_UNIT i) 0
  else s

/-! ## Rate limits (R462) -/

/-- RATE and BURST of a code: the lowest override that names it, else its block's. BURST 0 is taken as 1. -/
def State.rateOf (s : State) (code : Nat) : Nat × Nat :=
  match (List.range 64).find? fun i => s.gb (F.EVR_RLCODE_VALID i) && s.gf (F.EVR_RLCODE_CODE i) == code with
  | some i => (s.gf (F.EVR_RLCODE1_RATE i), max 1 (s.gf (F.EVR_RLCODE1_BURST i)))
  | none => (s.gf (F.EVR_RL_RATE (code / 256)), max 1 (s.gf (F.EVR_RL_BURST (code / 256))))

/-- Records never suppressed: Device-fatal, boot, carry and traceability. -/
def neverSuppressed (r : Report) : Bool := r.sev == 4 || r.code == 0x0401 || r.code == 0x0406 || r.code == 0x0402

/-- The bucket of a code after its refill, as what is missing from a full one in 10^-9 token. -/
def State.bucket (s : State) (code : Nat) : BucketSt :=
  let b := tabGet (fun _ => {}) s.evr.buckets code
  { b with used := b.used - (s.rateOf code).1 * (s.now - b.since), since := s.now }

/-- Apply the rate limit and hand the report to EVR or suppress it (R451 step 4, R462). -/
def State.rateLimit (s : State) (r : Record) : State :=
  let b := s.bucket r.rep.code
  let (rate, burst) := s.rateOf r.rep.code
  let free := neverSuppressed r.rep || rate == 0
  let put (b : BucketSt) (s : State) : State := { s with evr := { s.evr with buckets := tabSet (fun _ => {}) s.evr.buckets r.rep.code b } }
  if free ∨ b.used + 1000000000 ≤ burst * 1000000000 then
    let s1 := put { b with used := if free then b.used else b.used + 1000000000, suppressed := 0 } s
    { s1 with evr := { s1.evr with fltIn := s1.evr.fltIn ++ [({ r with suppressed := b.suppressed }, s.now)] } }
  else (put { b with suppressed := min 65535 (b.suppressed + 1) } s).bump (R.EVR_CNT 1)

/-! ## A report (R450, R451, R472) -/

/-- The Device-fatal stop: DEVFATAL is set, and a report that blames TKU moves TKU to FREERUN (R472). -/
def State.deviceFatal (s : State) (r : Report) : State :=
  let s1 := (s.sb F.FLT_STATUS_DEVFATAL true).faultPin
  if r.blame / 256 = 0x03 then s1.untrace else s1

/-- A report that is not folded: ladder, declaration, Device-fatal stop, rate limit (R451). -/
def State.applyReport (s : State) (r : Report) (st : Stamp) : State :=
  let rec0 : Record := ⟨r, st, (if r.code = 0x0502 then 8 else 0), 0⟩
  let s1 := (s.ladder rec0).declRule r
  let s2 := if r.sev = 4 then s1.deviceFatal r else s1
  s2.rateLimit rec0

/-- The oldest report reaches FLT and is treated in the order of R451. -/
def State.takeReport (s : State) (r : Report) (rest : List Report) : State :=
  let (st, s1) := ({ s with flt := { s.flt with arriving := rest } }.bump (R.FLT_CNT 0)).stamp islAON 0x0500
  if s1.folds r then
    (if s1.foldRoom r then s1.fold r st else (s1.foldFull r.blame r.fn).applyReport r st)
  else s1.applyReport r st

/-- REPORT (R451). -/
def execReport (s : State) : Outcome :=
  .next (match s.flt.arriving with
    | r :: rest => s.takeReport r rest
    | [] => s)

/-- LADDER_DONE (R454): a write of DONE with a token. -/
def State.ladderDone (s : State) (l token : Nat) : State :=
  let s0 := s.sf (F.FLT_LVLCTL_TOKEN l) token
  if s.inService l ∧ s.rdN (R.FLT_FIRST l 4) % 2 ^ 16 = token then
    if s.gb (F.FLT_LVLCTL_NEXTVALID l) then
      let ws := (List.range 16).map fun w => s.rdN (R.FLT_NEXT l w)
      ((((s0.wrWords (R.FLT_FIRST l 0) ws).wrWords (R.FLT_NEXT l 0) (List.replicate 16 0))).sb (F.FLT_LVLCTL_NEXTVALID l) false).notifyOrDefer l
    else (s0.serve (s.gf F.FLT_STATUS_INSERV - 2 ^ l)).notifyDeferred
  else s0.sb (F.FLT_LVLCTL_ERR l) true

def execLadderDone (m : Master) (level : Fin 5) (token : BitVec 16) (s : State) : Outcome :=
  .next (s.asWriter m (R.FLT_LVLCTL level.val) fun s => s.ladderDone level.val token.toNat)

/-- The end of a storm window: one summary for each pair, and the counts start anew (R458, R460). -/
def State.windowEnd (s : State) : State :=
  let s1 := s.flt.folds.foldl State.summary s
  { s1 with flt := { s1.flt with folds := [], counts := [], byCount := [], windowEnd := s.flt.windowEnd + 1000000, thresh := s.gf F.FLT_STORM_THRESH } }

/-- STORM_WINDOW_END (R460): due at the end of each fixed window. -/
def State.windowDue (s : State) : Bool := decide (s.flt.windowEnd ≤ s.now)

def execStormWindowEnd (s : State) : Outcome := .next (if s.windowDue then s.windowEnd else s)

/-- DECLARATION_CLEAR (R461). -/
def execDeclarationClear (m : Master) (i : Fin 64) (s : State) : Outcome :=
  .next (s.asWriter m (R.FLT_FAULTED i.val) fun s => s.undeclare i.val)

/-! ## The areas (R466 to R471) -/

/-- Where a stream's head ends at the latest: the smallest upper edge of it and every later record of the stream, none for no bound. -/
def effUpper : List (Record × Nat) → Option Nat
  | [] => none
  | (r, _) :: t =>
    let own := if r.stamp.bound = 0xFF then none else some (r.stamp.time + 256 * boundUnits r.stamp.bound)
    match own, effUpper t with
    | some a, some b => some (min a b)
    | some a, none => some a
    | none, b => b

/-- The lower edge of a stamp. -/
def lowerEdge (st : Stamp) : Nat := if st.bound = 0xFF then 0 else st.time - 256 * boundUnits st.bound

/-- Whether the FLT stream's head goes first, both streams holding a record (R466): smaller effective upper edge, then smaller lower edge,
then lower domain, which is TKU's. -/
def fltFirst (a b : List (Record × Nat)) (ra rb : Record) : Bool :=
  match effUpper a, effUpper b with
  | some x, some y => decide (x < y) || (decide (x = y) && decide (lowerEdge ra.stamp < lowerEdge rb.stamp))
  | some _, none => true
  | none, some _ => false
  | none, none => decide (lowerEdge ra.stamp < lowerEdge rb.stamp)

/-- Where the keep area begins in flash (R468). -/
def keepBase : Nat := 0x3C00000

/-- The circulating area's base and size. -/
def State.circBase (s : State) : Nat := s.rd64 R.EVR_CIRCBASE
def State.circLog2 (s : State) : Nat := s.gf F.EVR_CIRCLOG2_LOG2N

/-- Write a record to the circulating area (R464, R467). -/
def State.circWrite (s : State) (r : Record) (keep : Bool) : State :=
  if s.gb F.EVR_CFG_CIRCEN then
    let k := s.rdN R.EVR_CIRCPI
    let a := s.circBase + 64 * (k % 2 ^ s.circLog2)
    let lap := k / 2 ^ s.circLog2 % 256
    ((s.hbmWrite a (recordChecked r keep)).hbmWrite (a + 60) (recordMark lap)).wrN R.EVR_CIRCPI (k + 1)
  else s

/-- A record belongs in the keep area (R468). -/
def State.keeps (s : State) (r : Record) : Bool :=
  r.rep.code == 0x0401 || r.rep.code == 0x0406 || r.rep.code == 0x0402 || decide (s.gf F.EVR_CFG_KEEPSEV ≤ r.rep.sev)

/-- The sector the next keep record falls in may be used (R469): it does not begin a sector, or every record there is acknowledged. -/
def State.keepSectorFree (s : State) : Bool :=
  let k := s.rdN R.EVR_KEEPSTAT
  k % 1024 != 0 || decide (k < 65536) || decide (k - 65536 + 1023 < s.rdN R.EVR_KEEPACK)

/-- Once per 1 ms. -/
def State.everyMs (s : State) (t : Option Nat) : Bool :=
  match t with
  | some t => decide (t + 1000000 ≤ s.now)
  | none => true

/-- Stage a keep record, or count and log why it is not kept (R468, R469). The answer says whether it was staged. -/
def State.stage (s : State) (r : Record) : Bool × State :=
  if 64 ≤ s.evr.staging.length then
    let s1 := s.bump (R.EVR_CNT 3)
    (false, if s.everyMs s.evr.keepMissAt then { s1 with evr := { s1.evr with keepMissAt := some s.now } }.report 0x0404 0 0 [] else s1)
  else if !s.keepSectorFree then
    let s1 := s.bump (R.EVR_CNT 4)
    (false, if s.evr.keepFullLogged then s1 else { s1 with evr := { s1.evr with keepFullLogged := true } }.report 0x0403 2 0 [])
  else
    let k := s.rdN R.EVR_KEEPSTAT
    (true, { s with evr := { s.evr with staging := s.evr.staging ++ [(k, r)] } }.wrN R.EVR_KEEPSTAT (k + 1))

/-- A mirror's state. -/
def State.mirror (s : State) (p : Nat) : MirrorSt := tabGet (fun _ => {}) s.evr.mirrors p
def State.setMirror (s : State) (p : Nat) (f : MirrorSt → MirrorSt) : State :=
  { s with evr := { s.evr with mirrors := tabMod (fun _ => {}) s.evr.mirrors p f } }

/-- The mirror's function, ring size and base. -/
def State.mirrorFn (s : State) (p : Nat) : Nat := s.gf (F.EVR_MIRROR_FN p)
def State.mirrorLog2 (s : State) (p : Nat) : Nat := s.gf (F.EVR_MIRROR_LOG2N p)
def State.mirrorBase (s : State) (p : Nat) : Nat := s.rd64 (R.EVR_MIRRORBASE p)

/-- The ring is full by the CI last read (R303, R470). -/
def State.mirrorIsFull (s : State) (p : Nat) : Bool :=
  let m := s.mirror p
  let n := 2 ^ (s.mirrorLog2 p + 1)
  (m.count % n + n - m.ci % n) % n == 2 ^ s.mirrorLog2 p

/-- Write a record into a mirror, then PI (R464, R470). -/
def State.mirrorPut (s : State) (p : Nat) (r : Record) : State :=
  let m := s.mirror p
  let lg := s.mirrorLog2 p
  let a := s.mirrorBase p + 64 + 64 * (m.count % 2 ^ lg)
  let s1 := (s.hostWrite p (s.mirrorFn p) a (recordChecked r (s.keeps r))).hostWrite p (s.mirrorFn p) (a + 60) (recordMark (m.count / 2 ^ lg))
  ((s1.setMirror p fun m => { m with count := m.count + 1, full := false }).hostWrite p (s.mirrorFn p) (s.mirrorBase p)
    (leBytes 4 ((m.count + 1) % 2 ^ (lg + 1)))).bump (R.EVR_CNT 5)

/-- A record that finds the ring full after the re-read is lost to the mirror (R470). -/
def State.mirrorLose (s : State) (p : Nat) : State :=
  let m := s.mirror p
  let s1 := (s.setMirror p fun m => { m with lost := min (2 ^ 32 - 1) (m.lost + 1), full := true }).bump (R.EVR_CNT 6)
  let s2 := (s1.hostWrite p (s.mirrorFn p) (s.mirrorBase p + 4) (leBytes 4 1)).hostWrite p (s.mirrorFn p) (s.mirrorBase p + 12)
    (leBytes 4 (min (2 ^ 32 - 1) (m.lost + 1)))
  if m.full ∨ s.gf (F.EVR_MIRROR_VECTOR p) = 0x3FF then s2 else s2.sendMsix p (s.mirrorFn p) (s.gf (F.EVR_MIRROR_VECTOR p))

/-- Mirror a record (R470): behind records that wait, or when the ring looks full, it waits for a re-read of CI. -/
def State.mirrorOne (s : State) (p : Nat) (r : Record) : State :=
  if s.gb (F.EVR_MIRROR_EN p) ∧ s.gf F.EVR_CFG_MIRRORSEV ≤ r.rep.sev then
    if (s.mirror p).wait ≠ [] then s.setMirror p fun m => { m with wait := m.wait ++ [r] }
    else if s.mirrorIsFull p then
      (s.setMirror p fun m => { m with wait := [r] }).emit (.hostRead p (s.mirrorFn p) 0 (s.mirrorBase p + 8) 4)
    else s.mirrorPut p r
  else s

/-- Write a record everywhere it goes (R451 step 5), counting it. -/
def State.writeRecord (s : State) (r : Record) : State :=
  let (kept, s1) := if s.keeps r then s.stage r else (false, s)
  (((s1.circWrite r kept).mirrorOne 0 r).mirrorOne 1 r).bump (R.EVR_CNT 0)

/-- The record to write next, and the streams after it (R466): of two heads the one whose effective upper edge is smaller; a lone head once it
has waited 4 us. -/
def State.nextRecord (s : State) : Option (Record × State) :=
  match s.evr.fltIn, s.evr.tkuIn with
  | (a, _) :: ta, (b, _) :: tb =>
    if fltFirst s.evr.fltIn s.evr.tkuIn a b then some (a, { s with evr := { s.evr with fltIn := ta } })
    else some (b, { s with evr := { s.evr with tkuIn := tb } })
  | (a, t) :: ta, [] => if t + 4000 ≤ s.now then some (a, { s with evr := { s.evr with fltIn := ta } }) else none
  | [], (b, t) :: tb => if t + 4000 ≤ s.now then some (b, { s with evr := { s.evr with tkuIn := tb } }) else none
  | [], [] => none

/-- RECORD_WRITE (R466, R467): not before the boot record, which is EVR's first (R465, R506). -/
def execRecordWrite (s : State) : Outcome :=
  .next (s.inBlock 0x04 islSYS fun s => match s.rst.bootRec, s.nextRecord with
    | none, some (r, s') => s'.writeRecord r
    | _, _ => s)

/-- The waiting records of a mirror, written while the ring has room and lost where it has none, up to the next that needs a re-read. -/
def State.mirrorDrain (s : State) (p : Nat) : List Record → State
  | [] => s
  | r :: t => if s.mirrorIsFull p then
      (s.setMirror p fun m => { m with wait := r :: t }).emit (.hostRead p (s.mirrorFn p) 0 (s.mirrorBase p + 8) 4)
    else State.mirrorDrain (s.mirrorPut p r) p t

/-- A re-read of CI returned, or failed (R303, R470): the first waiting record is mirrored, or lost if the ring is still full. -/
def State.mirrorReread (s : State) (p : Nat) (ci : Option Word) : State :=
  match (s.mirror p).wait with
  | [] => s
  | r :: t =>
    let s1 := s.setMirror p fun m => { m with ci := (ci.map BitVec.toNat).getD m.ci, wait := [] }
    let s2 := if s1.mirrorIsFull p then s1.mirrorLose p else s1.mirrorPut p r
    s2.mirrorDrain p t

/-- MIRROR_CI_REREAD (R470): `ci` is none where the read failed. -/
def execMirrorCiReread (p : Fin 2) (ci : Option Word) (s : State) : Outcome := .next (s.inBlock 0x04 islSYS fun s => s.mirrorReread p.val ci)

/-- The next sector round the keep area holds the newest boot or carry record (R469). -/
def State.carryDue (s : State) (k : Nat) : Option (List Nat) :=
  match s.evr.bootRec with
  | some (b, d) => if (k / 1024 + 1) % 64 = b / 1024 % 64 ∧ b / 1024 ≠ k / 1024 then some d else none
  | none => none

/-- DETAIL of a carry record: the boot record's, with CARRY set in word 3 (R469). -/
def carryDetail (d : List Nat) : List Nat := d.take 3 ++ [(d.getD 3 0) ||| 4] ++ d.drop 4

/-- Program a staged record (R468, R469): a record that begins a sector erases it first, and may call for a carry record; a flash failure is logged. -/
def State.program (s : State) (k : Nat) (r : Record) (rest : List (Nat × Record)) (ok : Bool) : State :=
  let s0 := { s with evr := { s.evr with staging := rest } }
  if ok then
    let a := keepBase + 64 * (k % 65536)
    let s1 := if k % 1024 = 0 then s0.flashErase a 65536 else s0
    let s2 := (s1.flashWrite a (recordChecked r true)).flashWrite (a + 60) (recordMark (k / 65536))
    let s3 := if r.rep.code = 0x0401 ∨ r.rep.code = 0x0406 then { s2 with evr := { s2.evr with bootRec := some (k, r.rep.detail) } } else s2
    let s4 := if k % 1024 = 0 then
        match s3.carryDue k with
        | some d => s3.report 0x0406 0 0 (carryDetail d)
        | none => s3
      else s3
    s4.bump (R.EVR_CNT 2)
  else s0.report 0x0405 2 0 []

/-- KEEP_PROGRAM (R468): the oldest staged record is programmed; `ok` says whether the flash took it. Nothing is programmed once PORN has fallen (R547). -/
def execKeepProgram (ok : Bool) (s : State) : Outcome :=
  .next (s.inBlock 0x04 islSYS fun s => match s.evr.staging, s.cfs.held with
    | (k, r) :: rest, false => s.program k r rest ok
    | _, _ => s)

/-- KEEPACK (R469): beyond the next number it is stored as that number, and a smaller value is ignored. -/
def State.keepAck (s : State) (v : Nat) : State :=
  if v < s.rdN R.EVR_KEEPACK then s
  else { s with evr := { s.evr with keepFullLogged := false } }.wrN R.EVR_KEEPACK (min v (s.rdN R.EVR_KEEPSTAT))

def execKeepack (m : Master) (v : Word) (s : State) : Outcome := .next (s.asWriter m R.EVR_KEEPACK fun s => s.keepAck v.toNat)

/-- Bytes and lap of record number `n` in an area, and whether the number is one the area can still hold (R471). -/
def State.recordAt (s : State) (area n : Nat) : Bool × List Byte × Nat :=
  if area = 0 then
    let pi := s.rdN R.EVR_CIRCPI
    let sz := 2 ^ s.circLog2
    (decide (n < pi) && decide (pi ≤ n + sz), s.hbmRead (s.circBase + 64 * (n % sz)) 64, n / sz % 256)
  else
    let pi := s.rdN R.EVR_KEEPSTAT
    (decide (n < pi) && decide (pi ≤ n + 65536) && !(s.evr.staging.any fun e => e.1 == n),
     s.flashRead (keepBase + 64 * (n % 65536)) 64, n / 65536 % 256)

/-- EVR_RCMD with GO (R471). -/
def State.recordRead (s : State) (area : Nat) : State :=
  let s0 := s.sf F.EVR_RCMD_AREA area
  if 2 ≤ area then s0.sf F.EVR_RCMD_STATUS 3
  else
    let (has, l, lap) := s.recordAt area (s.rdN R.EVR_RINDEX)
    if !has then s0.sf F.EVR_RCMD_STATUS 1
    else if !recordValid l lap then s0.sf F.EVR_RCMD_STATUS 2
    else (s0.wrWords (R.EVR_RDATA 0) (wordsOf l)).sf F.EVR_RCMD_STATUS 0

/-- RECORD_READ (R471): a write of AREA and GO = 1. -/
def execRecordRead (m : Master) (area : BitVec 2) (s : State) : Outcome :=
  .next (s.asWriter m R.EVR_RCMD fun s => s.recordRead area.toNat)

/-- The age meter as a boot record carries it (R557): the hours of both tallies, and LIFE and FULL. -/
def State.ageWords (s : State) : List Nat :=
  let e := s.fuse.tallyE * 32
  [s.fuse.tallyP * 32, e, b2n (decide (219150 ≤ e)) + 2 * b2n (decide (8192 ≤ s.fuse.tallyP) || decide (8192 ≤ s.fuse.tallyE))]

/-- The stamp of a boot record (R465): the one in force, with the current sequence of domain 0x0500. -/
def State.bootStamp (s : State) : Stamp := ⟨s.counter islAON / 256 * 256, s.islandBound islAON, 0x0500, s.seqOf 0x0500⟩

/-- EVR writes the boot record (R465, R493, R506, R557). -/
def State.bootRecord (s : State) (st : Stamp) (warm noHist : Bool) (slot : Nat) : State :=
  let d := [s.rdN R.TOP_SERIAL, s.rdN (R.TOP_SERIAL + 4), s.rst.count,
    b2n warm + 2 * b2n noHist + 16 * s.gf F.RST_STATE_CAUSE + 256 * slot] ++ s.ageWords
  s.writeRecord ⟨⟨0x0401, 0, 0x0400, 0x0400, d⟩, st, 0, 0⟩

end Sys2Proof.Machine
end

