-- ==== Sys2Proof/Machine/Mac.lean ====
section
/-! DEFINITION. The network MACs (chapter 04): port placement, link, receive, the receive buffer and flow control, and statistics. -/

namespace Sys2Proof.Machine

/-! ## Placement (R86, R87) and pipelines (R17) -/

/-- A MAC's state. -/
def State.mac (s : State) (n : Nat) : MacSt := tabGet (fun _ => {}) s.macs n
def State.setMac (s : State) (n : Nat) (f : MacSt → MacSt) : State := { s with macs := tabMod (fun _ => {}) s.macs n f }

/-- A port's rate in Gb/s under its quad's mode; 0 for an absent MAC (R86). -/
def rateIn (mode n : Nat) : Nat :=
  match mode with
  | 1 => if n % 4 = 0 then 800 else 0
  | 2 => if n % 2 = 0 then 400 else 0
  | 3 => 200
  | 4 => 100
  | 5 => if n % 8 = 0 then 1600 else 0
  | _ => 0

def State.quadMode (s : State) (q : Nat) : Nat := s.gf (F.MAC_QUADMODE_MODE q)
def State.portRate (s : State) (n : Nat) : Nat := rateIn (s.quadMode (n / 4)) n

/-- A port's share of receive buffer in 256-byte units under a mode. -/
def sizeIn (mode n : Nat) : Nat :=
  match mode with
  | 1 => if n % 4 = 0 then 4096 else 0
  | 2 => if n % 2 = 0 then 2048 else 0
  | 3 => 1024
  | 4 => 1024
  | 5 => if n % 8 = 0 then 8192 else 0
  | _ => 0

/-- Every port of a quad has STOPPED = 1. -/
def State.quadStopped (s : State) (q : Nat) : Bool := (List.range 4).all fun k => s.gb (F.MAC_STATUS_STOPPED (4 * q + k))

/-- TKU_CALRX and TKU_CALTX of a port: the eFuse values for a mode, with the board's delay added (R74). -/
def State.loadCal (s : State) (n mode : Nat) : State :=
  let z : Nat → Nat := fun _ => 0
  (s.wrN (R.TKU_CALRX n) (tabGet z s.fuse.calrx (8 * n + mode) + tabGet z s.mgt.board (2 * n + 1))).wrN (R.TKU_CALTX n)
    (tabGet z s.fuse.caltx (8 * n + mode) + tabGet z s.mgt.board (2 * n))

/-- Set a quad's mode: the ports' SIZE follows, and LOSSY_LIMIT with it where SIZE changes; TKU_CALRX and TKU_CALTX take the eFuse values of
the new mode and the board's delay again (R74). -/
def State.setMode (s : State) (q mode : Nat) : State :=
  (List.range 4).foldl (fun s k =>
    let n := 4 * q + k
    let z := sizeIn mode n
    let s1 := if z = s.gf (F.MAC_RXBUF_SIZE n) then s else (s.sf (F.MAC_RXBUF_SIZE n) z).sf (F.MAC_RXBUF_LOSSY_LIMIT n) z
    s1.loadCal n mode)
    (s.sf (F.MAC_QUADMODE_MODE q) mode)

/-- The quad's mode is the second half of a MODE 5 pair. -/
def State.takenQuad (s : State) (q : Nat) : Bool := q % 2 == 1 && s.quadMode q == 5

/-- A write of MODE (R86, R87, R8). -/
def State.writeMode (s : State) (m : Master) (q mode : Nat) : State :=
  let off := R.MAC_QUADMODE q
  if 6 ≤ mode ∨ (mode = 5 ∧ q % 2 = 1) ∨ s.takenQuad q then s.cfgViol m off
  else if mode = s.quadMode q then s
  else if mode = 5 then
    if s.quadStopped q ∧ s.quadStopped (q + 1) then (s.setMode q 5).setMode (q + 1) 5 else s.cfgViol m off
  else if s.quadMode q = 5 then
    if s.quadStopped q ∧ s.quadStopped (q + 1) then (s.setMode q mode).setMode (q + 1) 0 else s.cfgViol m off
  else if s.quadStopped q then s.setMode q mode
  else s.cfgViol m off

/-- QUADMODE_WRITE (R87). -/
def execQuadmodeWrite (m : Master) (q : Fin 4) (mode : BitVec 3) (s : State) : Outcome :=
  .next (s.asWriter m (R.MAC_QUADMODE q.val) fun s => s.writeMode m q.val mode.toNat)

/-- The pipelines that serve a port (R17), from the field taken at its enable. -/
def State.portPipes (s : State) (n : Nat) : List Nat :=
  let f := (s.mac n).pipe
  match s.portRate n with
  | 1600 => [0, 1, 2, 3]
  | 800 => [f / 2 * 2, f / 2 * 2 + 1]
  | _ => [f]

/-! ## Statistics (R106, R107) -/

/-- Count `by` in counter `k` of port `n`; a change of bit 47 sets the half-range bit and logs MAC_CNT_HALF (R107). -/
def State.macCount (s : State) (n k by_ : Nat) : State :=
  let old := s.rd64 (R.MAC_CNT n k)
  let s1 := s.bumpBy (R.MAC_CNT n k) by_
  if old / 2 ^ 47 ≠ (old + by_) % 2 ^ 48 / 2 ^ 47 then
    (s1.sf ⟨R.MAC_CNTHALF n (k / 32), k % 32, 1⟩ 1).report 0x6020 0 n []
  else s1

/-- The size bin of a length (R106). -/
def sizeBin (len : Nat) : Nat :=
  if len ≤ 64 then 0 else if len ≤ 127 then 1 else if len ≤ 255 then 2 else if len ≤ 511 then 3 else if len ≤ 1023 then 4
  else if len ≤ 1518 then 5 else if len ≤ 2047 then 6 else if len ≤ 4095 then 7 else if len ≤ 9216 then 8 else 9

/-- 0 for a unicast destination, 1 for multicast, 2 for broadcast. -/
def castOf (f : List Byte) : Nat := if beAt f 0 6 = 2 ^ 48 - 1 then 2 else byteAt f 0 % 2

/-! ## Link (R89, R91, R95, R97, R98) -/

/-- PORT_START (R98, R86, R21): an absent MAC refuses the write; the pipeline field is taken at the enable. -/
def State.portStart (s : State) (m : Master) (n : Nat) : State :=
  if s.portRate n = 0 then s.cfgViol m (R.MAC_PORTCFG n)
  else ((s.sb (F.MAC_PORTCFG_EN n) true).sb (F.MAC_STATUS_STOPPED n) false).setMac n
    fun c => { c with pipe := bitsOf (s.rdN R.TOP_PIPEMAP) (2 * n) 2, stopAt := none }

def execPortStart (m : Master) (n : Fin 16) (s : State) : Outcome :=
  .next (s.asWriter m (R.MAC_PORTCFG n.val) fun s => s.portStart m n.val)

/-- PORT_STOPPED (R98): the port told to stop sets STOPPED and clears LINK without MAC_LINK_DOWN; for a PTP source it is a lost link (R59). -/
def State.stopDue (s : State) (n : Nat) : Bool := (s.mac n).stopAt.isSome && !s.gb (F.MAC_STATUS_STOPPED n)

def State.portStopped (s : State) (n : Nat) : State :=
  (((s.sb (F.MAC_STATUS_STOPPED n) true).sb (F.MAC_STATUS_LINK n) false).setMac n fun c => { c with stopAt := none }).ptpLinkLost n

def execPortStopped (n : Fin 16) (s : State) : Outcome := .next (s.inBlock 0x60 (islNQ (n.val / 4)) fun s => if s.stopDue n.val then s.portStopped n.val else s)

/-- A port can bring its link up: placed, enabled, not stopping, the data path not stopped, and its quad's PLL not out of lock (R483). -/
def State.canLink (s : State) (n : Nat) : Bool :=
  s.portRate n != 0 && s.gb (F.MAC_PORTCFG_EN n) && !s.gb (F.MAC_STATUS_STOPPED n) && !s.devFatal && s.pllGood (5 + n / 4)

/-- MAC_LINK_UP (R91): lock has held 10 ms on all lanes. The held frames then leave in order by FRAME_TRANSMIT (R97). -/
def execMacLinkUp (n : Fin 16) (s : State) : Outcome :=
  .next (s.inBlock 0x60 (islNQ (n.val / 4)) fun s => if s.canLink n.val ∧ ¬ s.gb (F.MAC_STATUS_LINK n.val) then
      ((s.sb (F.MAC_STATUS_LINK n.val) true).sb (F.MAC_STATUS_ANDONE n.val) (s.gb (F.MAC_PORTCFG_AN n.val))).report 0x6001 0 n.val []
    else s)

/-- MAC_LINK_DOWN (R91, R95, R59): the frame being received, if any, is dropped and counted; stored frames and the transmit buffer stay. -/
def State.linkDown (s : State) (n : Nat) (receiving : Bool) : State :=
  let s1 := ((s.sb (F.MAC_STATUS_LINK n) false).sb (F.MAC_STATUS_ANDONE n) false).report 0x6002 2 n []
  let s2 := if receiving then ((s1.stamp (portIsland n) (0x6000 + n)).2).macCount n 13 1 else s1
  s2.ptpLinkLost n

def execMacLinkDown (n : Fin 16) (receiving : Bool) (s : State) : Outcome :=
  .next (s.inBlock 0x60 (islNQ (n.val / 4)) fun s => if s.gb (F.MAC_STATUS_LINK n.val) then s.linkDown n.val receiving else s)

/-- MAC_AN_FAIL (R89): one negotiation attempt of a port with AN = 1 failed. -/
def execMacAnFail (n : Fin 16) (s : State) : Outcome :=
  .next (s.inBlock 0x60 (islNQ (n.val / 4)) fun s => if s.canLink n.val ∧ s.gb (F.MAC_PORTCFG_AN n.val) ∧ ¬ s.gb (F.MAC_STATUS_LINK n.val) then s.report 0x6003 0 n.val [] else s)

/-! ## Receive buffer (R99, R100) -/

/-- What a stored frame occupies: its length with FCS. -/
def pktLen (p : Pkt) : Nat := p.bytes.length + 4

/-- Total occupancy, and one priority's, in bytes. -/
def State.occ (s : State) (n : Nat) : Nat := ((s.mac n).rxBuf.map pktLen).sum
def State.occOf (s : State) (n pr : Nat) : Nat := (((s.mac n).rxBuf.filter fun p => p.prio = pr).map pktLen).sum

/-- A priority is protected (R99). -/
def State.protected_ (s : State) (n pr : Nat) : Bool :=
  s.gf (F.MAC_FCCFG_MODE n) == 1 || (s.gf (F.MAC_FCCFG_MODE n) == 2 && bitAt (s.gf (F.MAC_FCCFG_PFCEN n)) pr)

/-- The MAC admits a frame of `len` bytes (R99). -/
def State.admits (s : State) (n pr len : Nat) : Bool :=
  let lim := if s.protected_ n pr || s.gf (F.MAC_FCCFG_MODE n) == 0 then s.gf (F.MAC_RXBUF_SIZE n) else s.gf (F.MAC_RXBUF_LOSSY_LIMIT n)
  decide (s.occ n + len ≤ 256 * lim)

/-- Whether pause bit `b` is to be asserted, given that it is or is not now (R100). Bit 0 stands for the link under MODE 1. -/
def State.wantsPause (s : State) (n b : Nat) (now_ : Bool) : Bool :=
  let lossy := 256 * s.gf (F.MAC_RXBUF_LOSSY_LIMIT n)
  let xoff := 256 * s.gf (F.MAC_XTHR_XOFF n b)
  let xon := 256 * s.gf (F.MAC_XTHR_XON n b)
  match s.gf (F.MAC_FCCFG_MODE n) with
  | 1 => b == 0 && (if decide (lossy ≤ s.occ n) then true else if decide (s.occ n ≤ xon) then false else now_)
  | 2 => s.protected_ n b &&
      (if decide (xoff ≤ s.occOf n b) || decide (lossy ≤ s.occ n) then true
       else if decide (s.occOf n b ≤ xon) && decide (s.occ n < lossy) then false else now_)
  | _ => false

/-- Decide pause after an occupancy change (R100): TXPAUSED follows, and every bit that changed waits for its pause frame. -/
def State.decidePause (s : State) (n : Nat) : State :=
  (List.range 8).foldl (fun s b =>
    let f : Fld := ⟨R.MAC_STATUS n, 16 + b, 1⟩
    let w := s.wantsPause n b (s.gb f)
    if w = s.gb f then s
    else (s.sb f w).setMac n fun c => { c with toSend := c.toSend.filter (· ≠ b) ++ [b] }) s

/-! ## Receive (R92 to R95, R104) -/

/-- One byte of the Ethernet FCS, polynomial 0xEDB88320 reflected. -/
def fcsBits : Nat → Nat → Nat
  | 0, c => c
  | k + 1, c => fcsBits k (if c % 2 = 1 then (c / 2) ^^^ 0xEDB88320 else c / 2)

def fcsStep (c : Nat) : List Byte → Nat
  | [] => c
  | b :: t => fcsStep (fcsBits 8 (c ^^^ b.toNat)) t

/-- The FCS of a frame without one. -/
def fcsOf (l : List Byte) : Nat := fcsStep 0xFFFFFFFF l ^^^ 0xFFFFFFFF

/-- A frame's last four bytes are its FCS. -/
def fcsOk (f : List Byte) : Bool := ofLe (f.drop (f.length - 4)) == fcsOf (f.take (f.length - 4))

/-- The flow-control priority of a received frame (R94). -/
def State.rxPrio (s : State) (n : Nat) (f : List Byte) : Nat :=
  if beAt f 12 2 = 0x8100 ∨ beAt f 12 2 = 0x88A8 then byteAt f 14 / 32 else s.gf (F.MAC_FCCFG_DEFPRI n)

/-- A MAC control frame that R102 recognises. -/
def State.pauseRecognised (s : State) (n : Nat) (f : List Byte) : Bool :=
  (beAt f 0 6 == 0x0180C2000001 || beAt f 0 6 == s.rd64 (R.MAC_ADDR n)) && f.length == 64 &&
    ((s.gf (F.MAC_FCCFG_MODE n) == 1 && beAt f 14 2 == 1) || (s.gf (F.MAC_FCCFG_MODE n) == 2 && beAt f 14 2 == 0x0101))

/-- A hold of the link (8) or of a priority. -/
def State.hold (s : State) (n k : Nat) : HoldSt := tabGet (fun _ => {}) (s.mac n).holds k
def State.setHold (s : State) (n k : Nat) (h : HoldSt) : State :=
  s.setMac n fun c => { c with holds := tabSet (fun _ => {}) c.holds k h }

/-- The status bit of a hold. -/
def holdBit (n k : Nat) : Fld := if k = 8 then F.MAC_STATUS_LINKHOLD n else ⟨R.MAC_STATUS n, 4 + k, 1⟩

/-- The length of `q` pause quanta in ns, rounded up: a quantum is 512 bit times (R102). -/
def quantaNs (rate q : Nat) : Nat := (q * 512 + rate - 1) / rate

/-- End a hold; a link hold's ns are counted in TX_HOLD_NS. -/
def State.endHold (s : State) (n k : Nat) : State :=
  let h := s.hold n k
  match h.until_ with
  | none => s
  | some _ =>
    let s1 := (s.setHold n k { h with until_ := none }).sb (holdBit n k) false
    if k = 8 then s1.macCount n 72 (s.now - h.since) else s1

/-- A received quanta value for the link or a priority: a nonzero one starts or restarts the hold, zero ends it (R102). Ignored while the
watchdog says so (R103). -/
def State.takeQuanta (s : State) (n k q : Nat) : State :=
  let h := s.hold n k
  if h.ignore.isSome then s
  else if q = 0 then s.endHold n k
  else
    let since := if h.until_.isSome then h.since else s.now
    (s.setHold n k { h with until_ := some (s.now + quantaNs (s.portRate n) q), since := since }).sb (holdBit n k) true

/-- A MAC control frame (R102, R109). -/
def State.macControl (s : State) (n : Nat) (f : List Byte) : State :=
  if s.pauseRecognised n f then
    if s.gf (F.MAC_FCCFG_MODE n) = 1 then (s.macCount n 6 1).takeQuanta n 8 (beAt f 16 2)
    else (List.range 8).foldl (fun s p =>
        if bitAt (beAt f 16 2) p then (s.macCount n (18 + p) 1).takeQuanta n p (beAt f (18 + 2 * p) 2) else s) s
  else (s.macCount n 7 1).report 0x6006 0 n []

/-- A frame's start is detected (R92). -/
def State.accepting (s : State) (n : Nat) : Bool :=
  s.gb (F.MAC_STATUS_LINK n) && s.gb (F.MAC_PORTCFG_EN n) && !s.devFatal

/-- What FEC and PCS counted while the frame arrived (R106, R109). -/
def State.fecCount (s : State) (n : Nat) (fec : FecNote) : State :=
  let s1 := (((s.macCount n 14 fec.pcsErr).macCount n 15 fec.corr).macCount n 16 fec.uncorr).macCount n 17 fec.symbols
  if fec.uncorr = 0 then s1 else s1.report 0x6004 0 n []

/-- Admit a checked frame to the receive buffer, or drop it (R99, R104), counting it (R106). -/
def State.takeFrame (s : State) (n : Nat) (f : List Byte) (st : Stamp) : State :=
  let pr := s.rxPrio n f
  let ty := beAt f 12 2
  if s.gb (F.MAC_PORTCFG_MACSEC n) ∧ s.gb (F.MAC_PORTCFG_STRICT n) ∧ ty ≠ 0x88E5 ∧ ty ≠ 0x888E then s.macCount n 12 1
  else if s.admits n pr f.length then
    let s1 := ((((s.macCount n 0 f.length).macCount n 2 1).macCount n (3 + castOf f) 1).macCount n (26 + sizeBin f.length) 1)
    (s1.setMac n fun c => { c with rxBuf := c.rxBuf ++
      [{ bytes := f.take (f.length - 4), port := n, rx := st, stepEpoch := s.gf F.TKU_STATE_EPOCH, prio := pr,
         macsec := s.gb (F.MAC_PORTCFG_MACSEC n) && ty == 0x88E5 }] }).decidePause n
  else
    let s1 := s.macCount n 11 1
    if s.protected_ n pr then s1.report 0x6007 2 n [] else s1

/-- A whole frame received (R92, R93): stamped whatever becomes of it, then its length and FCS are judged, RX_RUNT first. -/
def State.macReceive (s : State) (n : Nat) (f : List Byte) (fec : FecNote) : State :=
  let maxLen := s.gf (F.MAC_PORTCFG_MAXLEN n)
  let (st, s0) := s.rxStamp n
  let s1 := (s0.macCount n 1 (min f.length (maxLen + 1))).fecCount n fec
  if f.length < 64 then s1.macCount n 9 1
  else if maxLen < f.length then s1.macCount n 10 1
  else if !fcsOk f || fec.uncorr != 0 then s1.macCount n 8 1
  else if beAt f 12 2 = 0x8808 then s1.macControl n f
  else s1.takeFrame n f st

/-- MAC_FRAME_RECEIVE (R92). -/
def execMacFrameReceive (n : Fin 16) (frame : List Byte) (fec : FecNote) (s : State) : Outcome :=
  .next (s.inBlock 0x60 (islNQ (n.val / 4)) fun s => if s.accepting n.val then s.macReceive n.val frame fec else s)

/-- PAUSE_FRAME_RECEIVE (R102): a frame of EtherType 0x8808, received as any frame is. -/
def execPauseFrameReceive (n : Fin 16) (frame : List Byte) (s : State) : Outcome :=
  .next (s.inBlock 0x60 (islNQ (n.val / 4)) fun s => if s.accepting n.val ∧ beAt frame 12 2 = 0x8808 then s.macReceive n.val frame ⟨0, 0, 0, 0⟩ else s)

/-- PTP_RECEIVE (R67): the oldest stored frame of a port with EN = 1 is a PTP message of an enabled encapsulation and goes to Skylark's PTP
queue with its receive stamp, past the rule banks. -/
def execPtpReceive (n : Fin 16) (s : State) : Outcome :=
  .next (s.inBlock 0x60 (islNQ (n.val / 4)) fun s => match (s.mac n.val).rxBuf with
    | p :: rest =>
      if s.gb (F.TKU_PTPCFG_EN n.val) then
        match ptpAt (s.gf (F.TKU_PTPCFG_ENCAP n.val)) p.bytes with
        | some a => ((s.setMac n.val fun c => { c with rxBuf := rest }).decidePause n.val).ptpTake n.val a p.bytes p.rx
        | none => s
      else s
    | [] => s)

/-! ## Received pause (R102, R103) -/

/-- PAUSE_HOLD_EXPIRE (R102). -/
def State.holdDue (s : State) (n k : Nat) : Bool :=
  match (s.hold n k).until_ with
  | some t => decide (t ≤ s.now)
  | none => false

def execPauseHoldExpire (n : Fin 16) (k : Fin 9) (s : State) : Outcome :=
  .next (s.inBlock 0x60 (islNQ (n.val / 4)) fun s => if s.holdDue n.val k.val then s.endHold n.val k.val else s)

/-- MAC_PAUSE_STORM (R103): a hold has lasted WDLIMIT ms without a break; WDLIMIT 0 disables the watchdog. -/
def State.stormDue (s : State) (n k : Nat) : Bool :=
  let w := s.gf (F.MAC_FCCFG_WDLIMIT n)
  (s.hold n k).until_.isSome && w != 0 && decide ((s.hold n k).since + w * 1000000 < s.now)

def State.storm (s : State) (n k : Nat) : State :=
  let s1 := s.endHold n k
  ((s1.setHold n k { s1.hold n k with ignore := some (s.now + s.gf (F.MAC_FCCFG_WDLIMIT n) * 1000000) }).sb
    (F.MAC_STATUS_WDACTIVE n) true).report 0x6005 2 n []

def execMacPauseStorm (n : Fin 16) (k : Fin 9) (s : State) : Outcome :=
  .next (s.inBlock 0x60 (islNQ (n.val / 4)) fun s => if s.stormDue n.val k.val then s.storm n.val k.val else s)

/-- PAUSE_WATCHDOG_END (R103): received pause is honoured again; WDACTIVE clears once no hold of the port is ignored. -/
def State.wdEndDue (s : State) (n k : Nat) : Bool :=
  match (s.hold n k).ignore with
  | some t => decide (t ≤ s.now)
  | none => false

def State.wdEnd (s : State) (n k : Nat) : State :=
  let s1 := s.setHold n k { s.hold n k with ignore := none }
  s1.sb (F.MAC_STATUS_WDACTIVE n) ((List.range 9).any fun j => (s1.hold n j).ignore.isSome)

def execPauseWatchdogEnd (n : Fin 16) (k : Fin 9) (s : State) : Outcome :=
  .next (s.inBlock 0x60 (islNQ (n.val / 4)) fun s => if s.wdEndDue n.val k.val then s.wdEnd n.val k.val else s)

/-! ## Sent pause (R101) -/

/-- The MAC's address as six bytes, first byte most significant. -/
def macBytes (a : Nat) : List Byte := [byte (a / 2 ^ 40), byte (a / 2 ^ 32), byte (a / 2 ^ 24), byte (a / 2 ^ 16), byte (a / 2 ^ 8), byte a]

/-- Two bytes, most significant first. -/
def be16 (v : Nat) : List Byte := [byte (v / 256), byte v]

/-- The quanta a pause frame carries for bit `b`. -/
def State.quantaOf (s : State) (n b : Nat) : Nat :=
  if s.gb ⟨R.MAC_STATUS n, 16 + b, 1⟩ then s.gf (F.MAC_PAUSE_QUANTA n) else 0

/-- A pause frame for the bits given, without FCS: 60 bytes. -/
def State.pauseFrame (s : State) (n : Nat) (bs : List Nat) : List Byte :=
  let head := macBytes 0x0180C2000001 ++ macBytes (s.rd64 (R.MAC_ADDR n)) ++ be16 0x8808
  let body := if s.gf (F.MAC_FCCFG_MODE n) = 1 then be16 1 ++ be16 (s.quantaOf n 0)
    else be16 0x0101 ++ be16 ((bs.map (2 ^ ·)).sum) ++ (List.range 8).flatMap fun b => be16 (if bs.contains b then s.quantaOf n b else 0)
  (head ++ body ++ List.replicate 60 0).take 60

/-- Send a pause frame: stamped like any frame, with no completion, and counted (R101, R106). -/
def State.sendPause (s : State) (n : Nat) (bs : List Nat) : State :=
  let f := s.pauseFrame n bs
  let (_, s1) := s.txStamp n
  let s2 := (((s1.macCount n 64 64).macCount n 65 1).macCount n 67 1).macCount n 81 1
  let s3 := if s.gf (F.MAC_FCCFG_MODE n) = 1 then s2.macCount n 69 1 else bs.foldl (fun s b => s.macCount n (73 + b) 1) s2
  (s3.setMac n fun c => { c with toSend := [], pauseAt := s.now }).emit (.pause n (f ++ leBytes 4 (fcsOf f)))

/-- A MAC may send. -/
def State.canSend (s : State) (n : Nat) : Bool := s.gb (F.MAC_STATUS_LINK n) && !s.devFatal

/-- PAUSE_FRAME_SEND (R101): the bits whose state changed are sent, ahead of queued frames. -/
def execPauseFrameSend (n : Fin 16) (s : State) : Outcome :=
  .next (s.inBlock 0x60 (islNQ (n.val / 4)) fun s => if s.canSend n.val ∧ (s.mac n.val).toSend ≠ [] then s.sendPause n.val (s.mac n.val).toSend else s)

/-- The bits now asserted. -/
def State.asserted (s : State) (n : Nat) : List Nat := (List.range 8).filter fun b => s.gb ⟨R.MAC_STATUS n, 16 + b, 1⟩

/-- PAUSE_REFRESH (R101): REFRESH quanta after the last asserting frame, 0 taken as 1. -/
def State.refreshDue (s : State) (n : Nat) : Bool :=
  s.canSend n && s.asserted n != [] && s.portRate n != 0 &&
    decide ((s.mac n).pauseAt + quantaNs (s.portRate n) (max 1 (s.gf (F.MAC_PAUSE_REFRESH n))) ≤ s.now)

def execPauseRefresh (n : Fin 16) (s : State) : Outcome :=
  .next (s.inBlock 0x60 (islNQ (n.val / 4)) fun s => if s.refreshDue n.val then s.sendPause n.val (s.asserted n.val) else s)

/-! ## The snapshot (R108) -/

/-- COUNTER_SNAPSHOT (R108): all 128 counters are copied at once. -/
def State.snapshot (s : State) (n : Nat) : State :=
  s.setMac n fun c => { c with snap := (List.range 128).foldl (fun t k => tabSet (fun _ => 0) t k (s.rd64 (R.MAC_CNT n k))) [] }

def execCounterSnapshot (m : Master) (n : Fin 16) (s : State) : Outcome :=
  .next (s.asWriter m (R.MAC_CNTSNAP n.val) fun s => s.snapshot n.val)

end Sys2Proof.Machine
end

