-- ==== Sys2Proof/Machine/CfsBase.lean ====
section
/-! DEFINITION. How a configuration-store session ends with its owner, and what a host port's reset does to its management binding. -/

namespace Sys2Proof.Machine

/-- Change the configuration store's own state. -/
def State.modCfs (s : State) (f : CfsSt → CfsSt) : State := { s with cfs := f s.cfs }

/-- Change the agent's state. -/
def State.modMgt (s : State) (f : MgtSt → MgtSt) : State := { s with mgt := f s.mgt }

/-- A session ends (R512): a command that runs for it is abandoned, and the target slot is left without a header. -/
def State.cfsEnd (s : State) : State :=
  ((s.sf F.CFS_CMD_OWNER 0).sb F.CFS_CMD_BUSY false).modCfs fun c => { held := c.held }

/-- The PF0 or recovery function of a port is reset: its session ends (R512). -/
def State.cfsHostReset (s : State) (p : Nat) : State :=
  if s.gf F.CFS_CMD_OWNER = 2 + p ∨ s.gf F.CFS_CMD_OWNER = 4 + p then s.cfsEnd else s

/-- A binding's EID is cleared: a session that a command on it opened ends (R526). -/
def State.clientLost (s : State) (b : Nat) : State :=
  match s.cfs.client with
  | some (c, _) => if c = b then s.cfsEnd else s
  | none => s

/-- The field of MGT_EID for a binding (R530). -/
def eidFld (b : Nat) : Fld := if b = 0 then F.MGT_EID_SMB else if b = 1 then F.MGT_EID_HP0 else F.MGT_EID_HP1

/-- MCTP_DROP counted up by `n` (R530). -/
def State.mctpDrop (s : State) (n : Nat) : State := s.bumpBy (R.MGT_CNT 2) n

/-- A link-down, PERST or hot reset of a port: the responses pending on its VDM binding are discarded and counted, and its EID is cleared (R518). -/
def State.vdmReset (s : State) (p : Nat) : State :=
  let mine (r : MgtReq) : Bool := r.binding == 1 + p
  let n := (s.mgt.reqs.filter mine).length + (if (s.mgt.cfsWait.map mine).getD false then 1 else 0)
  let s := s.modMgt fun g => { g with
    reqs := g.reqs.filter fun r => !mine r
    asm := g.asm.filter fun a => a.binding != 1 + p
    cfsWait := g.cfsWait.filter fun r => !mine r }
  ((s.mctpDrop n).sf (eidFld (1 + p)) 0).clientLost (1 + p)

end Sys2Proof.Machine
end

