-- ==== Sys2Proof/Machine/Buffers.lean ====
section
/-! DEFINITION. Buffers: choosing, charging, handles and references (R406 to R421). -/

namespace Sys2Proof.Machine

/-- Buffer size of a pool in bytes (R406). -/
def poolSize : Nat → Nat
  | 0 => 256 | 1 => 512 | 2 => 1024 | 3 => 2048 | 4 => 4096 | 5 => 10240 | 6 => 16384 | _ => 65536

/-- The key of a buffer, which is bits [23:0] of its handle (R412): pool, part and index. -/
def bufKey (pool : Nat) (hbm : Bool) (index : Nat) : Nat := pool + 8 * b2n hbm + 16 * index

/-- The pool of a handle or key. -/
def poolOf (h : Nat) : Nat := h % 8

/-- A handle or key names an HBM buffer. -/
def inHbm (h : Nat) : Bool := bitAt h 3

/-- The index of a handle or key. -/
def indexOf (h : Nat) : Nat := bitsOf h 4 20

/-- The requester that a handle names. -/
def ownerOf (h : Nat) : Nat := bitsOf h 32 11

/-- A buffer. -/
def State.buf (s : State) (h : Nat) : BufSt := tabGet (fun _ => {}) s.bufs (h % 2 ^ 24)

/-- Change a buffer. -/
def State.setBuf (s : State) (h : Nat) (b : BufSt) : State :=
  { s with bufs := tabSet (fun _ => {}) s.bufs (h % 2 ^ 24) b }

/-- The handle of an allocated buffer (R412). -/
def handleOf (key : Nat) (b : BufSt) : Nat := key + b.gen * 2 ^ 24 + b.owner * 2 ^ 32

/-- The number of buffers of a pool's part. -/
def State.partCount (s : State) (pool : Nat) (hbm : Bool) : Nat :=
  if hbm then s.gf (F.BPM_HBMCNT_HBMCNT pool) else s.gf (F.BPM_CHIPCNT_CHIPCNT pool)

/-- The free count field of a pool's part. -/
def partFree (pool : Nat) (hbm : Bool) : Fld := if hbm then F.BPM_HBMFREE_HBMFREE pool else F.BPM_CHIPFREE_CHIPFREE pool

/-- The smallest pool whose buffers hold `n` bytes (R408). -/
def poolFor (n : Nat) : Nat := ((List.range 8).find? fun k => decide (n ≤ poolSize k)).getD 7

/-- The parts that R408 searches in order. -/
def State.partsFor (s : State) (pool : Nat) (pipeline : Bool) : List (Nat × Bool) :=
  let ups := if s.gb F.BPM_CFG_SPILLUP then (List.range 8).filter fun k => decide (pool < k) else []
  (pool :: ups).flatMap fun k => if pipeline then [(k, false), (k, true)] else [(k, false)]

/-- A buffer can be allocated: it is free, and 16 system cycles have passed since it was freed (R408). -/
def State.bufFree (s : State) (key : Nat) : Bool :=
  let b := s.buf key
  !b.alloc && (match b.freedAt with | some t => decide (t + 16 ≤ s.now) | none => true)

/-- The first part of a list that has a free buffer, with that buffer. -/
def State.findBuf (s : State) : List (Nat × Bool) → Option (Nat × State)
  | [] => none
  | (k, h) :: rest =>
    let (r, s') := s.pick (s.partCount k h) fun i => s.bufFree (bufKey k h i)
    match r with
    | some i => some (bufKey k h i, s')
    | none => s.findBuf rest

/-- What an allocation answers. -/
inductive AllocRes where
  | refused
  | empty
  | got (handle : Nat)
  deriving DecidableEq, Repr

/-- A charge of `z` bytes to requester `r` is admitted (R410). -/
def State.chargeOk (s : State) (r z : Nat) : Bool :=
  decide (s.rdN (R.BPM_QUOTAUSE r) * 256 + z ≤ s.rdN (R.BPM_QUOTA r) * 1024)

/-- Move a requester's charge by `z` bytes. -/
def State.charge (s : State) (r z : Nat) : State := s.wrN (R.BPM_QUOTAUSE r) (s.rdN (R.BPM_QUOTAUSE r) + z / 256)

/-- Return a charge of `z` bytes. -/
def State.uncharge (s : State) (r z : Nat) : State := s.wrN (R.BPM_QUOTAUSE r) (s.rdN (R.BPM_QUOTAUSE r) - z / 256)

/-- BPM_QUOTA: a refused charge is counted and logged (R410). -/
def State.quotaRefused (s : State) (blame word6 : Nat) : State :=
  (s.bump (R.BPM_CNT 2)).reportAs 0x5001 0 0x5000 blame [0, 0, 0, 0, 0, 0, word6]

/-- Take the buffer `key` for requester `r` (R410, R412, R418). -/
def State.takeBuf (s : State) (key r n : Nat) : Nat × State :=
  let b : BufSt := { s.buf key with alloc := true, owner := r, refs := 1, eng := none, vlen := 0, data := [], freedAt := none }
  let f := partFree (poolOf key) (inHbm key)
  let s := ((s.setBuf key b).sf f (s.gf f - 1)).charge r (poolSize (poolOf key))
  let s := if inHbm key then s.bump (R.BPM_CNT 4) else s
  let s := if poolOf key == poolFor n then s else s.bump (R.BPM_CNT 5)
  (handleOf key b, s.bump (R.BPM_CNT 0))

/-- Allocate a buffer for `n` bytes (R408, R410). `check` asks for the charge to be admitted first; `blame` and `word6` name who is blamed. -/
def State.alloc (s : State) (n r : Nat) (pipeline check : Bool) (blame word6 : Nat) : AllocRes × State :=
  if n = 0 || 65536 < n then (.refused, s) else
  let p := poolFor n
  if check && !s.chargeOk r (poolSize p) then (.refused, s.quotaRefused blame word6) else
  match s.findBuf (s.partsFor p pipeline) with
  | some (key, s) => let (h, s) := s.takeBuf key r n; (.got h, s)
  | none =>
    let s := s.bump (R.BPM_CNT 3)
    if tabGet (fun _ => 0) s.poolEmptyAt p ≤ s.now then
      (.empty, { s.report 0x5002 0 0 [p] with poolEmptyAt := tabSet (fun _ => 0) s.poolEmptyAt p (s.now + 1000000) })
    else (.empty, s)

/-- The next generation of a buffer: from 255 to 1 (R412). -/
def nextBufGen (g : Nat) : Nat := if g < 255 then g + 1 else 1

/-- Free a buffer and return its charge (R412, R418). -/
def State.freeBuf (s : State) (h : Nat) : State :=
  let b := s.buf h
  let f := partFree (poolOf h) (inHbm h)
  let s := s.setBuf h { gen := nextBufGen b.gen, freedAt := some s.now }
  ((s.sf f (s.gf f + 1)).uncharge b.owner (poolSize (poolOf h))).bump (R.BPM_CNT 1)

/-- Release one reference; the release that brings REFS to 0 frees the buffer (R418). -/
def State.unref (s : State) (h : Nat) : State :=
  let b := s.buf h
  if !b.alloc then s else if b.refs ≤ 1 then s.freeBuf h else s.setBuf h { b with refs := b.refs - 1 }

/-- Take one more reference. -/
def State.addRef (s : State) (h : Nat) : State :=
  let b := s.buf h; s.setBuf h { b with refs := b.refs + 1 }

/-- Release the engine reference of a buffer. -/
def State.unrefEng (s : State) (h : Nat) : State := ((s.setBuf h { s.buf h with eng := none })).unref h

/-- The checks of R414 that every presenter of a handle meets. -/
def State.handleOk (s : State) (h : Nat) : Bool :=
  let b := s.buf h
  decide (h < 2 ^ 43) && decide (indexOf h < s.partCount (poolOf h) (inHbm h)) && b.alloc && b.gen == bitsOf h 24 8 && b.owner == ownerOf h

/-- The checks of R414 for an engine thread of a sward. -/
def State.handleOkEng (s : State) (h sward : Nat) : Bool :=
  s.handleOk h && !inHbm h && (s.buf h).eng == some (s.gf (F.BPM_SWGRP_GROUP sward))

/-- BPM_HANDLE_BAD: a unit presented a failing handle (R414). -/
def State.handleBad (s : State) (blame : Nat) : State := (s.bump (R.BPM_CNT 10)).reportAs 0x5003 0 0x5000 blame []

/-- The HBM address of an HBM buffer's first byte (R406). -/
def State.bufHbm (s : State) (h : Nat) : Nat :=
  s.rd64 R.BPM_HBMBASE + s.rd64 (R.BPM_HBMOFF (poolOf h)) + indexOf h * poolSize (poolOf h)

/-- Bytes of a buffer, those at or beyond VLEN reading 0 (R416). -/
def State.bufRead (s : State) (h off n : Nat) : List Byte :=
  let b := s.buf h
  (List.range n).map fun i =>
    if off + i < b.vlen then
      (if inHbm h then tabGet hbmDefault s.hbm (s.bufHbm h + off + i) else tabGet (fun _ => 0) b.data (off + i))
    else 0

/-- Write bytes into a buffer without moving VLEN: an HBM buffer's lie in HBM (R406). -/
def State.bufWrite (s : State) (h off : Nat) (l : List Byte) : State :=
  if inHbm h then s.hbmWrite (s.bufHbm h + off) l
  else let b := s.buf h; s.setBuf h { b with data := memWrite (fun _ => 0) b.data off l }

/-- Move a buffer's charge to another requester when that charge is admitted (R411). -/
def State.recharge (s : State) (h r blame word6 : Nat) : Option Nat × State :=
  let b := s.buf h
  let z := poolSize (poolOf h)
  if b.owner == r then (some h, s)
  else if s.chargeOk r z then
    let b' := { b with owner := r }
    (some (handleOf (h % 2 ^ 24) b'), (((s.setBuf h b').uncharge b.owner z).charge r z))
  else (none, s.quotaRefused blame word6)

end Sys2Proof.Machine
end

