-- ==== Sys2Proof/Machine/HostOps.lean ====
section
/-! DEFINITION. What QMG and the host ports share: functions, resets in progress, AER, posted writes with the dirty log, queue contexts,
completions, interrupts and halts (R230 to R237, R247 to R250, R262 to R269, R302, R303). -/

namespace Sys2Proof.Machine

/-! ## Tenants and functions -/

/-- The tenant that holds a function, if one does (R282, R310). -/
def State.tenantOf (s : State) (p f : Nat) : Option Nat :=
  if 2 ≤ f && s.gb (F.FNM_VFTEN_VALID p (f - 2)) then some (s.gf (F.FNM_VFTEN_TENANT p (f - 2))) else none

/-- A tenant's record. -/
def State.tenant (s : State) (t : Nat) : TenantSt := tabGet (fun _ => {}) s.tenants t

/-- Change a tenant's record. -/
def State.modTenant (s : State) (t : Nat) (g : TenantSt → TenantSt) : State :=
  { s with tenants := tabMod (fun _ => {}) s.tenants t g }

/-- A tenant's argument word `w` (6 to 15) of R288. -/
def State.tArg (s : State) (t w : Nat) : Nat := (s.tenant t).args.getD (w - 6) 0

/-- A function's tenant neither fetches nor dispatches: it is QUIESCED or being quiesced (R284, R305). -/
def State.quiet (s : State) (p f : Nat) : Bool :=
  match s.tenantOf p f with
  | some t => s.gf (F.FNM_TSTAT_STATE t) == 2 || (s.tenant t).quiescing.isSome
  | none => false

/-! ## Posted writes and the dirty log (R230, R234, R302, R303) -/

/-- The ranges that a transfer of `n` bytes at `a` is split into: at multiples of `step`, each at most `most` bytes. -/
def splitRange (step most : Nat) : Nat → Nat → Nat → List (Nat × Nat)
  | 0, _, _ => []
  | fuel + 1, a, n =>
    if n = 0 then [] else
    let k := max 1 (min n (min most (step - a % step)))
    (a, k) :: splitRange step most fuel (a + k) (n - k)

/-- The writes that a transfer is split into, at multiples of the function's Max_Payload_Size, 512 at most (R222, R230). -/
def writeSplit (mps a n : Nat) : List (Nat × Nat) := splitRange (min mps 512) (min mps 512) n a n

/-- The reads that a transfer is split into: at 4 KiB boundaries, each at most Max_Read_Request_Size (R230). -/
def readSplit (mrrs a n : Nat) : List (Nat × Nat) := splitRange 4096 mrrs n a n

/-- Send the pieces of a posted write in address order. -/
def State.postPieces (s : State) (p f a : Nat) (l : List Byte) : List (Nat × Nat) → State
  | [] => s
  | (b, n) :: rest => State.postPieces (s.hostWrite p f b ((l.drop (b - a)).take n)) p f a l rest

/-- A dirty-log entry that is not written (R303). -/
def State.dirtyLose (s : State) (t page : Nat) : State :=
  match (s.tenant t).dirty with
  | none => s
  | some d =>
    let p := s.gf (F.FNM_TSTAT_PORT t)
    let d' := { d with full := true, lost := min (d.lost + 1) (2 ^ 32 - 1), filter := d.filter.filter (· ≠ page), told := true }
    let s := (s.modTenant t fun x => { x with dirty := some d' }).bump (R.FNM_TCNT t 3)
    if d.told then s else
    let s := s.report 0x2003 0 0 []
    if d.vector = 0x3FF then s else s.sendMsix p 0 d.vector

/-- A dirty-log entry written at slot PI, and then the header's PI (R301, R302). -/
def State.dirtyPut (s : State) (t page f : Nat) : State :=
  match (s.tenant t).dirty with
  | none => s
  | some d =>
    let p := s.gf (F.FNM_TSTAT_PORT t)
    let pi := (d.pi + 1) % 2 ^ (d.log2 + 1)
    let s := s.hostWrite p 0 (d.base + 64 + 8 * (d.pi % 2 ^ d.log2)) (leBytes 8 (page * 2 ^ d.page + 4 * f))
    let s := s.hostWrite p 0 d.base (leBytes 4 pi)
    (s.modTenant t fun x => { x with dirty := some { d with pi } }).bump (R.FNM_TCNT t 2)

/-- The log is full by its cached CI (R303). -/
def DirtySt.isFull (d : DirtySt) : Bool := (d.pi + 2 ^ (d.log2 + 1) - d.ci) % 2 ^ (d.log2 + 1) == 2 ^ d.log2

/-- One page that a posted write touches, at address `a` (R302, R303): logged unless the filter holds it; on a full log the entry waits for a
re-read of CI, at most 64 at once. -/
def State.dirtyPage (s : State) (t a f : Nat) : State :=
  match (s.tenant t).dirty with
  | none => s
  | some d =>
    let page := a / 2 ^ d.page
    if d.filter.contains page then s else
    let d := { d with filter := (page :: d.filter).take 64 }
    let s' := s.modTenant t fun x => { x with dirty := some d }
    if d.wait.isEmpty && !d.isFull then s'.dirtyPut t page f
    else if 64 ≤ d.wait.length then s'.dirtyLose t page
    else
      let s'' := s.modTenant t fun x => { x with dirty := some { d with wait := d.wait ++ [(page, f)] } }
      if d.wait.isEmpty then s''.emit (.hostRead (s.gf (F.FNM_TSTAT_PORT t)) 0 0 (d.base + 8) 4) else s''

/-- Every page of a size from `a` on, `n` of them. -/
def State.dirtyPages (s : State) (t a step f : Nat) : Nat → State
  | 0 => s
  | n + 1 => State.dirtyPages (s.dirtyPage t a f) t (a + step) step f n

/-- A posted write of a function (R230, R234, R302): sent in pieces, and each page it touches logged when the function's tenant has an open dirty log. -/
def State.fnWrite (s : State) (p f a : Nat) (l : List Byte) : State :=
  if !(s.fn p f).bme || s.inReset p f || l.isEmpty then s else
  let s := s.postPieces p f a l (writeSplit (s.fn p f).mps a l.length)
  match s.tenantOf p f with
  | none => s
  | some t =>
    match (s.tenant t).dirty with
    | none => s
    | some d =>
      let z := 2 ^ d.page
      s.dirtyPages t (a / z * z) z f ((a + l.length - 1) / z - a / z + 1)

/-! ## Queue contexts -/

/-- A queue's context. -/
def State.q (s : State) (g : Nat) : QCtx := tabGet (fun _ => {}) s.queues g

def QCtx.typ (c : QCtx) : Nat := bitsOf c.w5 0 2
def QCtx.log2 (c : QCtx) : Nat := bitsOf c.w5 4 5
def QCtx.loc (c : QCtx) : Nat := bitsOf c.w5 9 13
def QCtx.haltOnErr (c : QCtx) : Bool := bitAt c.w5 22
def QCtx.trace (c : QCtx) : Bool := bitAt c.w5 23
def QCtx.deftmq (c : QCtx) : Nat := bitsOf c.w9 0 17
def QCtx.pipe (c : QCtx) : Nat := bitsOf c.w9 17 2
def QCtx.profile (c : QCtx) : Nat := bitsOf c.w9 19 6
def QCtx.vector (c : QCtx) : Nat := bitsOf c.w9 0 10
def QCtx.inten (c : QCtx) : Bool := bitAt c.w9 10
def QCtx.coalcnt (c : QCtx) : Nat := bitsOf c.w9 11 8
def QCtx.coalus (c : QCtx) : Nat := bitsOf c.w9 19 10

/-- The ring's entries. -/
def QCtx.size (c : QCtx) : Nat := 2 ^ c.log2

/-- An index's ring slot (R248). -/
def QCtx.slotOf (c : QCtx) (i : Nat) : Nat := i % c.size

/-- An index moved on by `n`, with its wrap bit (R248). -/
def QCtx.step (c : QCtx) (i n : Nat) : Nat := (i + n) % (2 * c.size)

/-- How far index `a` lies ahead of index `b`. -/
def QCtx.dist (c : QCtx) (a b : Nat) : Nat := (a + 2 * c.size - b % (2 * c.size)) % (2 * c.size)

/-- The free slots of a completion queue (R267). -/
def QCtx.freeSlots (c : QCtx) : Nat := c.size - c.dist c.tail c.ci - c.res

/-- The bytes of an entry that the driver writes (R247). -/
def QCtx.entryBytes (c : QCtx) : Nat := if c.typ = 0 then 32 else if c.typ = 1 then 16 else 64

/-- The global index of a function's admin command queue; its admin completion queue follows (R282). -/
def admQueue (p f : Nat) : Nat := 2 * (514 * p + f)

/-- Change a queue's context; FN_ADMSTAT reports local queues 0 and 1 (R281). -/
def State.setQ (s : State) (g : Nat) (c : QCtx) : State :=
  let s := { s with queues := tabSet (fun _ => {}) s.queues g c }
  if 2056 ≤ g then s else
  let p := g / 2 / 514
  let f := g / 2 % 514
  if g % 2 = 0 then (s.sf (F.FN_ADMSTAT_CMDGEN p f) c.gen).sf (F.FN_ADMSTAT_STATE p f) c.st
  else s.sf (F.FN_ADMSTAT_CQGEN p f) c.gen

/-- Change a queue's context by a function. -/
def State.modQ (s : State) (g : Nat) (h : QCtx → QCtx) : State := s.setQ g (h (s.q g))

/-- The queue that a function's local index names, while it is not FREE (R247, R254). -/
def State.localQ (s : State) (p f i : Nat) : Option Nat :=
  (s.queues.find? fun e => e.2.st ≠ 0 && e.2.port == p && e.2.fn == f && e.2.loc == i).map (·.1)

/-- The queues bound to a completion queue. -/
def State.boundTo (s : State) (cq : Nat) : List Nat :=
  (s.queues.filter fun e => e.2.st ≠ 0 && e.2.typ ≠ 2 && e.2.cq == cq).map (·.1)

/-- The queues of a function that are not FREE. -/
def State.queuesOf (s : State) (p f : Nat) : List Nat :=
  (s.queues.filter fun e => e.2.st ≠ 0 && e.2.port == p && e.2.fn == f).map (·.1)

/-- The non-admin queues of a tenant's functions that are not FREE (R288, R292). -/
def State.tenantQueues (s : State) (t : Nat) : Nat :=
  (s.queues.filter fun e => decide (2056 ≤ e.1) && e.2.st != 0 && s.tenantOf e.2.port e.2.fn == some t).length

/-- Count in QMG_CNT[p][k]. -/
def State.qmgCount (s : State) (p k : Nat) : State := s.bump (R.QMG_CNT p k)

/-- An event of QMG, blaming FNM and the function (R281). -/
def State.qmgReport (s : State) (code sev p f : Nat) : State := s.reportFn code sev 0x3000 p f

/-- Saturating 32-bit count. -/
def sat32 (n : Nat) : Nat := min n (2 ^ 32 - 1)

/-! ## Completions, interrupts and traces (R262 to R268, R278) -/

/-- A queue-trace record for the channel that QMG_TRACECFG names (R278). -/
def State.qTrace (s : State) (g : Nat) (t : Stamp) (type first n status : Nat) : State :=
  let c := s.q g
  if !s.gb F.QMG_TRACECFG_EN || !c.trace then s else
  let r := stampBytes t type ++ leBytes 4 g ++ leBytes 2 first ++ leBytes 2 n ++ [byte status]
  match s.post (s.gf F.QMG_TRACECFG_SWARD) (s.gf F.QMG_TRACECFG_CHANNEL) (fitBytes 64 r) with
  | some s => s
  | none => (s.qmgCount c.port 13).qmgReport 0x300B 0 c.port c.fn

/-- The interrupt of a completion queue is due: armed and enabled, with enough unannounced entries or an old one (R268). -/
def QCtx.irqDue (c : QCtx) (now : Nat) : Bool :=
  c.armed && c.inten && decide (0 < c.unann) &&
    (decide (max c.coalcnt 1 ≤ c.unann) || decide (c.times.getD (c.times.length - c.unann) 0 + 1000 * c.coalus ≤ now))

/-- Send a completion queue's interrupt when it is due; sending disarms the queue and announces every entry (R268). -/
def State.irq (s : State) (g : Nat) : State :=
  let c := s.q g
  if c.irqDue s.now then (s.setQ g { c with armed := false, unann := 0 }).sendMsix c.port c.fn c.vector else s

/-- The words of a completion entry (R262, R264, R273). -/
def cplWords (phase loc index gen : Nat) (c : Cpl) : List Nat :=
  [c.status + phase * 256 + c.kind * 512 + loc * 65536,
   index % 65536 + gen * 65536 + (if c.kind = 3 then 0 else c.stamp.bound * 2 ^ 24),
   (match c.w2 with | some w => w | none => c.bytes),
   (if c.kind = 3 then c.bytes else c.stamp.seq % 65536 + c.stamp.domain * 65536),
   (match c.w45 with | some w => w % 2 ^ 32 | none => shortOf c.stamp.time % 2 ^ 32),
   (match c.w45 with | some w => w / 2 ^ 32 | none => shortOf c.stamp.time / 2 ^ 32),
   c.w6, c.w7]

/-- Words as bytes. -/
def bytesOfWords (l : List Nat) : List Byte := l.flatMap fun w => leBytes 4 w

/-- Write a completion entry into a completion queue's ring (R262, R265, R266): words 1 to 7, then word 0; the stamp of the write is taken in
domain 0x3002 + p. Answers that stamp too. -/
def State.writeCpl (s : State) (cq loc index gen : Nat) (c : Cpl) : Stamp × State :=
  let x := s.q cq
  let (t, s) := s.stamp islSYS (0x3002 + x.port)
  let w := cplWords (1 - x.tail / x.size % 2) loc index gen c
  let a := x.base + 32 * x.slotOf x.tail
  let s := s.fnWrite x.port x.fn (a + 4) (bytesOfWords (w.drop 1))
  let s := s.fnWrite x.port x.fn a (bytesOfWords (w.take 1))
  let s := s.modQ cq fun x =>
    { x with tail := x.step x.tail 1, times := x.times ++ [s.now], unann := if x.armed then x.unann + 1 else x.unann }
  (t, (s.qmgCount x.port 14).irq cq)

/-- Release a reserved slot of a completion queue. -/
def State.release (s : State) (cq : Nat) : State := s.modQ cq fun x => { x with res := x.res - 1 }

/-- An asynchronous notice in the function's admin completion queue, or its loss (R269). -/
def State.notice (s : State) (g reason : Nat) : State :=
  let c := s.q g
  let a := admQueue c.port c.fn
  let x := s.q (a + 1)
  if x.st == 1 && decide (0 < x.freeSlots) then
    (s.writeCpl (a + 1) 0 0xFFFF (s.q a).gen
      { status := 0, kind := 3, w2 := some 0xFFFF, w45 := some (c.loc + reason * 65536 + (g + c.gen * 2 ^ 24) * 2 ^ 32) }).2
  else (s.satInc (F.FN_NOTICE_LOST c.port c.fn)).qmgReport 0x300C 0 c.port c.fn

/-! ## Halts and stops (R249, R250) -/

/-- Abandon the items of a queue that halts at once: those dispatched and not finished become stale, and a finished one that still waits is suppressed
now, its slot released. -/
def State.abandon (s : State) (g : Nat) : State :=
  let c := s.q g
  let cqgen := (s.q c.cq).gen
  let disp := c.items.filter fun i => i.disp.isSome
  let fin := (disp.filter fun i => i.done.isSome).length
  let s := (List.range fin).foldl (fun s _ => (s.release c.cq).qmgCount c.port 12) s
  s.modQ g fun c =>
    { c with items := [], open_ := [], run := false, posts := [], fault := false,
             stale := c.stale ++ (disp.filter fun i => i.done.isNone).map fun i => (i.id, cqgen) }

/-- A context in ERROR sends nothing more; its work requests complete with FLUSHED (R399). -/
def XptSt.error (x : XptSt) : XptSt :=
  if x.st = 1 then { x with st := 2, win := [], sent := 0, hi := 0, ctl := [], outB := [], inB := [], msg := none, cursor := none, ackAt := none,
                            rnrUntil := none, owed := 0 } else x

/-- A queue that a transport context is bound to has left RUNNING: the context is in ERROR (R399). -/
def State.xptUnbound (s : State) (x : Option Nat) : State :=
  match x with
  | some i => { s with sec := { s.sec with xpts := tabMod (fun _ => {}) s.sec.xpts i XptSt.error } }
  | none => s

/-- One queue RUNNING or STOPPING is HALTED at once with a reason, its generation moved on (R249, R250). -/
def State.haltOne (s : State) (g reason : Nat) : State :=
  let c := s.q g
  if c.st = 1 || c.st = 2 then
    let s := ((s.abandon g).xptUnbound c.xpt).modQ g fun c => { c with st := 3, reason, gen := (c.gen + 1) % 256 }
    if reason = 5 || reason = 8 then s.notice g reason else s
  else s

/-- Every queue bound to a completion queue that halts is halted at once, reason 5 (R249). -/
def State.haltBound (s : State) (cq : Nat) : State := (s.boundTo cq).foldl (fun s g => s.haltOne g 5) s

/-- A queue is halted at once, with what that does to the queues bound to it. -/
def State.haltNow (s : State) (g reason : Nat) : State :=
  let c := s.q g
  let s := s.haltOne g reason
  if c.typ = 2 && (c.st = 1 || c.st = 2) then s.haltBound g else s

/-- Every queue of a function is halted at once with a reason (R241, R242). -/
def State.haltFn (s : State) (p f reason : Nat) : State := (s.queuesOf p f).foldl (fun s g => s.haltOne g reason) s

/-- A RUNNING queue enters STOPPING with a reason; 3, 4 and 9 write a notice (R249, R269). -/
def State.stopQueue (s : State) (g reason : Nat) : State :=
  let c := s.q g
  if c.st = 1 then
    let s := (s.xptUnbound c.xpt).setQ g { c with st := 2, reason, stopAt := s.now }
    if reason = 3 || reason = 4 || reason = 9 then s.notice g reason else s
  else s

/-- A queue passes to FREE: its generation, item count and stale items are kept with the global index, and its charges are returned (R250, R285, R295). -/
def State.freeQueue (s : State) (g : Nat) : State :=
  let c := s.q g
  let s := s.setQ g { gen := c.gen, nextItem := c.nextItem, stale := c.stale, xpt := none }
  if g < 2056 then s else
  s.wrN (R.FNM_POOLUSE c.port 0) (s.rdN (R.FNM_POOLUSE c.port 0) - 1)

/-! ## Items and their completions (R250, R259, R266, R267) -/

/-- A completion of the queue's own work that HALT_ON_ERR acts on (R259). -/
def errStatus (st : Nat) : Bool := st == 1 || st == 2 || st == 3 || st == 4

/-- R259: such a completion moves a queue with HALT_ON_ERR to STOPPING with reason 3. -/
def State.errHalt (s : State) (g : Nat) : State :=
  let c := s.q g
  if c.haltOnErr && c.st == 1 then (s.stopQueue g 3).qmgReport 0x3007 3 c.port c.fn else s

/-- Write the completion of a finished item and retire it (R262, R266, R278). -/
def State.retire (s : State) (g : Nat) (i : Item) (c : Cpl) : State :=
  let x := s.q g
  let s := (s.modQ g fun x => { x with items := x.items.drop 1, ci := i.after }).release x.cq
  if c.silent then s else
  let (t, s) := s.writeCpl x.cq x.loc i.slot x.gen c
  let s := s.qTrace g t 0x21 i.slot 0 c.status
  if x.typ = 0 && errStatus c.status then s.errHalt g else s

/-- Retire the finished items at the front of a queue, in ring order, while its function is not in D3hot (R239, R266). -/
def State.drain (s : State) (g : Nat) : Nat → State
  | 0 => s
  | n + 1 =>
    match (s.q g).items with
    | [] => s
    | i :: _ =>
      match i.done with
      | some c => if (s.fn (s.q g).port (s.q g).fn).d3 then s else State.drain (s.retire g i c) g n
      | none => s

/-- An item of a queue finishes (R250, R266): a stale one is suppressed and its slot released; one that is gone changes nothing. -/
def State.finish (s : State) (g id : Nat) (c : Cpl) : State :=
  let x := s.q g
  match x.stale.find? fun e => e.1 == id with
  | some (_, cqgen) =>
    let s := s.modQ g fun x => { x with stale := x.stale.filter fun e => e.1 ≠ id }
    let s := s.qmgCount x.port 12
    if (s.q x.cq).gen == cqgen then s.release x.cq else s
  | none =>
    let s := s.modQ g fun x =>
      { x with items := x.items.map fun i => if i.id == id && i.done.isNone then { i with done := some c } else i }
    s.drain g x.items.length

/-- Refused items and runs at the front of what is not yet dispatched take their reserved slot, and complete at once (R257, R258, R267). -/
def State.settle (s : State) (g : Nat) : Nat → State
  | 0 => s
  | n + 1 =>
    let x := s.q g
    if x.st ≠ 1 || s.quiet x.port x.fn || (s.fn x.port x.fn).d3 then s else
    match x.items.find? fun i => i.disp.isNone with
    | none => s
    | some i =>
      match i.kind with
      | .bad status =>
        if (s.q x.cq).freeSlots = 0 then s.qmgCount x.port 15 else
        if x.typ = 3 && x.items.any (fun j => j.disp.isSome && j.done.isNone) then s else
        let s := s.modQ x.cq fun y => { y with res := y.res + 1 }
        let s := s.modQ g fun y =>
          { y with items := y.items.map fun j => if j.id == i.id then { j with disp := some x.gen } else j }
        let c : Cpl := if x.typ = 3 then
            let w0 := (i.entries.headD []).headD 0
            { status, kind := 3, w2 := some (w0 / 65536 + (w0 % 256) * 65536), w45 := some 0 }
          else { status, kind := 0, stamp := i.stamp }
        State.settle (s.finish g i.id c) g n
      | _ => s

/-- A queue whose ring read failed enters STOPPING, reason 4, once the entries fetched before have been dispatched (R255). -/
def State.faultStop (s : State) (g : Nat) : State :=
  let c := s.q g
  if c.fault && c.st == 1 && c.items.all (fun i => i.disp.isSome) then
    ((s.setQ g { c with fault := false }).stopQueue g 4).qmgReport 0x3006 3 c.port c.fn
  else s

/-- `settle` for as many items as the queue has. -/
def State.settleAll (s : State) (g : Nat) : State := (s.settle g (s.q g).items.length).faultStop g

/-- Finish an item, then let what stood behind it go on. -/
def State.complete (s : State) (g id : Nat) (c : Cpl) : State := (s.finish g id c).settleAll g

/-- A command item completes (R273): its tag, opcode, the bytes written at RESPADDR and the RESULT words. -/
def State.cmdDone (s : State) (g id status bytes r0 r1 r2 r3 : Nat) : State :=
  match (s.q g).items.find? fun i => i.id == id with
  | none => s.complete g id { status, kind := 3 }
  | some i =>
    let w0 := (i.entries.headD []).headD 0
    s.complete g id { status, kind := 3, bytes, w2 := some (w0 / 65536 + (w0 % 256) * 65536),
                      w45 := some (r0 + r1 * 2 ^ 32), w6 := r2, w7 := r3 }

/-- A send chain completes from outside QMG (R264): transmitted on a port with its stamp, or not transmitted, and then with the stamp of its fetch. -/
def State.sendDone (s : State) (r : SendRef) (status : Nat) (tx : Option (Stamp × Nat × Bool)) (bytes : Nat) : State :=
  let fs := match (s.q r.queue).items.find? fun i => i.id == r.item with
    | some i => i.stamp
    | none => noStamp
  match tx with
  | some (t, port, onTime) => s.complete r.queue r.item { status, kind := 0, bytes, stamp := t, w6 := port + 16 + 32 * b2n onTime }
  | none => s.complete r.queue r.item { status, kind := 0, bytes, stamp := fs }

/-- The queue has come to rest after STOPPING: FREE for reason 2, else HALTED; a command that waited for it completes (R249, R275). -/
def State.rested (s : State) (g : Nat) : State :=
  let c := s.q g
  let s := s.modQ g fun c => { c with st := 3, items := [], open_ := [], run := false, posts := [], waiter := none }
  let s := if c.typ = 2 then s.haltBound g else s
  let s := if c.reason = 2 then s.freeQueue g else s
  match c.waiter with
  | some (q, id) => s.cmdDone q id 0 0 0 0 0 0
  | none => s

end Sys2Proof.Machine
end

