-- ==== Sys2Proof/Machine/Hp.lean ====
section
/-! DEFINITION. The host ports: inbound windows, requests and completions, errors, power states and resets (R222 to R246, R299), and
precision time measurement (R77 to R79). -/

namespace Sys2Proof.Machine

/-! ## Inbound windows (R227 to R229) -/

/-- Where an offset of MW4 falls, as the window, the offset in it, and the device address, by the live windows (R227). -/
def State.ibwHit (s : State) (p f o n : Nat) (write : Bool) : Option Nat :=
  let k := o / 2 ^ 31
  let w := o % 2 ^ 31
  let size := 2 ^ s.lgf (F.HP_IBW_LOG2SIZE p f k)
  if k < 16 && s.lgb (F.HP_IBW_EN p f k) && decide (w + n ≤ size) && decide (0 < n) &&
      (if write then s.lgb (F.HP_IBW_WR p f k) else s.lgb (F.HP_IBW_RD p f k)) then
    some (s.lrd64 (R.HP_IBWBASE p f k) + w)
  else none

/-- An MW4 request that misses its window: refused whole, counted and logged (R227, R236). -/
def State.ibwMiss (s : State) (p f o : Nat) (posted : Bool) : State :=
  ((s.unsupported p f o posted).hpCount p 6).hpReport p 0x0D 0 f

/-- The completions of an MW4 read, in address order, each within Max_Payload_Size (R235). -/
def State.readCpls (s : State) (p f a : Nat) (l : List Byte) : List (Nat × Nat) → State
  | [] => s
  | (b, n) :: rest => State.readCpls (s.emit (.completion p f 0 ((l.drop (b - a)).take n))) p f a l rest

/-- An MW4 request translated by its window and carried out, or refused (R227, R232, R235, R236). -/
def State.mw4Do (s : State) (p f o : Nat) (kind : Mw4Kind) : State :=
  match kind with
  | .atomic => s.unsupported p f o false
  | .wr _ true => ((s.hpCount p 5).aerUnc p f aerPoison o true).hpReport p 6 0 f
  | .wr data false =>
    match s.ibwHit p f o data.length true with
    | some a => s.hbmWrite a data
    | none => s.ibwMiss p f o true
  | .rd n =>
    match s.ibwHit p f o n false with
    | some a => s.readCpls p f a (s.hbmRead a n) (writeSplit (s.fn p f).mps a n)
    | none => s.ibwMiss p f o false

/-- A request is posted. -/
def mw4Posted : Mw4Kind → Bool
  | .wr _ _ => true
  | _ => false

/-- MW4_REQUEST (R227, R229): a request accepted while a commit is pending is held in order. -/
def execMw4Request (p : Fin 2) (f : Fin 2) (o : Nat) (kind : Mw4Kind) (s : State) : Outcome :=
  .next (s.inBlock (0x10 + p.val) (islHPI p.val) fun s => s.memAccess p f o (mw4Posted kind) fun s =>
    if s.gb (F.HP_COMMIT_PENDING p) then s.modHp p fun h => { h with held := h.held ++ [(f.val, o, kind)] }
    else s.mw4Do p f o kind)

/-- A shadow window that a commit refuses (R228). -/
def State.ibwBad (s : State) (p f k : Nat) : Bool :=
  let l := s.gf (F.HP_IBW_LOG2SIZE p f k)
  let b := s.rd64 (R.HP_IBWBASE p f k)
  s.gb (F.HP_IBW_EN p f k) && (decide (l < 12) || b % 2 ^ l != 0 || decide (2 ^ 35 < b + 2 ^ l))

/-- The windows of a port in order, as (PF, window). -/
def ibwAll : List (Nat × Nat) := (List.range 2).flatMap fun f => (List.range 16).map fun k => (f, k)

/-- A write of 1 to HP_COMMIT.COMMIT (R228): refused at the first bad window, else pending until the boundary. -/
def State.hpCommit (s : State) (p : Nat) : State :=
  if s.gb (F.HP_COMMIT_PENDING p) then s else
  match ibwAll.find? fun w => s.ibwBad p w.1 w.2 with
  | some (f, k) =>
    (((s.sb (F.HP_COMMIT_ERR p) true).sf (F.HP_COMMIT_ERRPF p) f).sf (F.HP_COMMIT_ERRWIN p) k).hpReport p 0x0E 0 f
  | none => s.sb (F.HP_COMMIT_PENDING p) true

def execHpCommit (m : Master) (p : Fin 2) (s : State) : Outcome :=
  .next (s.asWriter m (R.HP_COMMIT p) fun s => s.hpCommit p)

/-- The shadow windows become the live ones. -/
def State.ibwGoLive (s : State) (p : Nat) : List (Nat × Nat) → State
  | [] => s
  | (f, k) :: rest => State.ibwGoLive ((s.goLive (R.HP_IBW p f k) 1).goLive (R.HP_IBWBASE p f k) 2) p rest

/-- HP_COMMIT_BOUNDARY (R229): the new windows take effect, and the held requests proceed in arrival order. -/
def execHpCommitBoundary (p : Fin 2) (s : State) : Outcome :=
  .next (s.inBlock (0x10 + p.val) (islHPI p.val) fun s => if s.gb (F.HP_COMMIT_PENDING p) then
      let held := (s.hp p).held
      let s := (s.ibwGoLive p ibwAll).sb (F.HP_COMMIT_PENDING p) false
      held.foldl (fun s r => s.mw4Do p r.1 r.2.1 r.2.2) (s.modHp p fun h => { h with held := [] })
    else s)

/-! ## Completions for the device's requests (R231 to R233, R236, R241) -/

/-- Take a tag off the port's list. -/
def State.dropTag (s : State) (p tag : Nat) : State :=
  s.modHp p fun h => { h with tags := h.tags.filter fun t => t.tag ≠ tag }

/-- A request of a read has failed: the whole transfer fails, and its requests not yet issued are not issued (R232). -/
def State.readFail (s : State) (p id : Nat) : State :=
  s.modHp p fun h => { h with reads := h.reads.map fun r =>
    if r.id == id then { r with failed := true, todo := [], open_ := r.open_ - 1 } else r }

/-- A request of a read has completed with its data. -/
def State.readPart (s : State) (p : Nat) (t : TagSt) (data : List Byte) : State :=
  s.modHp p fun h => { h with reads := h.reads.map fun r =>
    if r.id == t.read then { r with parts := r.parts ++ [(t.addr, data)], open_ := r.open_ - 1 } else r }

/-- A completion for a tag that is outstanding and not retired. -/
def State.liveCpl (s : State) (p : Nat) (t : TagSt) (st : CplStatus) (poisoned : Bool) (data : List Byte) : State :=
  if st ≠ .sc then (((s.dropTag p t.tag).hpCount p 3).hpReport p 0x0F 0 t.fn).readFail p t.read
  else if poisoned then
    ((((s.dropTag p t.tag).hpCount p 5).aerUnc p t.fn aerPoison t.addr true).hpReport p 6 0 t.fn).readFail p t.read
  else
    let got := (t.got ++ data).take t.len
    if got.length < t.len then
      s.modHp p fun h => { h with tags := h.tags.map fun u => if u.tag == t.tag then { u with got } else u }
    else (s.dropTag p t.tag).readPart p t got

/-- A completion for a retired tag is discarded and counted; its last one returns the tag (R241, R300). -/
def State.retiredCpl (s : State) (p : Nat) (t : TagSt) (st : CplStatus) (data : List Byte) : State :=
  let s := s.hpCount p 0
  let got := (t.got ++ data).take t.len
  if st ≠ .sc || decide (t.len ≤ got.length) then s.dropTag p t.tag
  else s.modHp p fun h => { h with tags := h.tags.map fun u => if u.tag == t.tag then { u with got } else u }

/-- COMPLETION_RECEIVE (R232, R236, R241). `f` is the function of the requester ID. -/
def execCompletionReceive (p : Fin 2) (tag : Nat) (f : Fin 514) (st : CplStatus) (poisoned : Bool) (data : List Byte) (s : State) : Outcome :=
  .next (s.inBlock (0x10 + p.val) (islHPI p.val) fun s => match (s.hp p).tags.find? fun t => t.tag == tag with
    | none => (s.aerUnc p f aerUnexp tag true).hpReport p 8 0 f
    | some t =>
      if t.retired || t.fngen != (s.fn p t.fn).fngen then s.retiredCpl p t st data else s.liveCpl p t st poisoned data)

/-- The completion timeout of a function in ns (R233). -/
def State.cplTimeout (s : State) (p f : Nat) : Nat :=
  if s.gb (F.HP_CPLTO_OVR p) then 1000 * s.gf (F.HP_CPLTO_TMO p)
  else if (s.fn p f).cplTmo = 1 then 100000 else if (s.fn p f).cplTmo = 2 then 10000000 else 32000000

/-- HP_CPL_TIMEOUT (R233, R237, R241): an outstanding request whose time has passed. -/
def execHpCplTimeout (p : Fin 2) (tag : Nat) (s : State) : Outcome :=
  .next (s.inBlock (0x10 + p.val) (islHPI p.val) fun s => match (s.hp p).tags.find? fun t => t.tag == tag && decide (t.deadline ≤ s.now) with
    | none => s
    | some t =>
      let s := s.dropTag p tag
      if t.retired then s.hpCount p 1
      else (((s.hpCount p 2).aerUnc p t.fn aerTmo t.addr false).hpReport p 3 0 t.fn).readFail p t.read)

/-! ## Resets (R241, R242, R299) -/

/-- Stop a tenant's dirty log: its open flag clears (R299, R304). -/
def State.dirtyClose (s : State) (t : Nat) : State :=
  (s.modTenant t fun x => { x with dirty := none }).sb (F.FNM_TSTAT_DIRTY t) false

/-- Detach every VF of a tenant's port from its tenant (R299); each detach moves the VF's FNGEN on (R293, R300). -/
def State.detachAll (s : State) (p : Nat) : State :=
  (List.range 512).foldl (fun s v =>
    if s.gb (F.FNM_VFTEN_VALID p v) then
      let t := s.gf (F.FNM_VFTEN_TENANT p v)
      ((s.wrN (R.FNM_VFTEN p v) 0).sf (F.FNM_TSTAT_NVF t) 0).setFn p (v + 2) fun c => { c with fngen := (c.fngen + 1) % 256 }
    else s) s

/-- A tenant enters DESTROYING: its dirty log stops; what it holds is returned by TENANT_FREED (R291, R299). -/
def State.tenantDestroying (s : State) (t : Nat) : State :=
  ((s.dirtyClose t).modTenant t fun x => { x with quiescing := none }).sf (F.FNM_TSTAT_STATE t) 3

/-- Every tenant homed on a port enters DESTROYING, with its VFs detached (R299). -/
def State.portTenants (s : State) (p : Nat) : State :=
  (List.range 1024).foldl (fun s t =>
    let st := s.gf (F.FNM_TSTAT_STATE t)
    if (st == 1 || st == 2) && s.gf (F.FNM_TSTAT_PORT t) == p then s.tenantDestroying t else s) (s.detachAll p)

/-- A function stops: its tags are retired, its reads forgotten and its queues halted at once with a reason; FNGEN moves on, and the
bursts that a mover makes for it are aborted (R241, R242, R300, R429). -/
def State.stopFn (s : State) (p f reason : Nat) : State :=
  let s := s.haltFn p f reason
  let s := s.setFn p f fun c => { c with fngen := (c.fngen + 1) % 256 }
  let s := { s with mov := { s.mov with bursts := s.mov.bursts.map fun (b : BurstSt) =>
    if b.onHost && b.host == (p, f) then { b with aborted := true } else b } }
  s.modHp p fun h => { h with
    tags := h.tags.map fun t => if t.fn == f then { t with retired := true } else t
    reads := h.reads.filter fun r => (s.q r.queue).port ≠ p || (s.q r.queue).fn ≠ f }

/-- A function is reset (R241, R271): it stops, its admin queues are disabled, and its latches are dropped. -/
def State.resetFn (s : State) (p f : Nat) : State :=
  let s := s.stopFn p f 7
  let s := if (s.q (admQueue p f)).st = 0 then s else s.freeQueue (admQueue p f)
  let s := if (s.q (admQueue p f + 1)).st = 0 then s else s.freeQueue (admQueue p f + 1)
  s.sb (F.FN_ADMCFG_EN p f) false

/-- The functions of a port that a reset covers. -/
def ResetScope.fns (r : ResetScope) : List Nat := (List.range 514).filter r.covers

/-- A PTM exchange in progress is abandoned, VALID clears and the PTM Enable bit clears (R79). -/
def State.ptmReset (s : State) (p : Nat) : State :=
  let s := s.setTku fun k => { k with ptmT1 := tabSet (fun _ => none) k.ptmT1 p none }
  (s.sb (F.TKU_PTMCTL_VALID p) false).setFn p 0 fun c => { c with ptmEn := false }

/-- A reset starts (R241, R299): every function in its scope stops, HP_RESET is logged, and PF0's reset takes its VFs, VF Enable and the port's
tenants with it. A reset of the whole port subsumes those in progress and resets the port's VDM binding (R518); PF0's ends its store session (R512). -/
def State.resetStart (s : State) (p : Nat) (r : ResetScope) : State :=
  let s := r.fns.foldl (fun s f => s.resetFn p f) s
  let keeps (l : Latch) : Bool := match l.m with | .host q f => !(q.val == p && r.covers f.val) | _ => true
  let s := { s with latches := s.latches.filter keeps, heldLow := s.heldLow.filter keeps }
  let s := s.modHp p fun h => { h with resets := (match r with | .port _ => [r] | _ => h.resets ++ [r]) }
  let s := (match r with | .port _ => s.vdmReset p | _ => s)
  let s := if r.covers 0 then (((s.cfsHostReset p).ptmReset p).modHp p fun h => { h with vfEn := false, numVfs := 0 }).portTenants p else s
  s.hpReport p 0x0B 0 (r.fns.headD 0)

/-- HP_STATUS with the link down. -/
def State.linkStatusDown (s : State) (p : Nat) : State :=
  (((s.sb (F.HP_STATUS_LINKUP p) false).sf (F.HP_STATUS_SPEED p) 0).sf (F.HP_STATUS_WIDTH p) 0).sb (F.HP_STATUS_FLIT p) false

/-- Every register of an offset range goes back to its reset value, but those kept. -/
def State.clearRegs (s : State) (lo hi : Nat) (keep : Nat → Bool) : State :=
  { s with regs := s.regs.filter fun e => e.1 < lo || hi ≤ e.1 || keep e.1
           live := s.live.filter fun e => e.1 < lo || hi ≤ e.1 || keep e.1 }

/-- PERST_ASSERT (R241): the link is down at once, every function of the port is reset, sticky bits included, and so are the HP registers but
HP_LINKCFG and HP_STATUS. -/
def execPerstAssert (p : Fin 2) (s : State) : Outcome :=
  .next (let s := (s.linkStatusDown p).sb (F.HP_STATUS_PERST p) true
    let b := 0x1000000 + 0x100000 * p.val
    let s := s.clearRegs b (b + 0x100000) fun o => o == R.HP_LINKCFG p || o == R.HP_STATUS p
    let s := s.modHp p fun h => { h with held := [], l1 := false, l23 := false, aspmL1 := false, l1ss := false, l0pEn := false }
    s.resetStart p (.port false))

/-- PERST_DEASSERT (R241): link training may start. -/
def execPerstDeassert (p : Fin 2) (s : State) : Outcome := .next (s.sb (F.HP_STATUS_PERST p) false)

/-- A reset of the port that keeps sticky bits and HP registers (R241). -/
def State.portReset (s : State) (p : Nat) : State :=
  (s.modHp p fun h => { h with held := [], l1 := false, l23 := false }).resetStart p (.port true)

/-- HOT_RESET (R241). -/
def execHotReset (p : Fin 2) (s : State) : Outcome := .next (s.portReset p)

/-- The link goes down without a reset from the host (R241, R244): logged, and a link-down reset. -/
def State.hostLinkDown (s : State) (p : Nat) : State :=
  ((s.linkStatusDown p).hpReport p 2 2 0).portReset p

/-- HP_LINK_DOWN (R244). -/
def execHpLinkDown (p : Fin 2) (s : State) : Outcome :=
  .next (if s.gb (F.HP_STATUS_LINKUP p) then s.hostLinkDown p else s)

/-- The link may train: PERSTp_N deasserted, HOLD 0, and no reset of the port in progress (R241, R244, R245). -/
def State.canTrain (s : State) (p : Nat) : Bool :=
  !s.gb (F.HP_STATUS_PERST p) && !s.gb (F.HP_LINKCFG_HOLD p) && !s.gb (F.HP_STATUS_LINKUP p) && s.pllGood (9 + p) &&
    (s.hp p).resets.all fun r => match r with | .port _ => false | _ => true

/-- HP_LINK_UP (R222, R244): the link trains to a rate and width within HP_LINKCFG; WAKEp_N is released (R240). -/
def execHpLinkUp (p : Fin 2) (speed : Fin 7) (width : Nat) (flit : Bool) (s : State) : Outcome :=
  .next (s.inBlock (0x10 + p.val) (islHPI p.val) fun s => if s.canTrain p && decide (0 < speed.val) then
      let w := min width (if s.gb (F.HP_LINKCFG_WIDTH p) then 8 else 16)
      let s := (((s.sb (F.HP_STATUS_LINKUP p) true).sf (F.HP_STATUS_SPEED p) (min speed (s.gf (F.HP_LINKCFG_MAXSPEED p)))).sf
        (F.HP_STATUS_WIDTH p) w).sb (F.HP_STATUS_FLIT p) flit
      let s := if (s.hp p).wakeLow then s.emit (.pin (if p.val = 0 then "WAKE0_N" else "WAKE1_N") true) else s
      (s.modHp p fun h => { h with wakeLow := false, l23 := false }).hpReport p 1 0 0
    else s)

/-- HP_INTERNAL (R236, R244): an uncorrectable error in the port's buffers takes the port through a link-down reset. -/
def execHpInternal (p : Fin 2) (s : State) : Outcome :=
  .next (((s.aerUnc p 0 aerInternal 0 false).hpReport p 0x0A 3 0).hostLinkDown p)

/-- FLR_PF0 (R241): PF0 and all its VFs. -/
def execFlrPf0 (p : Fin 2) (s : State) : Outcome := .next (s.resetStart p .pf0)

/-- FLR (R241): of PF1 or a VF that function only; of PF0, as R241 says for it. -/
def execFlr (p : Fin 2) (f : Fin 514) (s : State) : Outcome :=
  .next (s.resetStart p (if f.val = 0 then .pf0 else .one f))

/-- VF_DISABLE (R299): every VF is reset as by FLR and detached; tenants stay as they are. -/
def execVfDisable (p : Fin 2) (s : State) : Outcome :=
  .next (if (s.hp p).vfEn then
      (((s.resetStart p .vfs).modHp p fun h => { h with vfEn := false, numVfs := 0 })).detachAll p
    else s)

/-- The offsets of a function's page as keys of the register file. -/
def fnPage (p f : Nat) : Nat := 0x100000000 + 0x4000000 * p + 0x10000 * f

/-- A function's registers and configuration are at reset values (R241); sticky bits are kept unless PERST asked for them too, and FN_ADMSTAT
goes on reporting the generations that the admin queues' indices hold (R250). -/
def State.fnFresh (s : State) (sticky : Bool) (p f : Nat) : State :=
  let s := s.clearRegs (fnPage p f) (fnPage p f + 0x10000) fun _ => false
  let s := (s.setQ (admQueue p f) (s.q (admQueue p f))).setQ (admQueue p f + 1) (s.q (admQueue p f + 1))
  s.setFn p f fun c =>
    if sticky then { aer := c.aer, pmeEn := c.pmeEn, pmeStatus := c.pmeStatus, fngen := c.fngen } else { fngen := c.fngen }

/-- The declarations of the functions that a reset covers end (R461); the instance 0xFF, which many functions share (R457), only with all of them. -/
def State.declsEnd (s : State) (p : Nat) (r : ResetScope) : State :=
  let l := (r.fns.filter (· ≤ 254)).map (fnBlame p) ++ (match r with | .one _ => [] | _ => [fnBlame p 255])
  (List.range 64).foldl (fun s i =>
    if s.gb (F.FLT_FAULTED_VALID i) && l.contains (s.gf (F.FLT_FAULTED_UNIT i)) then s.undeclare i else s) s

/-- HP_RESET_DONE (R241): the oldest reset of the port completes; its functions are at reset values and ready. -/
def execHpResetDone (p : Fin 2) (s : State) : Outcome :=
  .next (match (s.hp p).resets with
    | [] => s
    | r :: rest =>
      let s := (s.modHp p fun h => { h with resets := rest }).declsEnd p r
      r.fns.foldl (fun s f => s.fnFresh (match r with | .port k => k | _ => true) p f) s)

/-- BME_CLEAR (R242): requests stop, tags are retired and every queue of the function is halted, reason 6. -/
def execBmeClear (p : Fin 2) (f : Fin 514) (s : State) : Outcome :=
  .next (if (s.fn p f).bme then
      (((s.stopFn p f 6).setFn p f fun c => { c with bme := false })).hpReport p 0x0C 0 f
    else s)

/-! ## Link errors (R236) -/

/-- The AER bit of a fatal link error. -/
def fatalBit : LinkFatal → Nat
  | .malformedTlp => aerMalformed
  | .flowControl => aerFcp
  | .dataLink => aerDlp
  | .overflow => aerOverflow

/-- HP_PROTOCOL (R236): reported as fatal by PF0; the TLP is discarded, and the link retrains where the base specification requires it. -/
def execHpProtocol (p : Fin 2) (err : LinkFatal) (retrain : Bool) (s : State) : Outcome :=
  .next (s.inBlock (0x10 + p.val) (islHPI p.val) fun s => let s := (s.aerUnc p 0 (fatalBit err) 0 false).hpReport p 7 2 0
    if retrain then s.emit (.message p "RETRAIN") else s)

/-- The AER bit of a correctable error. -/
def corrBit : LinkCorr → Nat
  | .receiver => 0
  | .badTlp => 6
  | .badDllp => 7
  | .replayRollover => 8
  | .replayTimeout => 12
  | .bufferSymbol => 14

/-- HP_LINK_CORR (R236): retried by the link layer or corrected, counted and logged. -/
def execHpLinkCorr (p : Fin 2) (err : LinkCorr) (s : State) : Outcome :=
  .next (s.inBlock (0x10 + p.val) (islHPI p.val) fun s => ((s.aerCor p 0 (corrBit err)).hpCount p 12).hpReport p 9 1 0)

/-! ## Power (R238 to R240) -/

/-- L1_ENTRY (R238): with ASPM L1 enabled, after L1IDLE us with nothing pending; `idle` is how long nothing has been, in us. The substates
are used when enabled and CLKREQ = 1. -/
def execL1Entry (p : Fin 2) (idle : Nat) (s : State) : Outcome :=
  .next (s.inBlock (0x10 + p.val) (islHPI p.val) fun s => if (s.hp p).aspmL1 && s.gb (F.HP_STATUS_LINKUP p) && !(s.hp p).l1 && decide (max 1 (s.gf (F.HP_PMCFG_L1IDLE p)) ≤ idle) then
      let sub := (s.hp p).l1ss && s.gb (F.HP_LINKCFG_CLKREQ p)
      let s := s.modHp p fun h => { h with l1 := true }
      if sub then s.emit (.pin (if p.val = 0 then "CLKREQ0_N" else "CLKREQ1_N") true) else s
    else s)

/-- L1_EXIT (R238): a TLP or DLLP to send, or CLKREQ# asserted. -/
def execL1Exit (p : Fin 2) (s : State) : Outcome :=
  .next (s.inBlock (0x10 + p.val) (islHPI p.val) fun s => if (s.hp p).l1 then
      let sub := (s.hp p).l1ss && s.gb (F.HP_LINKCFG_CLKREQ p)
      let s := s.modHp p fun h => { h with l1 := false }
      if sub then s.emit (.pin (if p.val = 0 then "CLKREQ0_N" else "CLKREQ1_N") false) else s
    else s)

/-- Mb/s of one lane at a speed of HP_STATUS.SPEED. -/
def laneRate : Nat → Nat
  | 1 => 2500 | 2 => 5000 | 3 => 8000 | 4 => 16000 | 5 => 32000 | 6 => 64000 | _ => 0

/-- The narrowest L0p width whose capacity exceeds twice the demand in Mb/s, among those the link has (R238). -/
def l0pWidth (speed full demand : Nat) : Nat :=
  ([4, 8, 16].find? fun w => decide (w ≤ full) && decide (2 * demand < w * laneRate speed)).getD full

/-- L0P_WIDTH_CHANGE (R238): by the transmit demand measured over L0PWIN us, and to full width when more than 16 KiB are queued. -/
def execL0pWidthChange (p : Fin 2) (demand : Nat) (queued : Nat) (s : State) : Outcome :=
  .next (s.inBlock (0x10 + p.val) (islHPI p.val) fun s => if s.gb (F.HP_STATUS_LINKUP p) && s.gb (F.HP_PMCFG_L0PEN p) && (s.hp p).l0pEn then
      let full := if s.gb (F.HP_LINKCFG_WIDTH p) then 8 else 16
      s.sf (F.HP_STATUS_WIDTH p) (if 16384 < queued then full else l0pWidth (s.gf (F.HP_STATUS_SPEED p)) full demand)
    else s)

/-- A configuration request to a function under reset is answered with Request Retry Status (R241). -/
def State.cfgAccess (s : State) (p f : Nat) (k : State → State) : State :=
  if s.inReset p f then s.emit (.completion p f 2 []) else (k s).emit (.completion p f 0 [])

/-- D3HOT_ENTRY (R239): the function stops fetching, dispatching and writing completions; its queues keep their state. -/
def execD3hotEntry (p : Fin 2) (f : Fin 514) (s : State) : Outcome :=
  .next (s.cfgAccess p f fun s => s.setFn p f fun c => { c with d3 := true })

/-- PME_TURN_OFF (R239). -/
def execPmeTurnOff (p : Fin 2) (s : State) : Outcome :=
  .next ((s.emit (.message p "PME_TO_Ack")).modHp p fun h => { h with l23 := true })

/-- Send the MSI-X messages whose pending bits are set and whose vectors are no longer masked (R268). -/
def State.msixPending (s : State) (p f : Nat) : State :=
  let c := s.fn p f
  if !c.msixEn || c.msixMask || !c.bme then s else
  (List.range 1024).foldl (fun s v =>
    let b : Fld := ⟨R.FN_PBA p f (v / 32), v % 32, 1⟩
    if s.gb b && !s.gb (F.FN_MSIXCTL_MASK p f v) then (s.sb b false).emit (.msix p f v) else s) s

/-- A function's queues go on after it returned to D0: finished items are retired and refused ones settled (R239). -/
def State.wakeQueues (s : State) (p f : Nat) : State :=
  (s.queuesOf p f).foldl (fun s g => (s.drain g (s.q g).items.length).settleAll g) s

/-- CONFIG_WRITE (R222, R233, R237 to R242, R268, R299). -/
def execConfigWrite (p : Fin 2) (f : Fin 514) (w : CfgField) (s : State) : Outcome :=
  .next (s.cfgAccess p f fun s =>
    match w with
    | .d0 => (s.setFn p f fun c => { c with d3 := false }).wakeQueues p f
    | .mse on => s.setFn p f fun c => { c with mse := on }
    | .bmeSet => s.setFn p f fun c => { c with bme := true }
    | .vfEnable n => if f.val = 0 && decide (n ≤ 512) then s.modHp p fun h => { h with vfEn := true, numVfs := n } else s
    | .ptmEnable on => if f.val = 0 then s.setFn p f fun c => { c with ptmEn := on } else s
    | .msix on mask => (s.setFn p f fun c => { c with msixEn := on, msixMask := mask }).msixPending p f
    | .maxPayload n => s.setFn p f fun c => { c with mps := n }
    | .maxReadRequest n => s.setFn p f fun c => { c with mrrs := n }
    | .cplTimeout e => s.setFn p f fun c => { c with cplTmo := e }
    | .pme en clear => s.setFn p f fun c => { c with pmeEn := en, pmeStatus := c.pmeStatus && !clear }
    | .aspm l1 sub l0p => if f.val = 0 then s.modHp p fun h => { h with aspmL1 := l1, l1ss := sub, l0pEn := l0p } else s
    | .tagBits n => if f.val = 0 && (n == 8 || n == 10 || n == 14) then s.modHp p fun h => { h with tagBits := n } else s
    | .aerMask unc sev cor => s.setFn p f fun c => { c with aer := { c.aer with uncMask := unc, uncSev := sev, corMask := cor } }
    | .aerClear unc cor => s.setFn p f fun c =>
        { c with aer := { c.aer with unc := c.aer.unc &&& (2 ^ 32 - 1 - unc % 2 ^ 32), cor := c.aer.cor &&& (2 ^ 32 - 1 - cor % 2 ^ 32),
                                     headers := c.aer.headers.filter fun e => !bitAt unc e.1 } })

/-- The function's payload holds a magic packet for `addr`: six bytes of 0xFF and sixteen copies of the address (R240). -/
def hasMagic (addr : Nat) : List Byte → Bool
  | [] => false
  | b :: t =>
    let a := (leBytes 6 addr).reverse
    ((b :: t).take 102 == List.replicate 6 0xFF ++ (List.replicate 16 a).flatten) || hasMagic addr t

/-- A frame destined to a receive queue of a sleeping function is tested against its wake filter (R240). -/
def State.wakeTest (s : State) (p f : Nat) (frame : List Byte) : State :=
  let c := s.fn p f
  let cold := s.gb (F.HP_STATUS_PERST p)
  if c.pmeEn && (c.d3 || cold) &&
      (s.gb (F.HP_WAKE_ANY p f) || (s.gb (F.HP_WAKE_MAGIC p f) && hasMagic (s.rd64 (R.HP_WAKEADDR p f)) (frame.drop 14))) then
    let s := s.setFn p f fun c => { c with pmeStatus := true }
    if s.gb (F.HP_STATUS_LINKUP p) && !cold then s.emit (.message p "PM_PME")
    else (s.modHp p fun h => { h with wakeLow := true }).emit (.pin (if p = 0 then "WAKE0_N" else "WAKE1_N") false)
  else s

/-! ## Precision time measurement (R77 to R79) -/

/-- PTM runs on a port: the PTM Enable bit and TKU_PTMCTL.ENABLE are 1, and no exchange is in progress. -/
def State.ptmReady (s : State) (p : Nat) : Bool :=
  (s.fn p 0).ptmEn && s.gb (F.TKU_PTMCTL_ENABLE p) && (tabGet (fun _ => none) s.tku.ptmT1 p).isNone

/-- A PTM Request is sent, stamped t1 in domain 0x1000 or 0x1100 (R77). -/
def State.ptmSend (s : State) (p : Nat) : State :=
  let (t, s) := s.stamp (islHPI p) (0x1000 + 0x100 * p)
  (s.setTku fun k => { k with ptmT1 := tabSet (fun _ => none) k.ptmT1 p (some (t.time, s.now, 0)),
                              ptmLast := tabSet (fun _ => 0) k.ptmLast p s.now }).emit (.message p "PTM_Request")

/-- A write of 1 to TRIG, which acts with PERIOD 0 (R77). -/
def State.ptmTrig (s : State) (p : Nat) : State :=
  if s.ptmReady p && s.gf (F.TKU_PTMCTL_PERIOD p) == 0 then s.ptmSend p else s

/-- PTM_TRIG (R77). -/
def execPtmTrig (m : Master) (p : Fin 2) (s : State) : Outcome :=
  .next (s.asWriter m (R.TKU_PTMCTL p) fun s => s.ptmTrig p)

/-- PTM_PERIOD (R77): every PERIOD ms. -/
def execPtmPeriod (p : Fin 2) (s : State) : Outcome :=
  .next (s.inBlock 0x03 islSYS fun s => let n := s.gf (F.TKU_PTMCTL_PERIOD p)
    if s.ptmReady p && decide (0 < n) && decide (tabGet (fun _ => 0) s.tku.ptmLast p + 1000000 * n ≤ s.now) then s.ptmSend p else s)

/-- PTM_RESPONSED (R77, R78): t4 is stamped, and the correlation set written. `turnaround` is t3 - t2 in ns. -/
def execPtmResponsed (p : Fin 2) (masterTime : DWord) (turnaround : Nat) (s : State) : Outcome :=
  .next (s.inBlock (0x10 + p.val) (islHPI p.val) fun s => match tabGet (fun _ => none) s.tku.ptmT1 p with
    | none => s
    | some (t1, sentAt, _) =>
      if sentAt + 10000 < s.now then s else
      let (t4, s) := s.stamp (islHPI p) (0x1000 + 0x100 * p.val)
      let d := (t4.time - t1 - 65536 * turnaround) / 512
      let s := s.setTku fun k => { k with ptmT1 := tabSet (fun _ => none) k.ptmT1 p none }
      let s := (s.wrWide (R.TKU_PTMDEV p) 3 (fullOf (t1 + 256 * d))).wr64 (R.TKU_PTMHOST p) masterTime.toNat
      let code := if s.pubCode == 0xFF then 0xFF else boundCode (s.tku.bound + s.rdN (R.TKU_ISLUNC (islHPI p)) + d)
      ((s.wrN (R.TKU_PTMDLY p) d).sf (F.TKU_PTMCTL_BOUND p) code).sb (F.TKU_PTMCTL_VALID p) true)

/-- TKU_PTM_FAIL (R77): no ResponseD within 10 us abandons the exchange. -/
def execTkuPtmFail (p : Fin 2) (s : State) : Outcome :=
  .next (s.inBlock 0x03 islSYS fun s => match tabGet (fun _ => none) s.tku.ptmT1 p with
    | none => s
    | some (_, sentAt, _) =>
      if sentAt + 10000 ≤ s.now then
        ((s.setTku fun k => { k with ptmT1 := tabSet (fun _ => none) k.ptmT1 p none }).satInc (F.TKU_PTMCTL_FAILCNT p)).report 0x030A 0 0 []
      else s)

end Sys2Proof.Machine
end

