-- ==== Sys2Proof/Machine/Qmg.lean ====
section
/-! DEFINITION. Rings, doorbells, fetch and dispatch, the admin queues and the queue commands (R247 to R281). -/

namespace Sys2Proof.Machine

/-! ## Doorbells (R226, R251 to R254) -/

/-- A doorbell to a send, receive or command queue: the tail moves when the index is valid (R252). -/
def State.tailDoorbell (s : State) (g idx : Nat) : State :=
  let c := s.q g
  let u0 := c.dist c.tail c.ci
  let u := c.dist idx c.ci
  if idx / (2 * c.size) = 0 && decide (u0 ≤ u) && decide (u ≤ c.size) then (s.setQ g { c with tail := idx }).qmgCount c.port 0
  else (s.qmgCount c.port 2).qmgReport 0x3002 0 c.port c.fn

/-- Every queue that was waiting for a slot of a completion queue is looked at again (R267). -/
def State.settleBound (s : State) (cq : Nat) : State := (s.boundTo cq).foldl (fun s g => s.settleAll g) s

/-- A doorbell to a completion queue: the head moves, slots are freed and the interrupt is armed when the index is valid (R253, R268). -/
def State.headDoorbell (s : State) (g idx : Nat) : State :=
  let c := s.q g
  let v0 := c.dist c.tail c.ci
  let v := c.dist c.tail idx
  if idx / (2 * c.size) = 0 && decide (v ≤ v0) then
    let s := s.setQ g { c with ci := idx, times := c.times.drop (v0 - v), armed := true, unann := v }
    ((s.qmgCount c.port 0).irq g).settleBound g
  else (s.qmgCount c.port 2).qmgReport 0x3002 0 c.port c.fn

/-- A doorbell is checked in the order of R254, and then applied by the queue's type. -/
def State.doorbell (s : State) (p f i v : Nat) : State :=
  if bitsOf v 17 7 ≠ 0 then (s.qmgCount p 2).qmgReport 0x3002 0 p f else
  match s.localQ p f i with
  | none => (s.qmgCount p 3).qmgReport 0x3003 0 p f
  | some g =>
    let c := s.q g
    if bitsOf v 24 8 ≠ c.gen then (s.qmgCount p 1).qmgReport 0x3001 0 p f
    else if c.st ≠ 1 then s.qmgCount p 4
    else if c.typ = 2 then s.headDoorbell g (bitsOf v 0 17) else s.tailDoorbell g (bitsOf v 0 17)

/-- A write of MW2 (R226): a 32-bit aligned write of four bytes at a multiple of 8 is a doorbell; any other is dropped and counted. An offset beyond the
first page is not decoded (R225). -/
def State.mw2Write (s : State) (p f off be v : Nat) : State :=
  s.memAccess p f off true fun s =>
    if 0x10000 ≤ off then s.unsupported p f off true
    else if off % 8 = 0 && be == 15 then s.doorbell p f (off / 8) v
    else (s.hpCount p 7).hpReport p 5 0 f

/-- DOORBELL (R252). -/
def execDoorbell (p : Fin 2) (f : Fin 514) (off : Nat) (be : BitVec 4) (v : Word) (s : State) : Outcome :=
  .next (s.mw2Write p f off be.toNat v.toNat)

/-- CQ_DOORBELL (R253): the same path; the queue's type decides. -/
def execCqDoorbell (p : Fin 2) (f : Fin 514) (off : Nat) (be : BitVec 4) (v : Word) (s : State) : Outcome :=
  .next (s.mw2Write p f off be.toNat v.toNat)

/-! ## Fetching (R230 to R233, R255, R296) -/

/-- The requests that a function may still have outstanding (R296). -/
def State.tagRoom (s : State) (p f : Nat) : Bool :=
  match s.tenantOf p f with
  | some t => decide (((s.hp p).tags.filter fun x => x.fn == f).length < s.tArg t 12 % 2 ^ 15)
  | none => true

/-- Issue the requests of a read in order while tags are free and the function is below its limit; a wait is counted (R230, R231, R296). -/
def State.issue (s : State) (p f : Nat) : List (Nat × Nat) → ReadSt → ReadSt × State
  | [], r => ({ r with todo := [] }, s)
  | (a, n) :: rest, r =>
    if !s.tagRoom p f then
      ({ r with todo := (a, n) :: rest }, match s.tenantOf p f with | some t => s.bump (R.FNM_TCNT t 1) | none => s)
    else
      match s.pick (2 ^ (s.hp p).tagBits) fun k => (s.hp p).tags.all fun t => t.tag ≠ k with
      | (none, s) => ({ r with todo := (a, n) :: rest }, s.hpCount p 11)
      | (some k, s) =>
        let t : TagSt := ⟨k, f, (s.fn p f).fngen, a, n, [], s.now + s.cplTimeout p f, false, r.id⟩
        let s := (s.modHp p fun h => { h with tags := h.tags ++ [t] }).emit (.hostRead p f k a n)
        State.issue s p f rest { r with open_ := r.open_ + 1 }

/-- QMG may read entries of a queue (R239, R242, R249, R284). -/
def State.canFetch (s : State) (g : Nat) : Bool :=
  let c := s.q g
  c.st == 1 && c.typ != 2 && (s.fn c.port c.fn).bme && !(s.fn c.port c.fn).d3 && !s.inReset c.port c.fn && !s.quiet c.port c.fn && !s.devFatal

/-- RING_FETCH (R255): a read of at most 512 bytes, not across the ring's end, of entries between the fetch pointer and the tail. A read whose requests
could not all be issued goes on first. -/
def execRingFetch (g : Fin 131072) (s : State) : Outcome :=
  .next (s.inBlock 0x30 islSYS fun s => let c := s.q g
    let p := c.port
    if !s.canFetch g || c.fault then s else
    match (s.hp p).reads.find? fun r => r.queue == g.val && !r.todo.isEmpty with
    | some r =>
      let (r', s) := s.issue p c.fn r.todo r
      s.modHp p fun h => { h with reads := h.reads.map fun x => if x.id == r.id then r' else x }
    | none =>
      let n := min (min (c.dist c.tail c.fetch) (512 / c.entryBytes)) (c.size - c.slotOf c.fetch)
      if n = 0 then s else
      let a := c.base + c.entryBytes * c.slotOf c.fetch
      let r : ReadSt := ⟨(s.hp p).nextRead, g, c.gen, c.fetch, n, [], 0, [], false⟩
      let s := (s.modHp p fun h => { h with nextRead := h.nextRead + 1 }).qmgCount p 5
      let (r, s) := s.issue p c.fn (readSplit (s.fn p c.fn).mrrs a (n * c.entryBytes)) r
      (s.modHp p fun h => { h with reads := h.reads ++ [r] }).setQ g { c with fetch := c.step c.fetch n })

/-- 32-bit words of bytes. -/
def words32 : Nat → List Byte → List Nat
  | 0, _ => []
  | n + 1, l => ofLe (l.take 4) :: words32 n (l.drop 4)

/-- The words of entry `k` of `n` bytes in a read's data. -/
def entryWords (data : List Byte) (n k : Nat) : List Nat := words32 (n / 4) ((data.drop (n * k)).take n)

/-- Put a read's parts together in address order. -/
def assemble (parts : List (Nat × List Byte)) : List Byte :=
  ((parts.mergeSort fun a b => decide (a.1 ≤ b.1)).map (·.2)).flatten

/-! ## Send entries (R256 to R259) -/

/-- A send entry breaks its format (R258). -/
def sendBad (gen : Nat) (w : List Nat) : Bool :=
  let c := w.getD 2 0
  bitsOf c 24 8 != gen || bitsOf c 20 4 != 0 || w.getD 3 0 != 0 || bitsOf c 0 16 == 0 ||
    (!bitAt c 16 && (bitsOf c 18 2 != 0 || w.getD 4 0 != 0 || w.getD 5 0 != 0))

/-- Close the open chain or run of a send queue as an item, with a status where it is refused (R257, R258). -/
def State.closeChain (s : State) (g : Nat) (t : Stamp) (status : Option Nat) : State :=
  let c := s.q g
  let n := c.open_.length
  let total := (c.open_.map fun e => bitsOf (e.2.getD 2 0) 0 16).sum
  let status : Option Nat := match status with
    | some x => some x
    | none => if total < 14 then some 1 else if 16380 < total then some 4 else none
  let last := (c.open_.getLast?.map (·.1)).getD 0
  let i : Item := { id := c.nextItem, kind := (match status with | some x => .bad x | none => .chain), slot := c.slotOf last,
                    after := c.step last 1, entries := c.open_.map (·.2), stamp := t }
  let s := s.setQ g { c with open_ := [], run := false, items := c.items ++ [i], nextItem := c.nextItem + 1,
                             nBad := if status = some 1 || status = some 2 then sat32 (c.nBad + n) else c.nBad }
  if status = some 1 then (s.bumpBy (R.QMG_CNT c.port 6) n).qmgReport 0x3004 0 c.port c.fn
  else if status = some 2 then (s.qmgCount c.port 7).qmgReport 0x3005 0 c.port c.fn
  else s

/-- One send entry, at ring index `idx`, joins the chains of its queue (R257, R258). -/
def State.sendEntry (s : State) (g : Nat) (t : Stamp) (idx : Nat) (w : List Nat) : State :=
  let c := s.q g
  let ctl := w.getD 2 0
  let s := if !c.open_.isEmpty && bitAt ctl 16 then s.closeChain g t (some 2) else s
  let c := s.q g
  let run := if c.open_.isEmpty then !bitAt ctl 16 else c.run
  let s := s.setQ g { c with open_ := c.open_ ++ [(idx, w)], run }
  if sendBad c.gen w then s.closeChain g t (some 1)
  else if bitAt ctl 17 then s.closeChain g t (if run then some 2 else none)
  else if c.open_.length + 1 = 16 then s.closeChain g t (some 2)
  else s

/-- A command entry breaks its format: its GEN, a reserved bit of words 0 to 4, or its OPCODE (R272, R274, R287, and the chapters that own the rest). -/
def cmdBad (gen : Nat) (known : Nat → Bool) (w : List Nat) : Bool :=
  let w0 := w.getD 0 0
  bitsOf w0 8 8 != gen || w.getD 1 0 / 1024 != 0 || w.getD 4 0 / 65536 != 0 || !known (w0 % 256)

/-- The opcodes that some chapter assigns (R274, R287, R364, R381). -/
def knownOpcode (o : Nat) : Bool :=
  (1 ≤ o && decide (o ≤ 7)) || (0x10 ≤ o && decide (o ≤ 0x1F) && o != 0x17 && o != 0x1B) || (0x40 ≤ o && decide (o ≤ 0x43)) ||
    (0x60 ≤ o && decide (o ≤ 0x63))

/-- One command entry becomes an item (R272). -/
def State.cmdEntry (s : State) (g idx : Nat) (w : List Nat) : State :=
  let c := s.q g
  let bad := cmdBad c.gen knownOpcode w
  let i : Item := { id := c.nextItem, kind := (if bad then .bad 1 else .cmd), slot := c.slotOf idx, after := c.step idx 1, entries := [w],
                    stamp := noStamp }
  let s := s.setQ g { c with items := c.items ++ [i], nextItem := c.nextItem + 1, nBad := if bad then sat32 (c.nBad + 1) else c.nBad }
  if bad then (s.qmgCount c.port 6).qmgReport 0x3004 0 c.port c.fn else s

/-- A work request becomes an item of a send queue that a transport context is bound to (R388). -/
def State.workEntry (s : State) (g : Nat) (t : Stamp) (idx : Nat) (w : List Nat) : State :=
  let c := s.q g
  s.setQ g { c with items := c.items ++ [{ id := c.nextItem, kind := .work, slot := c.slotOf idx, after := c.step idx 1, entries := [w], stamp := t }],
                    nextItem := c.nextItem + 1 }

/-- One fetched entry of a queue, by the queue's type. -/
def State.takeEntry (s : State) (g : Nat) (t : Stamp) (idx : Nat) (w : List Nat) : State :=
  let c := s.q g
  if c.typ = 1 then s.setQ g { c with posts := c.posts ++ [(idx, w)] }
  else if c.typ = 3 then s.cmdEntry g idx w
  else if c.xpt.isSome then s.workEntry g t idx w
  else s.sendEntry g t idx w

/-- The entries of a read, from entry `k` on. -/
def State.takeEntries (s : State) (g : Nat) (t : Stamp) (r : ReadSt) (data : List Byte) : Nat → Nat → State
  | 0, _ => s
  | n + 1, k =>
    let c := s.q g
    State.takeEntries (s.takeEntry g t (c.step r.first k) (entryWords data c.entryBytes k)) g t r data n (k + 1)

/-- Whether a read has nothing more outstanding. -/
def ReadSt.over (r : ReadSt) : Bool := r.open_ == 0 && r.todo.isEmpty

/-- FETCH_COMPLETE (R52, R255): the oldest ring read of a queue has all its completions. A read of a queue's older generation is discarded; after
a failed one the entries fetched before it proceed, and the queue enters STOPPING. -/
def execFetchComplete (g : Fin 131072) (s : State) : Outcome :=
  .next (s.inBlock 0x30 islSYS fun s => let c := s.q g
    let p := c.port
    match (s.hp p).reads.find? fun r => r.queue == g.val with
    | none => s
    | some r =>
      if !r.over then s else
      let s := s.modHp p fun h => { h with reads := h.reads.filter fun x => x.id ≠ r.id }
      if r.gen ≠ c.gen || c.st ≠ 1 then s
      else if r.failed then
        let s := (s.modHp p fun h => { h with reads := h.reads.filter fun x => x.queue ≠ g.val })
        (s.modQ g fun c => { c with fault := true }).settleAll g
      else if c.typ = 0 then
        let (t, s) := s.stamp islSYS (0x3000 + p)
        let s := s.qTrace g t 0x20 r.first r.count 0
        (s.takeEntries g t r (assemble r.parts) r.count 0).settleAll g
      else (s.takeEntries g noStamp r (assemble r.parts) r.count 0).settleAll g)

/-! ## Dispatch (R182, R257, R267) -/

/-- A TMG node's state at reset (R200). -/
def nodeDefault (k : Nat) : NodeSt :=
  let l := k / 2 ^ 20
  ⟨(if l = 4 then 0 else 4) + (if l = 3 then k % 8 * 1024 else 0), 0, if l = 0 then 16384 else 65536, if l = 0 then 8192 else 0, 0⟩

/-- The node of a level and index. -/
def State.node (s : State) (l i : Nat) : NodeSt := tabGet nodeDefault s.tmg.nodes (l * 2 ^ 20 + i)

/-- An L0 queue's frames. -/
def State.tmq (s : State) (q : Nat) : TmqSt := tabGet (fun _ => {}) s.tmg.queues q

/-- The 64-byte units that a frame takes, through its FCS (R181). -/
def pktUnits (p : Pkt) : Nat := (p.bytes.length + 4 + 63) / 64

/-- The units that an L0 queue holds. -/
def TmqSt.depth (q : TmqSt) : Nat := (q.frames.map fun f => pktUnits f.1).sum


/-- QMG holds back a send queue while its L0 queue has no room for a maximal frame (R182). -/
def State.tmqHolds (s : State) (q : Nat) : Bool := decide (bitsOf (s.node 0 q).w2 0 24 < (s.tmq q).depth + 257)

/-- The requester charged for frames that a function sends (R410). -/
def State.senderReq (s : State) (p f : Nat) : Nat :=
  match s.tenantOf p f with
  | some t => t
  | none => 1040 + 2 * p + (if f = 1 then 1 else 0)

/-- The frame of a chain as it enters the pipeline (R111, R257, R264): its buffers joined and padded to 60 bytes, in a buffer of its own where one is free. -/
def State.chainPkt (s : State) (g : Nat) (i : Item) (l : List Byte) : State :=
  let c := s.q g
  let w0 := i.entries.headD []
  let bytes := if l.length < 60 then fitBytes 60 l else l
  let (r, s) := s.alloc (128 + bytes.length) (s.senderReq c.port c.fn) true true (fnmBlame c.fn) (fnWord c.port c.fn)
  let k : Pkt := { bytes, src := some (c.port, c.fn), pipe := c.pipe, profile := c.profile, rx := i.stamp, deftmq := c.deftmq,
                   buf := (match r with | .got h => some h | _ => none), send := some ⟨g, c.gen, i.id⟩, csum := bitAt (w0.getD 2 0) 19,
                   launch := if bitAt (w0.getD 2 0) 18 then some (w0.getD 4 0 + w0.getD 5 0 * 2 ^ 32) else none }
  s.modPipe c.pipe fun x => { x with sendIn := x.sendIn ++ [k] }

/-- The data of a chain's buffers, none if any read failed; each is as long as its entry says. -/
def chainData : List (List Nat) → List (Option (List Byte)) → Option (List Byte)
  | [], _ => some []
  | _ :: _, [] => none
  | _ :: _, none :: _ => none
  | w :: ws, some l :: ls => (chainData ws ls).map fun t => fitBytes (bitsOf (w.getD 2 0) 0 16) l ++ t

/-- SEND_DISPATCH (R257, R259, R267): the oldest chain not yet dispatched takes a reserved slot and enters its pipeline with the data of its
buffers, or completes with ADDRESS_FAULT when a buffer read failed. -/
def execSendDispatch (g : Fin 131072) (buffers : List (Option (List Byte))) (s : State) : Outcome :=
  .next (s.inBlock 0x30 islSYS fun s => let c := s.q g
    if c.typ ≠ 0 || !s.canFetch g then s else
    match c.items.find? fun i => i.disp.isNone with
    | none => s
    | some i =>
      if i.kind ≠ .chain || s.tmqHolds c.deftmq then s
      else if (s.q c.cq).freeSlots = 0 then s.qmgCount c.port 15
      else
        let s := s.modQ c.cq fun y => { y with res := y.res + 1 }
        let s := s.modQ g fun y => { y with items := y.items.map fun j => if j.id == i.id then { j with disp := some c.gen } else j }
        match chainData i.entries buffers with
        | some l => (s.chainPkt g i l).settleAll g
        | none => (s.qmgCount c.port 8).complete g i.id { status := 3, kind := 0, stamp := i.stamp })

/-! ## Receive (R260, R261) -/

/-- A receive posting breaks its format (R260, R261). -/
def postBad (gen : Nat) (w : List Nat) : Bool :=
  let c := w.getD 2 0
  bitsOf c 16 8 != gen || bitsOf c 24 8 != 0 || w.getD 3 0 != 0 || bitsOf c 0 16 == 0

/-- The postings that a frame of `n` bytes needs: taken oldest first until they hold it or one is malformed, as (postings, malformed). -/
def needPosts (gen n : Nat) : List (Nat × List Nat) → List (Nat × List Nat) × Bool
  | [] => ([], false)
  | e :: rest =>
    if postBad gen e.2 then ([e], true)
    else
      let z := bitsOf (e.2.getD 2 0) 0 16
      if n ≤ z then ([e], false) else let (l, b) := needPosts gen (n - z) rest; (e :: l, b)

/-- Write a frame into postings in turn; answers the bytes written. -/
def State.fillPosts (s : State) (p f : Nat) (l : List Byte) : List (Nat × List Nat) → Nat × State
  | [] => (0, s)
  | e :: rest =>
    let k := min (bitsOf (e.2.getD 2 0) 0 16) l.length
    let s := s.fnWrite p f (e.2.getD 0 0 + e.2.getD 1 0 * 2 ^ 32) (l.take k)
    let (n, s) := State.fillPosts s p f (l.drop k) rest
    (n + k, s)

/-- Log an event of a queue at most once in 1 ms. -/
def onceMs (at_ : Option Nat) (now : Nat) : Bool := match at_ with | some t => decide (t + 1000000 ≤ now) | none => true

/-- What becomes of a frame delivered to a receive queue; a drop names the status with which a sent frame completes (log entry 31). -/
inductive RxRes where
  | dropped (status : Nat)
  | done
  deriving DecidableEq, Repr

/-- The parse-record fields of a receive completion's word 7 (R264), beside NPOST. -/
def rxWord7 (rec : List Nat) : Nat :=
  let w0 := rec.getD 0 0
  let pay := bitsOf (rec.getD 4 0) 20 10
  bitsOf w0 26 2 * 2 ^ 5 + bitsOf w0 28 2 * 2 ^ 7 + bitsOf w0 30 2 * 2 ^ 9 + bitsOf w0 19 1 * 2 ^ 11 + bitsOf w0 20 1 * 2 ^ 12 +
    bitsOf w0 25 1 * 2 ^ 13 + bitsOf w0 18 1 * 2 ^ 14 + bitsOf w0 13 4 * 2 ^ 15 + pay * 2 ^ 19

/-- Deliver a frame to a receive queue by the lines of R261, in order. `k.status` is the status the pipeline gives. -/
def State.deliverRx (s : State) (g : Nat) (k : Pkt) : RxRes × State :=
  let c := s.q g
  let s := if c.st = 0 then s else s.wakeTest c.port c.fn k.bytes
  if c.typ ≠ 1 || c.st ≠ 1 then (.dropped 5, s.qmgCount c.port 11)
  else if (s.fn c.port c.fn).d3 || s.gb (F.HP_STATUS_PERST c.port) then (.dropped 5, s.hpCount c.port 10)
  else if s.quiet c.port c.fn then
    (.dropped 5, match s.tenantOf c.port c.fn with | some t => s.bump (R.FNM_TCNT t 0) | none => s)
  else if (s.q c.cq).freeSlots = 0 then
    let s := (s.setQ g { c with nCqFull := sat32 (c.nCqFull + 1), cqFullAt := if onceMs c.cqFullAt s.now then some s.now else c.cqFullAt }).qmgCount c.port 9
    (.dropped 6, if onceMs c.cqFullAt s.now then s.qmgReport 0x3008 0 c.port c.fn else s)
  else
    let posts := c.posts.take 16
    let room := (posts.map fun e => bitsOf (e.2.getD 2 0) 0 16).sum
    if room < k.bytes.length && decide (posts.length < 16) then
      let s := (s.setQ g { c with nRqEmpty := sat32 (c.nRqEmpty + 1), rqEmptyAt := if onceMs c.rqEmptyAt s.now then some s.now else c.rqEmptyAt }).qmgCount c.port 10
      (.dropped 6, if onceMs c.rqEmptyAt s.now then s.qmgReport 0x300A 0 c.port c.fn else s)
    else
      let (use, bad) := needPosts c.gen k.bytes.length posts
      let first := (use.headD (0, [])).1
      let s := s.setQ g { c with posts := c.posts.drop use.length, ci := c.step c.ci use.length,
                                 nBad := if bad then sat32 (c.nBad + 1) else c.nBad }
      let (n, s) := if bad then (0, (s.qmgCount c.port 6).qmgReport 0x3004 0 c.port c.fn) else s.fillPosts c.port c.fn k.bytes use
      let status := if bad then 1 else if n < k.bytes.length then 4 else k.status
      let (t, s) := s.writeCpl c.cq c.loc (c.slotOf first) c.gen
        { status, kind := 1, bytes := n, stamp := k.rx, w6 := k.prec.getD 1 0, w7 := use.length + rxWord7 k.prec }
      let s := s.qTrace g t 0x21 (c.slotOf first) 0 status
      (if bad then .dropped 5 else .done, if bad then s.errHalt g else s)

/-! ## Interrupts and stops (R249, R268) -/

/-- COAL_TIMER (R268). -/
def execCoalTimer (g : Fin 131072) (s : State) : Outcome := .next (s.inBlock 0x30 islSYS fun s => s.irq g)

/-- A queue's dispatched items that have not completed (R249). -/
def QCtx.busy (c : QCtx) : Bool := c.items.any fun i => i.disp.isSome

/-- The queue that a waiting DESTROY_QUEUE named was halted at once: it passes to FREE now; a waiting STOP_QUEUE just completes (R249, R275). -/
def State.waiterDone (s : State) (g : Nat) : State :=
  let c := s.q g
  match c.waiter with
  | none => s
  | some (q, id) =>
    let op := match (s.q q).items.find? fun i => i.id == id with | some i => (i.entries.headD []).headD 0 % 256 | none => 4
    let s := s.setQ g { c with waiter := none }
    (if op = 3 then s.freeQueue g else s).cmdDone q id 0 0 0 0 0 0

/-- QUEUE_DRAIN_DONE (R249): a STOPPING queue with no dispatched item left comes to rest. -/
def execQueueDrainDone (g : Fin 131072) (s : State) : Outcome :=
  .next (s.inBlock 0x30 islSYS fun s => let c := s.q g
    if c.st = 2 && !c.busy then s.rested g else if c.st = 3 then s.waiterDone g else s)

/-- Abort the items still in the device, in ring order (R249). -/
def State.abortItems (s : State) (g : Nat) : List Item → State
  | [] => s
  | i :: rest =>
    let s := match i.disp, i.done with
      | some _, none => if (s.q g).typ = 3 then s.cmdDone g i.id 0x0D 0 0 0 0 0 else s.finish g i.id { status := 0x0D, kind := 0, stamp := i.stamp }
      | _, _ => s
    State.abortItems s g rest

/-- QUEUE_STOP_TIMEOUT (R249): 1 ms after entry to STOPPING. -/
def execQueueStopTimeout (g : Fin 131072) (s : State) : Outcome :=
  .next (s.inBlock 0x30 islSYS fun s => let c := s.q g
    if c.st = 2 && decide (c.stopAt + 1000000 ≤ s.now) then (s.abortItems g c.items).rested g else s)

/-! ## The admin queue (R271, R281) -/

/-- A ring base breaks R248. -/
def baseBad (base log2 entry : Nat) : Bool := base % min (entry * 2 ^ log2) 4096 != 0

/-- MSI-X vectors of a function (R223). -/
def vectorsOf (f : Nat) : Nat := if f = 0 then 1024 else if f = 1 then 32 else 64

/-- The admin queues RUNNING with new generations (R250, R271, R282). -/
def State.admCreate (s : State) (p f v : Nat) : State :=
  let a := admQueue p f
  let q0 := s.q a
  let q1 := s.q (a + 1)
  let s := s.setQ a { st := 1, gen := (q0.gen + 1) % 256, port := p, fn := f, w5 := 3 + bitsOf v 0 4 * 16, base := s.rd64 (R.FN_ADMBASE p f),
                      w8 := 1, cq := a + 1, nextItem := q0.nextItem, stale := q0.stale }
  s.setQ (a + 1) { st := 1, gen := (q1.gen + 1) % 256, port := p, fn := f, w5 := 2 + bitsOf v 4 4 * 16 + 512, base := s.rd64 (R.FN_ADMCBASE p f),
                   w9 := bitsOf v 8 10 + bitsOf v 18 1 * 1024, armed := true, nextItem := q1.nextItem, stale := q1.stale }

/-- The last enable or disable was refused (R281). -/
def State.admErr (s : State) (p f : Nat) : State := s.sb (F.FN_ADMSTAT_ERR p f) true

/-- A write of FN_ADMCFG with EN = 1 while EN is 0 (R271, R281). -/
def State.admEnable (s : State) (p f v : Nat) : State :=
  let a := admQueue p f
  let sq := bitsOf v 0 4
  let cqn := bitsOf v 4 4
  let s := s.wrN (R.FN_ADMCFG p f) (v % 2 ^ 19)
  if sq < 4 || 12 < sq || cqn < 4 || 12 < cqn || baseBad (s.rd64 (R.FN_ADMBASE p f)) sq 64 || baseBad (s.rd64 (R.FN_ADMCBASE p f)) cqn 32 ||
      decide (vectorsOf f ≤ bitsOf v 8 10) || (s.q a).st ≠ 0 || (s.q (a + 1)).st ≠ 0 then s.admErr p f
  else ((s.sb (F.FN_ADMCFG_EN p f) true).sb (F.FN_ADMSTAT_ERR p f) false).admCreate p f v

/-- One admin queue goes through STOPPING to FREE (R249). -/
def State.admStop (s : State) (g : Nat) : State :=
  let c := s.q g
  if c.st = 3 then s.freeQueue g
  else if c.st = 2 then s.setQ g { c with reason := 2 }
  else s.stopQueue g 2

/-- A write of FN_ADMCFG with EN = 0 while EN is 1 (R271). -/
def State.admDisable (s : State) (p f : Nat) : State :=
  let a := admQueue p f
  if (s.boundTo (a + 1)).any (fun g => g ≠ a && (s.q g).typ == 3) then s.admErr p f
  else (((s.sb (F.FN_ADMCFG_EN p f) false).sb (F.FN_ADMSTAT_ERR p f) false).admStop a).admStop (a + 1)

/-- A write of FN_ADMCFG by the function (R271, R281): while EN reads 1, one that would change a Quiet field is dropped whole. -/
def State.writeAdmcfg (s : State) (m : Master) (p f v : Nat) : State :=
  let old := s.rdN (R.FN_ADMCFG p f)
  if bitAt old 31 then
    if bitsOf v 0 19 ≠ bitsOf old 0 19 then s.cfgViol m (0x100 + 0x80000)
    else if bitAt v 31 then s else s.admDisable p f
  else if bitAt v 31 then s.admEnable p f v
  else s.wrN (R.FN_ADMCFG p f) (v % 2 ^ 19)

/-- ADMIN_ENABLE (R271): a write of FN_ADMCFG, with EN = 1. -/
def execAdminEnable (p : Fin 2) (f : Fin 514) (v : Word) (s : State) : Outcome :=
  .next (s.memAccess p f 0x100 true fun s => s.writeAdmcfg (.host p f) p f (putBits v.toNat 31 1 1))

/-- ADMIN_DISABLE (R271): a write of FN_ADMCFG, with EN = 0. -/
def execAdminDisable (p : Fin 2) (f : Fin 514) (v : Word) (s : State) : Outcome :=
  .next (s.memAccess p f 0x100 true fun s => s.writeAdmcfg (.host p f) p f (putBits v.toNat 31 1 0))

/-! ## Commands (R272 to R276) -/

/-- What a command answers: a status, the RESULT words, the response for RESPADDR and the state it leaves. -/
structure CmdRes where
  status : Nat
  st : State
  r0 : Nat := 0
  r1 : Nat := 0
  r2 : Nat := 0
  r3 : Nat := 0
  resp : List Byte := []

/-- A command as its meaning sees it: its queue and item, the issuing function, the target and the entry's words. -/
structure CmdCtx where
  g : Nat
  id : Nat
  port : Nat
  fn : Nat
  target : Nat
  w : List Nat

/-- Word `k` of a command entry. -/
def CmdCtx.arg (c : CmdCtx) (k : Nat) : Nat := c.w.getD k 0

/-- A command queue's head command can start, with its item: it is the oldest one not completed, nothing of the queue is in execution, and the queue may dispatch
(R249, R274, R284). -/
def State.headCmd (s : State) (g op : Nat) : Option Item :=
  let c := s.q g
  if c.typ ≠ 3 || !s.canFetch g then none else
  match c.items with
  | i :: _ => if i.disp.isNone && i.kind == .cmd && (i.entries.headD []).headD 0 % 256 == op then some i else none
  | [] => none

/-- Who may name another function in TARGET (R272, R286, R378, R383): PF0 for the queue and transport commands of any function of its port, and itself only
otherwise. Tenant and crypto commands are taken on PF0's admin queue alone. -/
def targetOk (admin : Bool) (fn target op : Nat) : Bool :=
  if (2 ≤ op && op ≤ 7) || 0x60 ≤ op then fn == 0 || target == fn
  else if 0x10 ≤ op then admin && fn == 0 && target == 0
  else target == fn

/-- Run the head command of a queue when it has this opcode (R267, R272 to R274): a slot is reserved, TARGET is checked, and the command's answer is
written, its response before its completion. `none` leaves the command in execution. -/
def State.command (s : State) (g op : Nat) (body : State → CmdCtx → Option CmdRes × State) : State :=
  if !s.works 0x30 islSYS then s else
  match s.headCmd g op with
  | none => s
  | some i =>
    let c := s.q g
    if (s.q c.cq).freeSlots = 0 then s.qmgCount c.port 15 else
    let s := s.modQ c.cq fun y => { y with res := y.res + 1 }
    let s := s.modQ g fun y => { y with items := y.items.map fun j => if j.id == i.id then { j with disp := some c.gen } else j }
    let w := i.entries.headD []
    let x : CmdCtx := ⟨g, i.id, c.port, c.fn, w.getD 1 0 % 1024, w⟩
    if 514 ≤ x.target || !targetOk (g == admQueue c.port c.fn) c.fn x.target op then s.cmdDone g i.id 0x82 0 0 0 0 0 else
    match body s x with
    | (none, s) => s
    | (some r, _) =>
      let n := min r.resp.length (w.getD 4 0)
      let s := r.st.fnWrite c.port c.fn (w.getD 2 0 + w.getD 3 0 * 2 ^ 32) (r.resp.take n)
      s.cmdDone g i.id r.status n r.r0 r.r1 r.r2 r.r3

/-- A command that answers at once. -/
def State.commandNow (s : State) (g op : Nat) (body : State → CmdCtx → CmdRes) : State :=
  s.command g op fun s x => (some (body s x), s)

/-- NOP (R274). -/
def execNop (g : Fin 131072) (s : State) : Outcome := .next (s.commandNow g 1 fun s _ => ⟨0, s, 0, 0, 0, 0, []⟩)

/-- A refused command changes nothing (R274). -/
def refused (s : State) (status : Nat) : CmdRes := ⟨status, s, 0, 0, 0, 0, []⟩

/-- The reserved bits of a queue command's ARGS are 0 (R275): words 5 to 15, by the masks of what the command and TYPE use. -/
def argsOk (x : CmdCtx) (m5 m8 m9 : Nat) (useBase : Bool) : Bool :=
  (x.arg 5 &&& (2 ^ 32 - 1 - m5)) == 0 && (useBase || (x.arg 6 == 0 && x.arg 7 == 0)) && (x.arg 8 &&& (2 ^ 32 - 1 - m8)) == 0 &&
    (x.arg 9 &&& (2 ^ 32 - 1 - m9)) == 0 && (List.range 6).all fun k => x.arg (10 + k) == 0

/-- The mask of word 9 for a TYPE at CREATE_QUEUE (R275). -/
def mask9 (typ : Nat) : Nat := if typ = 0 then 0x1FFFFFF else if typ = 2 then 0x1FFFFFFF else 0

/-- The events of a refused charge of a pool (R285). -/
def State.poolExhausted (s : State) (p f : Nat) : State := s.reportFn 0x2006 0 0x2000 p f

/-- CREATE_QUEUE's pool and quota checks (R285, R295): none when the queue may be created, else the state with the refusal counted or logged. A VF without
a tenant has an empty pool. -/
def State.poolRefuses (s : State) (p f : Nat) : Option State :=
  let lim := s.rdN (R.FNM_POOL p 0)
  if lim ≠ 0 && decide (lim ≤ s.rdN (R.FNM_POOLUSE p 0)) then some (s.poolExhausted p f)
  else if f < 2 then none else
  match s.tenantOf p f with
  | some t => if s.tenantQueues t < s.tArg t 6 % 2 ^ 17 then none else some (s.bump (R.FNM_TCNT t 4))
  | none => some s

/-- A send queue's DEFTMQ and PROFILE are the function's to use (R295). -/
def State.sendOk (s : State) (p f w9 : Nat) : Bool :=
  if f < 2 then true else
  match s.tenantOf p f with
  | some t =>
    let set := bitsOf w9 0 17 / 8
    let base := bitsOf (s.tArg t 7) 0 14
    decide (base ≤ set) && decide (set < base + bitsOf (s.tArg t 7) 14 15) && bitsOf w9 19 6 == bitsOf (s.tArg t 12) 16 6
  | none => false

/-- The completion queue that CREATE_QUEUE names can take the queue (R247, R275). -/
def State.cqOk (s : State) (cq : Option Nat) (typ : Nat) : Bool :=
  match cq with
  | none => false
  | some g => (s.q g).typ == 2 && (s.boundTo g).all fun q => ((s.q q).typ == 3) == (typ == 3)

/-- CREATE_QUEUE (R250, R275, R285, R295). -/
def State.createQueue (s : State) (x : CmdCtx) : CmdRes :=
  let p := x.port
  let f := x.target
  let w5 := x.arg 5
  let typ := bitsOf w5 0 2
  let l := bitsOf w5 4 5
  let loc := bitsOf w5 9 13
  let base := x.arg 6 + x.arg 7 * 2 ^ 32
  let cq := if typ = 2 then some 0 else s.localQ p f (x.arg 8 % 8192)
  let entry := if typ = 1 then 16 else if typ = 3 then 64 else 32
  if !argsOk x 0xFFFFF3 (if typ = 2 then 0 else 0x1FFF) (mask9 typ) true then refused s 0x81
  else if loc < 2 || l < 4 || 16 < l || baseBad base l entry || (typ == 2 && decide (vectorsOf f ≤ bitsOf (x.arg 9) 0 10)) ||
      (typ != 2 && !s.cqOk cq typ) || (typ == 0 && !s.sendOk p f (x.arg 9)) then refused s 0x81
  else if (s.localQ p f loc).isSome then refused s 0x85
  else
    match s.poolRefuses p f, s.pick (131072 - 2056) fun k => (s.q (k + 2056)).st == 0 with
    | some s, _ => refused s 0x80
    | none, (none, _) => refused s 0x80
    | none, (some k, s) =>
      let g := k + 2056
      let o := s.q g
      let gen := (o.gen + 1) % 256
      let s := s.setQ g { st := 1, gen, port := p, fn := f, w5, base, w8 := x.arg 8, w9 := x.arg 9, cq := cq.getD 0, armed := typ == 2,
                          nextItem := o.nextItem, stale := o.stale }
      let s := s.wrN (R.FNM_POOLUSE p 0) (s.rdN (R.FNM_POOLUSE p 0) + 1)
      { status := 0, st := s, r0 := g, r1 := gen }

def execCreateQueue (g : Fin 131072) (s : State) : Outcome := .next (s.commandNow g 2 State.createQueue)

/-- The queue that a command names in LOCAL, once its reserved bits are 0 and LOCAL is in range. -/
def State.cmdQueue (s : State) (x : CmdCtx) (m9 : Nat) (k : Nat → CmdRes) : CmdRes :=
  let loc := bitsOf (x.arg 5) 9 13
  if !argsOk x 0x3FFE00 0 m9 false || loc < 2 then refused s 0x81 else
  match s.localQ x.port x.target loc with
  | none => refused s 0x85
  | some g => k g

/-- DESTROY_QUEUE (R249, R275): a RUNNING queue stops first, and the command completes once it is FREE; a completion queue with queues bound answers IN_USE. -/
def State.destroyQueue (s : State) (x : CmdCtx) : Option CmdRes × State :=
  let loc := bitsOf (x.arg 5) 9 13
  match (if !argsOk x 0x3FFE00 0 0 false || loc < 2 then some 0x81 else none), s.localQ x.port x.target loc with
  | some e, _ => (some (refused s e), s)
  | none, none => (some (refused s 0x85), s)
  | none, some g =>
    let c := s.q g
    if (c.typ = 2 && !(s.boundTo g).isEmpty) || c.xpt.isSome then (some (refused s 0x83), s)
    else if c.st = 3 then (some { status := 0, st := s.freeQueue g }, s)
    else if c.st = 1 then (none, (s.modQ g fun c => { c with waiter := some (x.g, x.id) }).stopQueue g 2)
    else (some (refused s 0x84), s)

def execDestroyQueue (g : Fin 131072) (s : State) : Outcome := .next (s.command g 3 State.destroyQueue)

/-- STOP_QUEUE (R275): accepted in RUNNING; completes once the queue is HALTED. -/
def State.stopCmd (s : State) (x : CmdCtx) : Option CmdRes × State :=
  let loc := bitsOf (x.arg 5) 9 13
  match (if !argsOk x 0x3FFE00 0 0 false || loc < 2 then some 0x81 else none), s.localQ x.port x.target loc with
  | some e, _ => (some (refused s e), s)
  | none, none => (some (refused s 0x85), s)
  | none, some g =>
    if (s.q g).st = 1 then (none, (s.modQ g fun c => { c with waiter := some (x.g, x.id) }).stopQueue g 1)
    else (some (refused s 0x84), s)

def execStopQueue (g : Fin 131072) (s : State) : Outcome := .next (s.command g 4 State.stopCmd)

/-- RESTART_QUEUE (R249, R250, R275, R276). -/
def State.restartQueue (s : State) (x : CmdCtx) : CmdRes :=
  s.cmdQueue x 0 fun g =>
    let c := s.q g
    if c.st ≠ 3 then refused s 0x84
    else if c.typ = 2 && (s.boundTo g).any (fun q => (s.q q).st ≠ 3) then refused s 0x83
    else
      let gen := (c.gen + 1) % 256
      { status := 0, r1 := gen,
        st := s.setQ g { c with st := 1, reason := 0, gen, tail := 0, ci := 0, fetch := 0, res := 0, armed := c.typ == 2, unann := 0, times := [],
                                nCqFull := 0, nRqEmpty := 0, nBad := 0, items := [], posts := [], open_ := [], run := false } }

def execRestartQueue (g : Fin 131072) (s : State) : Outcome := .next (s.commandNow g 5 State.restartQueue)

/-- The queue response's words (R276). -/
def queueWords (g : Nat) (c : QCtx) : List Nat :=
  [c.w5, c.base % 2 ^ 32, c.base / 2 ^ 32, c.w8, c.w9, c.st + c.gen * 256 + c.reason * 65536 + b2n c.armed * 2 ^ 24, c.tail, c.ci, g, c.res,
   c.nCqFull, c.nRqEmpty, c.nBad, 0, 0, 0]

/-- QUERY_QUEUE (R275, R276). -/
def execQueryQueue (g : Fin 131072) (s : State) : Outcome :=
  .next (s.commandNow g 6 fun s x => s.cmdQueue x 0 fun q =>
    if x.arg 4 % 65536 < 64 then refused s 0x81 else { status := 0, st := s, resp := bytesOfWords (queueWords q (s.q q)) })

/-- MODIFY_CQ (R268, R275): takes effect at the queue's next interrupt decision. -/
def execModifyCq (g : Fin 131072) (s : State) : Outcome :=
  .next (s.commandNow g 7 fun s x => s.cmdQueue x 0x1FFFFFFF fun q =>
    let c := s.q q
    if c.typ ≠ 2 || decide (vectorsOf c.fn ≤ bitsOf (x.arg 9) 0 10) then refused s 0x81
    else if c.st = 2 then refused s 0x84
    else { status := 0, st := s.setQ q { c with w9 := x.arg 9 } })

/-! ## QMG_QCMD (R280) -/

/-- Words written to consecutive registers. -/
def State.putWords (s : State) (off : Nat) : List Nat → State
  | [] => s
  | w :: t => State.putWords (s.wrN off w) (off + 4) t

/-- A write of QMG_QCMD with GO = 1 (R280). -/
def State.qcmd (s : State) (op index : Nat) : State :=
  let s := (s.sf F.QMG_QCMD_OP op).sf F.QMG_QCMD_INDEX index
  let c := s.q index
  if op ≠ 1 && op ≠ 2 then s.sf F.QMG_QCMD_STATUS 3
  else if c.st = 0 then s.sf F.QMG_QCMD_STATUS 2
  else if op = 1 then (s.putWords (R.QMG_QDATA 0) (queueWords index c)).sf F.QMG_QCMD_STATUS 0
  else if c.st ≠ 1 then s.sf F.QMG_QCMD_STATUS 3
  else (s.stopQueue index 9).sf F.QMG_QCMD_STATUS 0

/-- QMG_READ (R280). -/
def execQmgRead (m : Master) (index : BitVec 17) (s : State) : Outcome := .next (s.asWriter m R.QMG_QCMD fun s => s.qcmd 1 index.toNat)

/-- QMG_HALT (R280). -/
def execQmgHalt (m : Master) (index : BitVec 17) (s : State) : Outcome := .next (s.asWriter m R.QMG_QCMD fun s => s.qcmd 2 index.toNat)

end Sys2Proof.Machine
end

