-- ==== Sys2Proof/Machine/Packets.lean ====
section
/-! DEFINITION. What every unit does with a packet: whom its events blame, how its references end, and how it is dropped. -/

namespace Sys2Proof.Machine

/-- An event about a packet: it blames FNM and the function that sent it, or MAC and the receive port (R181, R298, R375, R457). -/
def State.pktReport (s : State) (code sev reporter : Nat) (k : Pkt) : State :=
  match k.src with
  | some (p, f) => s.reportFn code sev reporter p f
  | none => if k.port < 16 then s.reportAs code sev reporter (0x6000 + k.port) [] else s.reportAs code sev reporter reporter []

/-- An event about a received packet: it blames MAC and the receive port (R214, R403, R457), or the reporter for a packet that no port received. -/
def State.portReport (s : State) (code sev reporter : Nat) (k : Pkt) : State :=
  s.reportAs code sev reporter (if k.port < 16 then 0x6000 + k.port else reporter) []

/-- A packet's reference to its buffer is released (R418). -/
def State.freePkt (s : State) (k : Pkt) : State :=
  match k.buf with
  | some h => s.unref h
  | none => s

/-- A transport's UD packet is gone (R391, log entry 33): its work request completes, with a stamp where the packet was transmitted. -/
def State.udDone (s : State) (k : Pkt) (t : Stamp) : State :=
  match k.xref with
  | none => s
  | some (i, n) =>
    let id := n - 1
    let x : XptSt := tabGet (fun _ => {}) s.sec.xpts i
    if bitsOf (x.w.getD 0 0) 0 4 ≠ 2 || n = 0 then s else
    match x.sq, x.reqs.find? fun r => r.id == id with
    | some g, some r =>
      let s := { s with sec := { s.sec with xpts := tabSet (fun _ => {}) s.sec.xpts i { x with reqs := x.reqs.filter fun r => r.id != id } } }
      if bitAt (r.w.getD 0 0) 8 then s.complete g id { status := 0, kind := 2, bytes := r.w.getD 1 0, stamp := t, w6 := r.w.getD 0 0 % 256 }
      else s.complete g id { status := 0, kind := 2, silent := true }
    | _, _ => s

/-- The send entry of a packet completes without its frame having been transmitted (R264); another member is told by TXDONE (R446). -/
def State.sentAs (s : State) (k : Pkt) (status bytes : Nat) : State :=
  match k.home, k.send with
  | some (m, tag), _ => s.stkTxdone m tag status none
  | none, some r => s.sendDone r status none bytes
  | none, none => s.udDone k noStamp

/-- A packet is dropped: its buffer is released, and a sent frame completes with a status. -/
def State.dropPkt (s : State) (k : Pkt) (status : Nat) : State := (s.freePkt k).sentAs k status 0

/-- A unit is about to change a packet's bytes in place (R420): a shared buffer is replaced by one of its own, which may fail. -/
def State.cow (s : State) (k : Pkt) : Option Pkt × State :=
  match k.buf with
  | none => (some k, s)
  | some h =>
    let b := s.buf h
    if b.refs ≤ 1 then (some k, s) else
    match s.alloc (poolSize (poolOf h)) b.owner true false 0 0 with
    | (.got h', s) => (some { k with buf := some h' }, (s.unref h).bump (R.BPM_CNT 6))
    | (_, s) => (none, s.bump (R.BPM_CNT 7))

/-- A packet's bytes changed in place (R420); none when no buffer could be had, and then the packet has been dropped with QUOTA. -/
def State.rewritePkt (s : State) (k : Pkt) (bytes : List Byte) : Option Pkt × State :=
  if bytes = k.bytes then (some k, s) else
  match s.cow k with
  | (some k, s) => (some { k with bytes }, s)
  | (none, s) => (none, s.dropPkt k 6)

end Sys2Proof.Machine
end

