-- ==== Sys2Proof/Machine/Cry.lean ====
section
/-! DEFINITION. Encryption offload: the security associations and their commands, ESP, MACsec and TLS records, and the outcomes (R361 to R380). -/

namespace Sys2Proof.Machine

/-! ## Associations (R364, R365) -/

/-- Change the shared units. -/
def State.modSec (s : State) (g : SecSt → SecSt) : State := { s with sec := g s.sec }

/-- An association. -/
def State.sa (s : State) (i : Nat) : SaSt := tabGet (fun _ => {}) s.sec.sas i

/-- Change an association; CRY_STAT counts those that are not FREE. -/
def State.setSa (s : State) (i : Nat) (a : SaSt) : State :=
  let s := s.modSec fun x => { x with sas := tabSet (fun _ => {}) x.sas i a }
  s.sf F.CRY_STAT_VALID ((s.sec.sas.filter fun e => e.2.st ≠ 0).length)

def SaSt.word (a : SaSt) (k : Nat) : Nat := a.w.getD k 0
def SaSt.proto (a : SaSt) : Nat := bitsOf (a.word 0) 0 4
def SaSt.outbound (a : SaSt) : Bool := bitAt (a.word 0) 4
def SaSt.alg (a : SaSt) : Nat := bitsOf (a.word 0) 5 3
def SaSt.ext (a : SaSt) : Bool := bitAt (a.word 0) 8
def SaSt.udpenc (a : SaSt) : Bool := bitAt (a.word 0) 9
def SaSt.intonly (a : SaSt) : Bool := bitAt (a.word 0) 10
def SaSt.authact (a : SaSt) : Bool := bitAt (a.word 0) 11
def SaSt.owner (a : SaSt) : Nat := bitsOf (a.word 0) 16 11
def SaSt.replayWin (a : SaSt) : Nat := bitsOf (a.word 2) 16 16
def SaSt.wide (a : SaSt) (k : Nat) : Nat := a.word k + a.word (k + 1) * 2 ^ 32

/-- The protocol maximum of R365. -/
def SaSt.protoMax (a : SaSt) : Nat := if a.proto = 4 || a.ext then 2 ^ 64 - 1 else 2 ^ 32

/-- The first sequence never used. -/
def SaSt.hard (a : SaSt) : Nat := if a.wide 11 = 0 then a.protoMax else min (a.wide 11) a.protoMax

/-- The key as bytes, the first in bits [7:0] of word 16. -/
def SaSt.key (a : SaSt) : List Nat :=
  ((List.range (if a.alg = 0 then 4 else 8)).flatMap fun k => natLe 4 (a.word (16 + k)))

/-- The first `n` bytes of the salt. -/
def SaSt.salt (a : SaSt) (n : Nat) : List Nat := ((List.range 3).flatMap fun k => natLe 4 (a.word (6 + k))).take n

/-- Bytes as numbers, and back. -/
def natsOf (l : List Byte) : List Nat := l.map BitVec.toNat
def bytesOf (l : List Nat) : List Byte := l.map byte

/-- Encrypt or decrypt with an association's algorithm and key. -/
def SaSt.crypt (a : SaSt) (nonce data : List Nat) : List Nat := aeadCrypt a.alg a.key nonce data

/-- The tag under an association's algorithm and key. -/
def SaSt.tag (a : SaSt) (nonce aad ct : List Nat) : List Nat := aeadTag a.alg a.key nonce aad ct

/-- What CRY makes of a frame (R375). -/
inductive CryRes where
  | ok (f : List Byte)
  | dummy
  | noSa
  | expired
  | format
  | length
  | replay
  | auth
  deriving DecidableEq, Repr

/-- Count in CRY_CNT[p][k]. -/
def State.cryCount (s : State) (p k : Nat) : State := s.bump (R.CRY_CNT p k)

/-- An outbound association gives a packet its sequence number (R367). -/
def State.takeSeq (s : State) (i : Nat) : Nat × State :=
  let a := s.sa i
  let s := if a.wide 9 ≠ 0 && a.seq == a.wide 9 then s.report 0xA003 0 0 [] else s
  if a.hard ≤ a.seq + 1 then (a.seq, (s.setSa i { a with seq := a.seq + 1, st := 2 }).report 0xA004 0 0 [])
  else (a.seq, s.setSa i { a with seq := a.seq + 1 })

/-! ## The protect point (R369) -/

/-- The offset of the EtherType after the outer addresses and up to two tags. -/
def afterTags (f : List Byte) : Nat := 12 + 4 * tagCount 2 f 12

/-- The outermost IP header: its offset, whether it is IPv6, its length and where the datagram ends. -/
structure IpAt where
  off : Nat
  v6 : Bool
  len : Nat
  fin : Nat

/-- The protect point of a frame, none where there is no whole IP datagram. -/
def protectPoint (f : List Byte) : Option IpAt :=
  let o := afterTags f + 2
  let t := beAt f (afterTags f) 2
  if t = 0x0800 then
    let n := 4 * (byteAt f o % 16)
    let fin := o + beAt f (o + 2) 2
    if byteAt f o / 16 = 4 && decide (20 ≤ n) && decide (o + n ≤ fin) && decide (fin ≤ f.length) then some ⟨o, false, n, fin⟩ else none
  else if t = 0x86DD then
    let fin := o + 40 + beAt f (o + 4) 2
    if byteAt f o / 16 = 6 && decide (fin ≤ f.length) then some ⟨o, true, 40, fin⟩ else none
  else none

/-- The protocol field's offset, and its value. -/
def IpAt.protoAt (p : IpAt) : Nat := p.off + (if p.v6 then 6 else 9)
def IpAt.proto (p : IpAt) (f : List Byte) : Nat := byteAt f p.protoAt

/-- The datagram is a fragment. -/
def IpAt.fragment (p : IpAt) (f : List Byte) : Bool :=
  if p.v6 then p.proto f == 44 else beAt f (p.off + 6) 2 % 0x4000 != 0

/-- The header rewritten for what follows it in the frame, which ends with the datagram: its protocol, its length and its checksum. -/
def IpAt.refit (p : IpAt) (f : List Byte) (proto : Nat) : List Byte :=
  let f := patch f p.protoAt [byte proto]
  if p.v6 then patch f (p.off + 4) (beBytes 2 (f.length - p.off - 40))
  else fixIp4 (patch f (p.off + 2) (beBytes 2 (f.length - p.off))) p.off

/-- The UDP checksum under IPv6, computed in place for a header at `u`. -/
def udp6Sum (f : List Byte) (l3 u : Nat) : List Byte :=
  let f := patch f (u + 6) [0, 0]
  let v := 65535 - fold16 (pseudoSum f 5 l3 17 (f.length - u) + sum16 (f.drop u))
  patch f (u + 6) (beBytes 2 (if v = 0 then 65535 else v))

/-! ## ESP (R369, R370, R374) -/

/-- The additional data of ESP. -/
def SaSt.espAad (a : SaSt) (sq : Nat) : List Nat :=
  natBe 4 (a.word 1) ++ (if a.ext then natBe 4 (sq / 2 ^ 32) else []) ++ natBe 4 (sq % 2 ^ 32)

/-- An outbound ESP association protects a frame at sequence `sq` (R369). -/
def SaSt.espOut (a : SaSt) (sq : Nat) (f : List Byte) : CryRes :=
  match protectPoint f with
  | none => .format
  | some p =>
    let nh := p.proto f
    if p.fragment f || (a.proto == 2 && nh != 4 && nh != 41) then .format else
    let data := natsOf (cut f (p.off + p.len) (p.fin - p.off - p.len))
    let pad := (4 - (data.length + 2) % 4) % 4
    let iv := natBe 8 sq
    let nonce := a.salt 4 ++ iv
    let ct := a.crypt nonce (data ++ (List.range pad).map (· + 1) ++ [pad, nh])
    let esp := natBe 4 (a.word 1) ++ natBe 4 sq ++ iv ++ ct ++ a.tag nonce (a.espAad sq) ct
    let udp := if a.udpenc then natBe 2 (a.word 13) ++ natBe 2 (a.word 13 / 65536) ++ natBe 2 (8 + esp.length) ++ [0, 0] else []
    let g := p.refit (f.take (p.off + p.len) ++ bytesOf (udp ++ esp)) (if a.udpenc then 17 else 50)
    let g := if a.udpenc && p.v6 then udp6Sum g p.off (p.off + p.len) else g
    if 16380 < g.length then .length else .ok g

/-- The 64-bit sequence of an inbound packet from its low 32 bits (R374). -/
def SaSt.espSn (a : SaSt) (lo : Nat) : Nat :=
  if !a.ext then lo else
  let w := if a.replayWin = 0 then 1024 else a.replayWin
  let tl := a.seq % 2 ^ 32
  let th := a.seq / 2 ^ 32
  let sh := if w - 1 ≤ tl then (if tl - w + 1 ≤ lo then th else th + 1)
    else (if (tl + 2 ^ 32 - w + 1) % 2 ^ 32 ≤ lo then th + 2 ^ 32 - 1 else th)
  sh % 2 ^ 32 * 2 ^ 32 + lo

/-- The replay check of R374. -/
def SaSt.fresh (a : SaSt) (sn : Nat) : Bool :=
  sn != 0 && (a.replayWin == 0 || decide (a.seq < sn) ||
    (decide (a.seq - sn < a.replayWin) && decide (a.low < sn) && !a.seen.contains sn))

/-- T and the window updated for an authenticated sequence. -/
def SaSt.mark (a : SaSt) (sn : Nat) : SaSt :=
  let t := max a.seq sn
  { a with seq := t, seen := (sn :: a.seen).filter fun x => decide (t < x + a.replayWin) }

/-- The frame with its ESP part replaced by its payload (R370). -/
def SaSt.espStrip (a : SaSt) (p : IpAt) (f : List Byte) (pt : List Nat) : CryRes :=
  let nh := pt.getLastD 0
  let pad := pt.getD (pt.length - 2) 0
  if pt.length < pad + 2 then .format
  else if nh = 59 then .dummy
  else
    let data := bytesOf (pt.take (pt.length - 2 - pad))
    let fit (g : List Byte) : CryRes := .ok (if g.length < 60 then fitBytes 60 g else g)
    if a.proto = 1 then fit (p.refit (f.take (p.off + p.len) ++ data) nh)
    else if nh = 4 then fit (f.take (p.off - 2) ++ [0x08, 0x00] ++ data)
    else if nh = 41 then fit (f.take (p.off - 2) ++ [0x86, 0xDD] ++ data)
    else .format

/-- An inbound ESP association verifies a frame (R370): what comes of it, and the association after it. -/
def SaSt.espIn (a : SaSt) (f : List Byte) : CryRes × SaSt :=
  match protectPoint f with
  | none => (.format, a)
  | some p =>
    let u := p.off + p.len
    let o := if a.udpenc then u + 8 else u
    let here := if a.udpenc then p.proto f == 17 && beAt f (u + 2) 2 == a.word 13 / 65536 else p.proto f == 50
    if !here || p.fragment f || decide (p.fin < o + 34) then (.format, a)
    else if beAt f o 4 ≠ a.word 1 then (.auth, a)
    else
      let sn := a.espSn (beAt f (o + 4) 4)
      if !a.fresh sn then (.replay, a) else
      let nonce := a.salt 4 ++ natsOf (cut f (o + 8) 8)
      let ct := natsOf (cut f (o + 16) (p.fin - o - 32))
      if a.tag nonce (a.espAad sn) ct ≠ natsOf (cut f (p.fin - 16) 16) then (.auth, a)
      else (a.espStrip p f (a.crypt nonce ct), a.mark sn)

/-! ## MACsec (R371, R372) -/

/-- The nonce of MACsec: SCI and PN, or under XPN SSCI and PN combined with the salt. -/
def SaSt.msNonce (a : SaSt) (sci pn : Nat) : List Nat :=
  if a.ext then xorBytes (natBe 4 (a.word 1) ++ natBe 8 pn) (a.salt 12) else natBe 8 sci ++ natBe 4 pn

/-- A frame protected (R371). -/
def SaSt.msOut (a : SaSt) (pn sci : Nat) (scinc es : Bool) (f : List Byte) : CryRes :=
  let data := natsOf (f.drop 12)
  let tci := b2n es * 64 + b2n scinc * 32 + (if a.intonly then 0 else 12) + bitsOf (a.word 2) 0 2
  let head := natsOf (f.take 12) ++ [0x88, 0xE5, tci, if data.length < 48 then data.length else 0] ++ natBe 4 (pn % 2 ^ 32) ++
    (if scinc then natBe 8 sci else [])
  let nonce := a.msNonce sci pn
  let g := if a.intonly then head ++ data ++ a.tag nonce (head ++ data) []
    else let ct := a.crypt nonce data; head ++ ct ++ a.tag nonce head ct
  if 16380 < g.length then .length else .ok (bytesOf g)

/-- The lowest acceptable PN (R372). -/
def SaSt.lowestPn (a : SaSt) : Nat := max 1 (a.seq + 1 - a.word 3)

/-- A frame's PN, its upper half recovered under XPN (R372). -/
def SaSt.msPn (a : SaSt) (lo : Nat) : Nat :=
  if !a.ext then lo else
  let l := a.lowestPn
  ((if bitAt l 31 && !bitAt lo 31 then l / 2 ^ 32 + 1 else l / 2 ^ 32) % 2 ^ 32) * 2 ^ 32 + lo

/-- A protected frame verified and stripped (R372), given its SCI: the offset of its secure data is `o`. -/
def SaSt.msIn (a : SaSt) (sci o : Nat) (f : List Byte) : CryRes × SaSt :=
  let sl := byteAt f 15 % 64
  let n := if sl = 0 then f.length - o - 16 else sl
  let ec := bitsOf (byteAt f 14) 2 2
  if f.length < o + n + 16 || (ec != 0 && ec != 3) then (.format, a) else
  let pn := a.msPn (beAt f 16 4)
  if pn < a.lowestPn then (.replay, a) else
  let nonce := a.msNonce sci pn
  let head := natsOf (f.take o)
  let body := natsOf (cut f o n)
  let tag := natsOf (cut f (o + n) 16)
  let good := if ec = 0 then a.tag nonce (head ++ body) [] == tag else a.tag nonce head body == tag
  if !good then (.auth, a)
  else (.ok (f.take 12 ++ bytesOf (if ec = 0 then body else a.crypt nonce body)), { a with seq := max a.seq pn })

/-! ## TLS records (R373) -/

/-- The records of a TCP payload encrypted one after another. -/
def SaSt.tlsRecords (a : SaSt) : Nat → List Nat → Option (List Nat)
  | _, [] => some []
  | 0, _ => none
  | n + 1, l =>
    let z := beNat ((l.drop 3).take 2)
    let tail := (l.drop (5 + (z - 16))).take 16
    let sq := beNat (tail.take 8).reverse
    if l.take 3 != [0x17, 3, 3] || z < 17 || 16640 < z || l.length < 5 + z || tail.drop 8 != List.replicate 8 0 then none
    else if a.wide 11 ≠ 0 && decide (a.wide 11 ≤ sq) then none
    else
      let nonce := xorBytes (a.salt 12) (natBe 12 sq)
      let ct := a.crypt nonce ((l.drop 5).take (z - 16))
      (tlsRecords a n (l.drop (5 + z))).map fun t => l.take 5 ++ ct ++ a.tag nonce (l.take 5) ct ++ t

/-- The TCP checksum recomputed for a header at `t` in a datagram that ends at `fin`. -/
def tcpSum (f : List Byte) (p : IpAt) (t : Nat) : List Byte :=
  let f := patch f (t + 16) [0, 0]
  patch f (t + 16) (beBytes 2 (65535 - fold16 (pseudoSum f (if p.v6 then 5 else 4) p.off 6 (p.fin - t) + sum16 (cut f t (p.fin - t)))))

/-- A TLS association encrypts the records of a frame in place (R373). -/
def SaSt.tlsOut (a : SaSt) (f : List Byte) : CryRes :=
  match protectPoint f with
  | none => .format
  | some p =>
    let t := p.off + p.len
    let o := t + 4 * (byteAt f (t + 12) / 16)
    if p.proto f ≠ 6 || p.fragment f || decide (p.fin ≤ o) || decide (o < t + 20) then .format else
    let l := natsOf (cut f o (p.fin - o))
    match a.tlsRecords l.length l with
    | none => .format
    | some l => .ok (tcpSum (patch f o (bytesOf l)) p t)

/-! ## A pass that named an association (R362, R375) -/

/-- An association's counts of packets and bytes, modulo 2^64. -/
def SaSt.counted (a : SaSt) (n : Nat) : SaSt := { a with pkts := (a.pkts + 1) % 2 ^ 64, bytes := (a.bytes + n) % 2 ^ 64 }

/-- The frame met by the association that a pass named. -/
def State.applySa (s : State) (i : Nat) (f : List Byte) : CryRes × State :=
  let a := s.sa i
  if a.st = 0 || a.st = 3 then (.noSa, s)
  else if a.st = 2 then (.expired, s)
  else if a.proto = 4 then (a.tlsOut f, s)
  else if a.proto = 3 then (.format, s)
  else if a.outbound then let (sq, s) := s.takeSeq i; (a.espOut sq f, s)
  else let (r, a) := a.espIn f; (r, s.setSa i a)

/-- What becomes of a packet in CRY: it goes on, it is gone, or it is delivered for inspection. -/
inductive CryOut where
  | pass (k : Pkt)
  | gone
  | toQueue (k : Pkt) (q : Nat)
  | toSward (k : Pkt) (w c : Nat)
  deriving DecidableEq, Repr

/-- The status with which a sent frame completes where R375 states none (log entry 31). -/
def State.openStatus (s : State) : Nat × State :=
  let (n, s) := s.fresh
  (Config.openStatus n % 14, s)

/-- A frame that CRY could not process (R375): `status` is none where R375 gives a sent frame no status. -/
def State.cryDrop (s : State) (k : Pkt) (status : Option Nat) (cnt : Nat) (code : Option Nat) : State :=
  let s := s.cryCount k.pipe cnt
  let s := match code with | some c => s.pktReport c 0 0xA000 k | none => s
  match status, k.send with
  | some st, _ => s.dropPkt k st
  | none, none => s.dropPkt k 0
  | none, some _ => let (st, s) := s.openStatus; s.dropPkt k st

/-- A frame whose authentication failed is delivered as it entered CRY (R375). -/
def State.excDest (s : State) (k : Pkt) : CryOut :=
  if s.gb F.CRY_EXCDEST_KIND then .toSward k (s.gf F.CRY_EXCDEST_SWARD) (s.gf F.CRY_EXCDEST_CHANNEL)
  else .toQueue { k with status := 7 } (s.gf F.CRY_EXCDEST_QUEUE)

/-- The outcome of CRY for a packet and the association it met (R362, R375). -/
def State.cryOutcome (s : State) (k : Pkt) (i : Nat) (r : CryRes) (act : Bool) : CryOut × State :=
  let a := s.sa i
  match r with
  | .ok f =>
    let s := (s.setSa i (a.counted k.bytes.length)).cryCount k.pipe (if a.outbound then 0 else 1)
    match s.rewritePkt k f with
    | (some k, s) => (.pass k, s)
    | (none, s) => (.gone, s)
  | .dummy => (.gone, (s.setSa i (a.counted k.bytes.length)).cryDrop k none 7 none)
  | .noSa => (.gone, s.cryDrop k (some 5) 4 none)
  | .expired => (.gone, s.cryDrop k (some 5) 6 none)
  | .format => (.gone, s.cryDrop k (some 1) 5 (some 0xA005))
  | .length => (.gone, s.cryDrop k (some 4) 8 none)
  | .replay => (.gone, (s.setSa i { a with rep := sat32 (a.rep + 1) }).cryDrop k none 3 (some 0xA002))
  | .auth =>
    let s := s.setSa i { a with auth := sat32 (a.auth + 1) }
    if act && a.authact then (s.excDest k, (s.cryCount k.pipe 2).pktReport 0xA001 0 0xA000 k)
    else (.gone, s.cryDrop k none 2 (some 0xA001))

/-- CRY acts on a pass that named an association (R362). -/
def State.cryPass (s : State) (k : Pkt) : CryOut × State :=
  match k.sa with
  | none => (.pass k, s)
  | some i => let (r, s) := s.applySa i k.bytes; s.cryOutcome k i r true

/-- A received MACsec frame before its first pass (R372). -/
def State.macsecRx (s : State) (k : Pkt) : Option Pkt × State :=
  let f := k.bytes
  let n := k.port
  let tci := byteAt f 14
  let sc := bitAt tci 5
  let o := if sc then 28 else 20
  if bitAt tci 7 || f.length < o + 16 then (none, s.cryDrop k (some 1) 5 (some 0xA005)) else
  let sci := if sc then beAt f 20 8 else beAt f 6 6 * 65536 + s.gf (F.CRY_MSRXCFG_IMPLPORT n)
  match (List.range 16).find? fun j => s.gb (F.CRY_MSRXSC_VALID n j) && s.rd64 (R.CRY_MSRXSCI n j) == sci with
  | none => (none, s.cryDrop k (some 5) 4 none)
  | some j =>
    let i := s.gf (F.CRY_MSRXSA_SA n j (tci % 4))
    let a := s.sa i
    if !s.gb (F.CRY_MSRXSA_SAV n j (tci % 4)) || a.st ≠ 1 || a.proto ≠ 3 || a.outbound then (none, s.cryDrop k (some 5) 4 none) else
    let (r, a) := a.msIn sci o f
    match (s.setSa i a).cryOutcome k i r false with
    | (.pass k, s) => (some { k with macsec := false }, s)
    | (_, s) => (none, s)

/-- A frame that leaves through a port with MACSEC = 1 is protected before TMG queues it (R104, R371). -/
def State.macsecTx (s : State) (k : Pkt) (n : Nat) : Option Pkt × State :=
  if !s.gb (F.MAC_PORTCFG_MACSEC n) || beAt k.bytes 12 2 == 0x888E then (some k, s) else
  let i := s.gf (F.CRY_MSTX_SA n)
  let a := s.sa i
  if !s.gb (F.CRY_MSTX_EN n) || a.st ≠ 1 || a.proto ≠ 3 || !a.outbound then (none, s.cryDrop k (some 5) 4 none) else
  let (pn, s) := s.takeSeq i
  match s.cryOutcome k i (a.msOut pn (s.rd64 (R.CRY_MSTXSCI n)) (s.gb (F.CRY_MSTX_SCINC n)) (s.gb (F.CRY_MSTX_ES n)) k.bytes) false with
  | (.pass k, s) => (some { k with macsec := true }, s)
  | (_, s) => (none, s)

/-! ## Commands (R365, R368, R376 to R378) -/

/-- An argument's reserved bits are 0: word 5 beyond `m5`, and every word from `k` on. -/
def argsZero (x : CmdCtx) (m5 k : Nat) : Bool := x.arg 5 / m5 == 0 && (List.range (16 - k)).all fun i => x.arg (k + i) == 0

/-- A tenant homed on a port, or the device, may own what the command creates (R378). -/
def State.ownerOk (s : State) (p owner : Nat) : Bool :=
  owner == 0x7FF || (decide (owner < 1024) && s.gf (F.FNM_TSTAT_STATE owner) != 0 && s.gf (F.FNM_TSTAT_PORT owner) == p)

/-- How many associations an owner holds. -/
def State.saCount (s : State) (owner : Nat) : Nat := (s.sec.sas.filter fun e => e.2.st ≠ 0 && e.2.owner == owner).length

/-- A parameter block that breaks R361 or R365. -/
def saBad (w : List Nat) : Bool :=
  let a : SaSt := { w }
  let esp := a.proto == 1 || a.proto == 2
  let out := a.outbound && a.proto != 4
  bitsOf (a.word 0) 12 4 != 0 || bitsOf (a.word 0) 27 5 != 0 || bitsOf (a.word 2) 2 14 != 0 ||
    (List.range 2).any (fun k => a.word (14 + k) != 0) || (List.range 8).any (fun k => a.word (24 + k) != 0) ||
    a.proto == 0 || decide (4 < a.proto) || decide (2 < a.alg) || (a.proto == 3 && decide (1 < a.alg)) ||
    (a.proto == 4 && (!a.outbound || a.ext)) || (a.udpenc && !esp) || (a.intonly && a.proto != 3) ||
    (!esp && !(a.proto == 3 && a.ext) && a.word 1 != 0) ||
    (esp && (decide (1024 < a.replayWin) || a.replayWin % 64 != 0)) ||
    (out && a.wide 4 == 0) || (!a.outbound && a.wide 4 != 0) || (out && decide (a.hard ≤ a.wide 4)) ||
    (a.alg == 0 && (List.range 4).any fun k => a.word (20 + k) != 0)

/-- CREATE_SA (R365, R378), with the block that the read of words 6..7 returned. -/
def State.createSa (s : State) (x : CmdCtx) (block : Option (List Byte)) : CmdRes :=
  let i := x.arg 5
  if 2097152 ≤ i || x.arg 6 % 64 ≠ 0 || !argsZero x (2 ^ 21) 8 then refused s 0x81
  else if (s.sa i).st ≠ 0 then refused s 0x90
  else match block with
    | none => refused s 0x94
    | some l =>
      let w := words32 32 l
      let o := (⟨0, w, 0, [], 0, 0, 0, 0, 0⟩ : SaSt).owner
      if !s.ownerOk x.port o then refused s 0x82
      else if o ≠ 0x7FF && decide (s.tArg o 10 % 2 ^ 22 ≤ s.saCount o) then refused s 0x92
      else if saBad w then refused s 0x93
      else { status := 0, st := s.setSa i { st := 1, w, seq := (⟨0, w, 0, [], 0, 0, 0, 0, 0⟩ : SaSt).wide 4 } }

def execCreateSa (g : Fin 131072) (block : Option (List Byte)) (s : State) : Outcome :=
  .next (s.commandNow g 0x40 fun s x => s.createSa x block)

/-- The association that a command names. -/
def State.cmdSa (s : State) (x : CmdCtx) (k : Nat) (f : Nat → SaSt → CmdRes) : CmdRes :=
  if !argsZero x (2 ^ 21) k then refused s 0x81
  else if (s.sa (x.arg 5)).st = 0 then refused s 0x91
  else f (x.arg 5) (s.sa (x.arg 5))

/-- DESTROY_SA (R368). -/
def execDestroySa (g : Fin 131072) (s : State) : Outcome :=
  .next (s.commandNow g 0x41 fun s x => s.cmdSa x 6 fun i _ => { status := 0, st := s.setSa i {} })

/-- Words 0 to 2 of an association's record (R376). -/
def SaSt.record (a : SaSt) (i : Nat) : List Nat :=
  let n := if a.proto = 4 then 0 else a.seq
  [i + a.proto * 2 ^ 21 + b2n a.outbound * 2 ^ 25 + a.st * 2 ^ 26, n % 2 ^ 32, n / 2 ^ 32]

/-- The response of QUERY_SA (R377). -/
def SaSt.response (a : SaSt) (i : Nat) : List Nat :=
  let r := a.record i
  [r.getD 0 0 + a.alg * 2 ^ 28, a.owner, r.getD 1 0, r.getD 2 0, a.pkts % 2 ^ 32, a.pkts / 2 ^ 32, a.bytes % 2 ^ 32, a.bytes / 2 ^ 32, a.auth, a.rep,
   a.word 1, 0, 0, 0, 0, 0]

/-- QUERY_SA (R377). -/
def execQuerySa (g : Fin 131072) (s : State) : Outcome :=
  .next (s.commandNow g 0x42 fun s x => s.cmdSa x 6 fun i a =>
    if x.arg 4 % 65536 < 64 then refused s 0x81 else { status := 0, st := s, resp := bytesOfWords (a.response i) })

/-- UPDATE_SA (R378). -/
def State.updateSa (s : State) (x : CmdCtx) (i : Nat) (a : SaSt) : CmdRes :=
  let sel := x.arg 6
  let esp := a.proto == 1 || a.proto == 2
  let win := bitsOf sel 16 16
  let w := if bitAt sel 0 then a.w.set 2 (putBits (a.word 2) 16 16 win) else a.w
  let w := if bitAt sel 1 then w.set 3 (x.arg 7) else w
  let w := if bitAt sel 2 then (w.set 9 (x.arg 9)).set 10 (x.arg 10) else w
  let w := if bitAt sel 3 then (w.set 11 (x.arg 11)).set 12 (x.arg 12) else w
  let b := { a with w }
  if bitsOf sel 4 12 ≠ 0 then refused s 0x81
  else if (bitAt sel 0 && esp && (decide (1024 < win) || win % 64 != 0)) || (bitAt sel 1 && x.arg 8 != 0) ||
      (bitAt sel 3 && a.outbound && a.proto != 4 && decide (b.hard ≤ a.seq)) then refused s 0x93
  else { status := 0, st := s.setSa i { b with seen := b.seen.filter fun y => decide (b.seq < y + b.replayWin) } }

def execUpdateSa (g : Fin 131072) (s : State) : Outcome :=
  .next (s.commandNow g 0x43 fun s x => s.cmdSa x 13 fun i a => s.updateSa x i a)

end Sys2Proof.Machine
end

