-- ==== Sys2Proof/Machine/Tmg.lean ====
section
/-! DEFINITION. The traffic manager: the tree, meters, admission, selection, shapers, gates, launch times and sampling (R176 to R204). -/

namespace Sys2Proof.Machine

/-- Change the traffic manager. -/
def State.modTmg (s : State) (g : TmgSt → TmgSt) : State := { s with tmg := g s.tmg }

/-- Count in TMG_CNT[n][k]. -/
def State.tmgCount (s : State) (n k : Nat) : State := s.bump (R.TMG_CNT n k)

/-! ## The tree (R176 to R178, R200) -/

/-- Change a node. -/
def State.setNode (s : State) (l i : Nat) (v : NodeSt) : State :=
  s.modTmg fun t => { t with nodes := tabSet nodeDefault t.nodes (l * 2 ^ 20 + i) v }

def NodeSt.en (v : NodeSt) : Bool := bitAt v.w0 0
def NodeSt.cap (v : NodeSt) : Bool := bitAt v.w0 1
def NodeSt.weight (v : NodeSt) : Nat := bitsOf v.w0 2 8
def NodeSt.prio (v : NodeSt) : Nat := bitsOf v.w0 10 3
def NodeSt.parent (v : NodeSt) : Nat := bitsOf v.w0 16 11
def NodeSt.rate (v : NodeSt) : Nat := bitsOf v.w1 0 21

/-- The tenant node above a queue, and the port at the root. -/
def State.tmqTenant (s : State) (q : Nat) : Nat := (s.node 1 (q / 8)).parent
def State.tmqPort (s : State) (q : Nat) : Nat := (s.node 2 (s.tmqTenant q)).parent % 16

/-- The nodes from a queue to its port (R177). -/
def State.tmqPath (s : State) (q : Nat) : List (Nat × Nat) :=
  [(0, q), (1, q / 8), (2, s.tmqTenant q), (3, 8 * s.tmqPort q + q % 8), (4, s.tmqPort q)]

/-- Change an L0 queue. -/
def State.setTmq (s : State) (q : Nat) (v : TmqSt) : State := s.modTmg fun t => { t with queues := tabSet (fun _ => {}) t.queues q v }

/-- The L0 queues that hold frames and belong to a port, in index order. -/
def State.portQueues (s : State) (n : Nat) : List Nat :=
  (s.tmg.queues.filter fun e => !e.2.frames.isEmpty && s.tmqPort e.1 == n).map (·.1)

/-- A frame's length from its destination address through its FCS. -/
def wireLen (k : Pkt) : Nat := k.bytes.length + 4

/-! ## Meters (R179, R180) -/

/-- A meter. -/
def State.meterOf (s : State) (i : Nat) : MeterSt := tabGet (fun _ => {}) s.tmg.meters i

/-- Change a meter. -/
def State.setMeter (s : State) (i : Nat) (v : MeterSt) : State := s.modTmg fun t => { t with meters := tabSet (fun _ => {}) t.meters i v }

/-- A word of a meter. -/
def MeterSt.word (m : MeterSt) (k : Nat) : Nat := m.w.getD k 0

/-- One count of a meter up by one, modulo 2^48. -/
def MeterSt.count (m : MeterSt) (k : Nat) : MeterSt :=
  { m with counts := (List.range 4).map fun i => if i = k then (m.counts.getD i 0 + 1) % 2 ^ 48 else m.counts.getD i 0 }

/-- The colours. -/
inductive Colour where
  | green
  | yellow
  | red
  deriving DecidableEq, Repr

/-- The index of a colour's count. -/
def Colour.idx : Colour → Nat
  | .green => 0
  | .yellow => 1
  | .red => 2

/-- A frame of `b` bits meets a meter (R179). -/
def MeterSt.colour (m : MeterSt) (b : Nat) (yellow : Bool) : Colour × MeterSt :=
  if !bitAt (m.word 4) 0 then (.green, m)
  else if m.tp < b then (.red, m)
  else if yellow || decide (m.tc < b) then (.yellow, { m with tp := m.tp - b })
  else (.green, { m with tp := m.tp - b, tc := m.tc - b })

/-- A frame's outer VLAN tag carries DEI = 1. -/
def deiOf (f : List Byte) : Bool := isTpid (beAt f 12 2) && bitAt (byteAt f 14) 4

/-- The frame with DEI = 1 in its outer tag, if it has one (R180). -/
def markDei (f : List Byte) : List Byte := if isTpid (beAt f 12 2) then f.set 14 (byte (byteAt f 14 ||| 16)) else f

/-- What a meter decides of a packet that names one (R179, R180): whether it is dropped, and the packet with its colour and mark. -/
def State.meter (s : State) (k : Pkt) : Bool × Pkt × State :=
  match k.meter with
  | none => (false, { k with yellow := false }, s)
  | some i =>
    let m := s.meterOf i
    let (c, m) := m.colour (8 * wireLen k) (bitAt (m.word 4) 1 && deiOf k.bytes)
    let m := m.count c.idx
    let act := match c with | .green => 0 | .yellow => bitsOf (m.word 4) 3 2 | .red => bitsOf (m.word 4) 5 2
    if act = 1 then (true, k, s.setMeter i (m.count 3))
    else
      let mark := act == 2 || (c == .yellow && bitAt (m.word 4) 2)
      (false, { k with yellow := c == .yellow, bytes := if mark then markDei k.bytes else k.bytes }, s.setMeter i m)

/-! ## Time on a port (R189 to R191) -/

/-- A frame's transmission time on a port in ns, rounded up (R190). -/
def State.txNs (s : State) (n len : Nat) : Nat :=
  let r := rateIn (s.gf (F.MAC_QUADMODE_MODE (n / 4))) n
  if r = 0 then 0 else (8 * (len + s.gf (F.TMG_PORTCFG_OVH n)) + r - 1) / r

/-- The entries of a gate list as (gates, ns), cut or held to the cycle (R189). -/
def gateSegs : List (Nat × Nat) → Nat → List (Nat × Nat)
  | [], _ => []
  | [(g, _)], left => if left = 0 then [] else [(g, left)]
  | (g, n) :: t, left => if left = 0 then [] else (g, min n left) :: gateSegs t (left - min n left)

/-- The gate list of a port read through `rd`: its cycle and its segments. -/
def gateList (rd : Nat → Nat) (n : Nat) : Nat × List (Nat × Nat) :=
  let cyc := rd (R.TMG_GCLCYCLE n)
  (cyc, gateSegs ((List.range (rf rd (F.TMG_GCLCOUNT_COUNT n))).map fun e =>
    (rf rd (F.TMG_GCL_GATES n e), rf rd (F.TMG_GCL_INTERVAL n e))) cyc)

/-- A three-word register of a list as a full stamp's time. -/
def fullAt (rd : Nat → Nat) (off : Nat) : Nat := timeOfFull (rd off + 2 ^ 32 * rd (off + 4) + 2 ^ 64 * rd (off + 8))

/-- The list in force. -/
def State.gcl (s : State) (n : Nat) : Nat × List (Nat × Nat) := gateList s.lrd n

/-- The ns into the cycle of a port's list, at a Device Time. -/
def State.gclPos (s : State) (n t : Nat) : Nat :=
  let cyc := (s.gcl n).1
  if cyc = 0 then 0 else ((((t : Int) - (fullAt s.lrd (R.TMG_GCLBASE n) : Nat)) % ((cyc * 65536 : Nat) : Int)).toNat) / 65536

/-- How long a class stays open from `pos` on; none when it stays open through all the segments given. -/
def openFor (c : Nat) : List (Nat × Nat) → Nat → Nat → Option Nat
  | [], _, _ => none
  | (g, n) :: t, pos, acc =>
    if n ≤ pos then openFor c t (pos - n) acc
    else if bitAt g c then openFor c t 0 (acc + (n - pos)) else some acc

/-- A frame of `d` ns fits in the gate of class `c` now (R190). -/
def State.gateFits (s : State) (n c d : Nat) : Bool :=
  if !s.gb (F.TMG_PORTCFG_GCLEN n) then true else
  let segs := (s.gcl n).2
  match openFor c (segs ++ segs ++ segs) (s.gclPos n s.tku.dt) 0 with
  | none => true
  | some left => decide (d ≤ left)

/-- The class gate is open now. -/
def State.gateOpen (s : State) (n c : Nat) : Bool := s.gateFits n c 1

/-- The entry in force at a position of a cycle. -/
def entryAt : List (Nat × Nat) → Nat → Nat → Nat
  | [], _, i => i - 1
  | (_, n) :: t, pos, i => if pos < n then i else entryAt t (pos - n) (i + 1)

/-- The longest run of open time of a class in a list, the run so far carried in `run` (R191). -/
def longestOpen (c : Nat) : List (Nat × Nat) → Nat → Nat
  | [], run => run
  | (g, n) :: t, run => if bitAt g c then longestOpen c t (run + n) else max run (longestOpen c t 0)

/-- MAXOPEN of a class (R191): across adjacent entries and the wrap. -/
def maxOpen (c : Nat) (segs : List (Nat × Nat)) : Nat :=
  if segs.all fun e => bitAt e.1 c then 2 ^ 32 - 1 else longestOpen c (segs ++ segs) 0

/-! ## Heads: launch times and oversize frames (R191, R194) -/

/-- How far a launch time lies after Device Time, in 1/256 ns (R40). -/
def State.untilLaunch (s : State) (l : Nat) : Int := signedOf 64 (l % 2 ^ 64 + 2 ^ 64 - shortOf s.tku.dt)

/-- A frame misses its launch time (R194, R196): counted, and completed with LAUNCH_MISSED. -/
def State.launchMissed (s : State) (n : Nat) (k : Pkt) (why : Option Nat) : State :=
  let s := s.tmgCount n 7
  let s := match why with | some c => s.tmgCount n c | none => s
  (s.report 0x9003 0 0 []).dropPkt k 8

/-- What R194 says of a head with launch time `l`: refused with the counter that names the case, or none to enter the calendar. -/
def State.launchRefused (s : State) (l : Nat) : Option (Option Nat) :=
  let d := s.untilLaunch l
  let mb := s.gf F.TMG_LTCFG_MAXBOUND
  if d < -1024 then some (some 8)
  else if (max 1 (s.gf F.TMG_LTCFG_HORIZON) * 256000000 : Nat) < d then some (some 9)
  else if d < (s.rdN R.TMG_LTLEAD * 256 : Nat) then some (some 8)
  else if mb ≠ 0xFF && decide (mb < s.gf F.TKU_STATE_BOUND) then some none
  else none

/-- A port's calendar, as the queues whose heads it holds. -/
def State.calOf (s : State) (n : Nat) : List Nat := tabGet (fun _ => []) s.tmg.cal n

/-- Change a calendar. -/
def State.setCal (s : State) (n : Nat) (l : List Nat) : State := s.modTmg fun t => { t with cal := tabSet (fun _ => []) t.cal n l }

/-- The head of a queue leaves it. -/
def State.popHead (s : State) (q : Nat) : State :=
  let t := s.tmq q
  let s := s.setTmq q { t with frames := t.frames.drop 1, headAt := s.now, inCal := false, calWait := false }
  if t.inCal then s.setCal (s.tmqPort q) ((s.calOf (s.tmqPort q)).filter (· ≠ q)) else s

/-- A frame that can never fit its gate (R191). -/
def State.oversize (s : State) (n c : Nat) (k : Pkt) : Bool :=
  let m := s.rdN (R.TMG_GCLOPEN n c)
  s.gb (F.TMG_PORTCFG_GCLEN n) && m != 0 && decide (m < s.txNs n (wireLen k))

/-- A new head is judged (R191, R194), and so is each one that takes its place. -/
def State.headCheck (s : State) (q : Nat) : Nat → State
  | 0 => s
  | fuel + 1 =>
    let t := s.tmq q
    let n := s.tmqPort q
    match t.frames with
    | [] => s
    | (k, _) :: _ =>
      if t.inCal || t.calWait then s
      else if s.oversize n (q % 8) k then
        State.headCheck ((((s.popHead q).tmgCount n 5).report 0x9002 0 0 []).dropPkt k 4) q fuel
      else match k.launch with
        | none => s
        | some l =>
          match s.launchRefused l with
          | some why => State.headCheck ((s.popHead q).launchMissed n k why) q fuel
          | none =>
            if (s.calOf n).length < 256 then (s.setTmq q { t with inCal := true }).setCal n (s.calOf n ++ [q])
            else (s.setTmq q { t with calWait := true }).tmgCount n 10

/-- The heads of a queue judged for as many frames as it holds. -/
def State.heads (s : State) (q : Nat) : State := s.headCheck q ((s.tmq q).frames.length + 1)

/-- LAUNCH_CALENDAR_ENTER (R194): a head that waited for a place takes one. -/
def execLaunchCalendarEnter (q : Fin 131072) (s : State) : Outcome :=
  .next (s.inBlock 0x90 islSHD fun s => let t := s.tmq q
    let n := s.tmqPort q
    if t.calWait && decide ((s.calOf n).length < 256) then (s.setTmq q { t with calWait := false, inCal := true }).setCal n (s.calOf n ++ [q.val])
    else s)

/-! ## Admission (R177, R181, R411) -/

/-- A frame refused at admission. -/
def State.admitDrop (s : State) (k : Pkt) (q status : Nat) (cnt : Option Nat) : State :=
  let t := s.tmq q
  let s := s.setTmq q { t with drops := min 255 (t.drops + 1) }
  let s := match cnt with | some c => s.tmgCount (s.tmqPort q) c | none => s
  (s.pktReport 0x9001 0 0x9000 k).dropPkt k status

/-- The charge of an admitted frame follows its queue's tenant (R411): the packet, or none when the charge is refused or there is no buffer. -/
def State.admitCharge (s : State) (k : Pkt) (q : Nat) : Option Pkt × State :=
  match k.buf with
  | none => (none, s)
  | some h =>
    let t := s.tmqTenant q % 1024
    let st := s.gf (F.FNM_TSTAT_STATE t)
    if st ≠ 1 && st ≠ 2 then (some k, s) else
    let (blame, w6) := match k.src with | some (p, f) => (fnmBlame f, fnWord p f) | none => (0x6000 + k.port, 0)
    match s.recharge h t blame w6 with
    | (some h, s) => (some { k with buf := some h }, s)
    | (none, s) => (none, s)

/-- TMG admits a frame to an L0 queue by the first line of R181 that applies. -/
def State.tmgAdmit (s : State) (k : Pkt) (q : Nat) : State :=
  let q := match k.cls with | some c => q / 8 * 8 + c | none => q
  let (dropped, k, s) := s.meter k
  let v := s.node 0 q
  let t := s.tmq q
  let d := t.depth + pktUnits k
  if dropped then s.admitDrop k q 0xB none
  else if !v.en then s.admitDrop k q 5 (some 4)
  else if bitsOf v.w2 0 24 < d then s.admitDrop k q 6 (some 1)
  else if k.yellow && decide (bitsOf v.w3 0 24 < d) then s.admitDrop k q 6 (some 2)
  else match s.admitCharge k q with
    | (none, s) => s.admitDrop k q 6 (some 3)
    | (some k, s) =>
      let s := s.setTmq q { t with frames := t.frames ++ [(k, s.now)], headAt := if t.frames.isEmpty then s.now else t.headAt }
      (s.tmgCount (s.tmqPort q) 0).heads q

/-! ## Shapers (R179, R186 to R188) -/

/-- A credit kept to 32 signed bits. -/
def clamp32 (i : Int) : Int := max (-(2 ^ 31)) (min (2 ^ 31 - 1) i)

/-- A node's credit after a tick. -/
def NodeSt.tick (v : NodeSt) (l : Nat) (empty : Bool) : NodeSt :=
  let r : Int := v.rate
  { v with credit :=
      if v.rate = 0 then 0
      else clamp32 (if l = 0 then (if empty then min (v.credit + r) 0 else min (v.credit + r) r)
        else min (v.credit + r) (8 * (bitsOf v.w2 0 24 : Nat))) }

/-- A meter's buckets after a tick (R179). -/
def MeterSt.tick (m : MeterSt) : MeterSt :=
  { m with tc := min (m.tc + m.word 0) (8 * m.word 2), tp := min (m.tp + m.word 1) (8 * m.word 3) }

/-- One tick of every shaper and meter. -/
def State.shaperTick (s : State) : State :=
  let s := s.tmg.nodes.foldl (fun s e =>
    let l := e.1 / 2 ^ 20
    let i := e.1 % 2 ^ 20
    s.setNode l i ((s.node l i).tick l (l == 0 && (s.tmq i).frames.isEmpty))) s
  s.tmg.meters.foldl (fun s e => s.setMeter e.1 (s.meterOf e.1).tick) s

/-- SHAPER_TICK (R186): every 1 µs. -/
def execShaperTick (s : State) : Outcome :=
  .next (s.inBlock 0x90 islSHD fun s => if s.tmg.lastTick + 1000 ≤ s.now then (s.modTmg fun t => { t with lastTick := t.lastTick + 1000 }).shaperTick else s)

/-- A frame of `len` bytes charges every shaper on a path (R186, R195). -/
def State.chargePath (s : State) (n len : Nat) : List (Nat × Nat) → State
  | [] => s
  | (l, i) :: t =>
    let v := s.node l i
    let c : Int := 8 * (len + s.gf (F.TMG_PORTCFG_OVH n) : Nat)
    State.chargePath (if v.rate = 0 then s else s.setNode l i { v with credit := clamp32 (v.credit - c) }) n len t

/-! ## Selection (R183 to R185) -/

/-- A node can be chosen: EN = 1 and its credit is 0 or more. -/
def NodeSt.ok (v : NodeSt) : Bool := v.en && decide (0 ≤ v.credit)

/-- The port's rate, none while it may not start a frame (R183). -/
def State.portGo (s : State) (n : Nat) : Bool :=
  rateIn (s.gf (F.MAC_QUADMODE_MODE (n / 4))) n != 0 && s.gb (F.MAC_STATUS_LINK n) && !s.gb (F.MAC_STATUS_STOPPED n) && !s.devFatal

/-- Received pause holds the link, or a class of it (R102, R183). -/
def State.pauseHeld (s : State) (n c : Nat) : Bool := s.gb (F.MAC_STATUS_LINKHOLD n) || bitAt (s.gf (F.MAC_STATUS_RXHOLD n)) c

/-- The earliest launch time of a port's calendar, as (1/256 ns from now, queue), a tie going to the lower queue (R195, R196). -/
def State.earliest (s : State) (n : Nat) : Option (Int × Nat) :=
  (s.calOf n).foldl (fun best q =>
    match (s.tmq q).frames with
    | (k, _) :: _ =>
      let d := s.untilLaunch (k.launch.getD 0)
      match best with
      | some (e, r) => if d < e || (d == e && decide (q < r)) then some (d, q) else best
      | none => some (d, q)
    | [] => best) none

/-- A frame of `d` ns may start beside the port's calendar (R195). -/
def State.beforeLaunch (s : State) (n d : Nat) : Bool :=
  match s.earliest n with
  | none => true
  | some (e, _) =>
    let r := rateIn (s.gf (F.MAC_QUADMODE_MODE (n / 4))) n
    decide (((d + (672 + r - 1) / r : Nat) : Int) * 256 ≤ e)

/-- An L0 queue is eligible for its class (R183, R190, R195). -/
def State.eligible (s : State) (n q : Nat) : Bool :=
  match (s.tmq q).frames with
  | [] => false
  | (k, _) :: _ =>
    let d := s.txNs n (wireLen k)
    (s.node 0 q).ok && k.launch.isNone && s.gateFits n (q % 8) d && !s.pauseHeld n (q % 8) && s.beforeLaunch n d

/-- The key of a Clover credit: a node and a class. -/
def cloverKey (l i c : Nat) : Nat := (l * 2 ^ 20 + i) * 8 + c

/-- One Clover choice among children given as (key, child, active count), lowest child first (R29): the winner and the credits. -/
def cloverPick (t : Tab Int) (l : List (Nat × Nat × Nat)) : Option Nat × Tab Int :=
  let d : Nat → Int := fun _ => 0
  let t := l.foldl (fun t e => if e.2.2 = 0 then tabSet d t e.1 0 else tabSet d t e.1 (tabGet d t e.1 + e.2.2)) t
  let total := (l.map fun e => e.2.2).sum
  let win := l.foldl (fun (b : Option (Nat × Nat)) e =>
    if e.2.2 = 0 then b else
    match b with
    | some x => if tabGet d t x.1 < tabGet d t e.1 then some (e.1, e.2.1) else b
    | none => some (e.1, e.2.1)) none
  match win with
  | some (key, i) => (some i, tabSet d t key (tabGet d t key - total))
  | none => (none, t)

/-- A list without repeats, in rising order. -/
def uniq (l : List Nat) : List Nat := (l.foldl (fun a x => if a.contains x then a else x :: a) []).mergeSort fun a b => decide (a ≤ b)

/-- The active counts of R185 for a class: sets under a tenant node, tenant nodes under the port, and the class node itself. -/
def State.setAct (s : State) (el : List Nat) (set c : Nat) : Nat :=
  let v := s.node 1 set
  if !v.ok || !el.contains (8 * set + c) then 0 else if v.cap then v.weight else (s.node 0 (8 * set + c)).weight

def State.setsOf (s : State) (el : List Nat) (t c : Nat) : List Nat :=
  uniq ((el.filter fun q => q % 8 == c && s.tmqTenant q == t).map fun q => q / 8)

def State.tenantAct (s : State) (el : List Nat) (t c : Nat) : Nat :=
  let v := s.node 2 t
  let n := ((s.setsOf el t c).map fun x => s.setAct el x c).sum
  if !v.ok || n = 0 then 0 else if v.cap then v.weight else n

def State.tenantsOf (s : State) (el : List Nat) (c : Nat) : List Nat := uniq ((el.filter fun q => q % 8 == c).map s.tmqTenant)

def State.classAct (s : State) (el : List Nat) (n c : Nat) : Nat :=
  let v := s.node 3 (8 * n + c)
  let a := ((s.tenantsOf el c).map fun t => s.tenantAct el t c).sum
  if !v.ok || a = 0 then 0 else if v.cap then v.weight else a

/-- The credit keys of a port's nodes that hold no request go back to 0 (R29). -/
def State.cloverIdle (s : State) (n : Nat) (el : List Nat) : State :=
  s.modTmg fun t => { t with clover := t.clover.filter fun e =>
    let c := e.1 % 8
    let l := e.1 / 8 / 2 ^ 20
    let i := e.1 / 8 % 2 ^ 20
    match l with
    | 3 => i / 8 != n || s.classAct el n c != 0
    | 2 => (s.node 2 i).parent != n || s.tenantAct el i c != 0
    | _ => (s.node 2 (s.node 1 i).parent).parent != n || s.setAct el i c != 0 }

/-- One Clover choice of the traffic manager. -/
def State.cloverChoose (s : State) (l : List (Nat × Nat × Nat)) : Option Nat × State :=
  let (r, t) := cloverPick s.tmg.clover l
  (r, s.modTmg fun x => { x with clover := t })

/-- The queue that a port selects (R184, R185). -/
def State.choose (s : State) (n : Nat) : Option Nat × State :=
  let el := (s.portQueues n).filter fun q => s.eligible n q
  let s := s.cloverIdle n el
  if !(s.node 4 n).ok then (none, s) else
  let cs := (List.range 8).filter fun c => s.classAct el n c != 0
  let top := cs.foldl (fun a c => max a (s.node 3 (8 * n + c)).prio) 0
  match s.cloverChoose ((cs.filter fun c => (s.node 3 (8 * n + c)).prio == top).map fun c => (cloverKey 3 (8 * n + c) c, c, s.classAct el n c)) with
  | (none, s) => (none, s)
  | (some c, s) =>
    match s.cloverChoose ((s.tenantsOf el c).map fun t => (cloverKey 2 t c, t, s.tenantAct el t c)) with
    | (none, s) => (none, s)
    | (some t, s) =>
      match s.cloverChoose ((s.setsOf el t c).map fun x => (cloverKey 1 x c, x, s.setAct el x c)) with
      | (none, s) => (none, s)
      | (some x, s) => (some (8 * x + c), s)

/-- When a port's current frame ends. -/
def State.busyTo (s : State) (n : Nat) : Nat := tabGet (fun _ => 0) s.tmg.busyTo n

/-- The head of a queue is handed to its port's MAC (R186, R198). -/
def State.sendHead (s : State) (n q : Nat) (k : Pkt) (at_ : Nat) : State :=
  let s := s.chargePath n (wireLen k) (s.tmqPath q)
  let t := s.tmq q
  let s := s.setTmq q { t with maxWait := max t.maxWait (s.now - at_) }
  let s := (s.popHead q).modTmg fun t => { t with busyTo := tabSet (fun _ => 0) t.busyTo n (s.now + s.txNs n (wireLen k)) }
  { s with macs := tabMod (fun _ => {}) s.macs n fun (c : MacSt) => { c with txBuf := c.txBuf ++ [k] } }

/-- TMG_SELECT (R183 to R186): a port that may start a frame takes the next one by rotation. -/
def State.select (s : State) (n : Nat) : State :=
  if !s.portGo n || decide (s.now < s.busyTo n) || !(tabGet (fun _ => {}) s.macs n : MacSt).txBuf.isEmpty then s else
  let s := (s.portQueues n).foldl (fun s q => s.heads q) s
  match s.choose n with
  | (none, s) => s
  | (some q, s) =>
    match (s.tmq q).frames with
    | (k, at_) :: _ => (s.sendHead n q k at_).heads q
    | [] => s

def execTmgSelect (n : Fin 16) (s : State) : Outcome := .next (s.inBlock 0x90 islSHD fun s => s.select n)

/-! ## Gate lists (R189, R192) -/

/-- GATE_ENTRY_CHANGE (R189): CURENTRY names the entry in force. -/
def State.gateEntry (s : State) (n : Nat) : State := s.sf (F.TMG_GCLCTL_CURENTRY n) (entryAt (s.gcl n).2 (s.gclPos n s.tku.dt) 0)

def execGateEntryChange (n : Fin 16) (s : State) : Outcome := .next (s.inBlock 0x90 islSHD fun s => s.gateEntry n)

/-- A shadow list that a commit refuses (R192). -/
def State.gclBad (s : State) (n : Nat) : Bool :=
  let c := s.gf (F.TMG_GCLCOUNT_COUNT n)
  let cyc := s.rdN (R.TMG_GCLCYCLE n)
  let ns (off : Nat) : Nat := fullNs (s.rdWide off 3)
  c == 0 || decide (1024 < c) || decide (cyc < 1000) || decide (1000000000 < cyc) || decide (999999999 < ns (R.TMG_GCLBASE n)) ||
    decide (999999999 < ns (R.TMG_GCLCHG n)) || (List.range c).any fun e => decide (s.gf (F.TMG_GCL_INTERVAL n e) < 32)

/-- The first cycle start of the shadow list at or after both CHGTIME and Device Time + 1 µs (R192). -/
def State.gclStart (s : State) (n : Nat) : Nat :=
  let t0 := max (fullAt s.rdN (R.TMG_GCLCHG n)) (s.tku.dt + 65536000)
  let c : Int := s.rdN (R.TMG_GCLCYCLE n) * 65536
  (t0 + (((fullAt s.rdN (R.TMG_GCLBASE n) : Nat) : Int) - t0) % c).toNat

/-- A write of 1 to TMG_GCLCTL[n].COMMIT (R9, R192). -/
def State.gclCommit (s : State) (n : Nat) : State :=
  if s.gb (F.TMG_GCLCTL_PENDING n) then s
  else if s.gclBad n then (s.sb (F.TMG_GCLCTL_ERR n) true).report 0x9004 0 0 []
  else (s.sb (F.TMG_GCLCTL_PENDING n) true).modTmg fun t => { t with gclFrom := tabSet (fun _ => 0) t.gclFrom n (s.gclStart n) }

def execGclCommit (m : Master) (n : Fin 16) (s : State) : Outcome := .next (s.asWriter m (R.TMG_GCLCTL n) fun s => s.gclCommit n)

/-- The new list becomes the one in force, with its MAXOPEN figures (R191, R192). -/
def State.gclTake (s : State) (n : Nat) : State :=
  let s := ((((s.goLive (R.TMG_GCLCOUNT n) 1).goLive (R.TMG_GCLCYCLE n) 1).goLive (R.TMG_GCLBASE n) 3).goLive (R.TMG_GCLCHG n) 3).goLive
    (R.TMG_GCL n 0) 2048
  let s := (List.range 8).foldl (fun s c => s.wrN (R.TMG_GCLOPEN n c) (maxOpen c (s.gcl n).2)) s
  (s.sb (F.TMG_GCLCTL_PENDING n) false).gateEntry n

/-- GCL_TAKE_EFFECT (R192). -/
def execGclTakeEffect (n : Fin 16) (s : State) : Outcome :=
  .next (s.inBlock 0x90 islSHD fun s => if s.gb (F.TMG_GCLCTL_PENDING n) && decide (tabGet (fun _ => 0) s.tmg.gclFrom n ≤ s.tku.dt) then s.gclTake n else s)

/-! ## Sampling (R198, R199) -/

/-- A number of ns in units of 2^DUNIT ns, saturating at 16 bits. -/
def State.sampNs (s : State) (ns : Nat) : Nat := min 65535 (ns / 2 ^ s.gf F.TMG_SAMPCFG_DUNIT)

/-- One queue's entry of a sample record. -/
def State.sampEntry (s : State) (q : Nat) : List Byte :=
  let t := s.tmq q
  let n := s.tmqPort q
  let (age, gate, pause) := match t.frames with
    | (k, _) :: _ => (s.now - t.headAt, !s.gateFits n (q % 8) (s.txNs n (wireLen k)), s.pauseHeld n (q % 8))
    | [] => (0, false, false)
  let shape := (s.tmqPath q).any fun e => decide ((s.node e.1 e.2).credit < 0)
  leBytes 4 (q + b2n gate * 2 ^ 17 + b2n pause * 2 ^ 18 + b2n shape * 2 ^ 19 + min 4095 t.frames.length * 2 ^ 20) ++
    leBytes 4 (t.depth % 2 ^ 24 + t.drops * 2 ^ 24) ++ leBytes 4 (s.sampNs age + s.sampNs t.maxWait * 65536)

/-- One record of up to four queues, sealed or dropped; the samples start afresh. -/
def State.sampRecord (s : State) (us : Nat) (qs : List Nat) : State :=
  let r := leBytes 6 us ++ [byte 0x10, byte qs.length] ++ leBytes 4 s.tmg.sweeps ++ leBytes 4 0 ++ qs.flatMap s.sampEntry
  let s := qs.foldl (fun s q => s.setTmq q { s.tmq q with drops := 0, maxWait := 0 }) s
  match s.post (s.gf F.TMG_SAMPCFG_SWARD) (s.gf F.TMG_SAMPCFG_CHANNEL) (fitBytes 64 r) with
  | some s => s
  | none => (s.tmgCount 0 12).report 0x9006 0 0 []

/-- The records of a sweep, four queues to each. -/
def State.sampAll (s : State) (us : Nat) : Nat → List Nat → State
  | 0, _ => s
  | n + 1, qs => if qs.isEmpty then s else State.sampAll (s.sampRecord us (qs.take 4)) us n (qs.drop 4)

/-- SAMPLE_SWEEP (R198): Device Time has passed a multiple of PERIOD µs since the last sweep. -/
def execSampleSweep (s : State) : Outcome :=
  .next (s.inBlock 0x90 islSHD fun s => let p := s.gf F.TMG_SAMPPER_PERIOD
    let us := s.tku.dt / 65536000 / p * p
    if !s.gb F.TMG_SAMPCFG_EN || p = 0 || us ≤ s.tmg.lastSweep then s else
    let n := s.gf F.TMG_SAMPCNT_COUNT
    let s := s.modTmg fun t => { t with lastSweep := us }
    let s := s.sampAll us n ((List.range n).map fun i => s.gf (F.TMG_SAMPQ_QUEUE i))
    s.modTmg fun t => { t with sweeps := (t.sweeps + 1) % 2 ^ 32 })

/-! ## Node commands (R200, R201) -/

/-- A command's outcome. -/
def State.tmgStatus (s : State) (st : Nat) : State := s.sf F.TMG_NCMD_STATUS st

/-- A write of OP, KIND, INDEX and GO = 1 (R200). -/
def State.tmgCmd (s : State) (m : Master) (op kind i : Nat) (body : State → State) : State :=
  s.asWriter m R.TMG_NCMD fun s => body (((s.sf F.TMG_NCMD_OP op).sf F.TMG_NCMD_KIND kind).sf F.TMG_NCMD_INDEX i)

/-- The nodes of a level. -/
def levelSize : Nat → Nat
  | 0 => 131072
  | 1 => 16384
  | 2 => 2048
  | 3 => 128
  | _ => 16

/-- The bits of word 0 and of words 2 and 3 that a level uses (R200). -/
def nodeMask0 : Nat → Nat
  | 0 => 0x3FD
  | 1 => 0x7FF03FF
  | 2 => 0x7FF03FF
  | 3 => 0x1FFF
  | _ => 1

/-- A node's subtree holds frames, for a set or a tenant node. -/
def State.subtreeBusy (s : State) (l i : Nat) : Bool :=
  s.tmg.queues.any fun e => !e.2.frames.isEmpty && (if l = 1 then e.1 / 8 == i else s.tmqTenant e.1 == i)

/-- The node that command data spells at a level, its values held to their limits. -/
def nodeOf (l : Nat) (d : Nat → Nat) (credit : Int) : NodeSt :=
  let w := bitsOf (d 0) 2 8
  let w0 := (if l = 4 || w != 0 then d 0 else putBits (d 0) 2 8 1) &&& nodeMask0 l
  ⟨w0, min 2000000 (bitsOf (d 1) 0 21), bitsOf (d 2) 0 24, if l = 0 then bitsOf (d 3) 0 24 else 0, credit⟩

/-- WRITE_NODE. -/
def State.writeNode (s : State) (l i : Nat) : State :=
  if 5 ≤ l then s.tmgStatus 3
  else if levelSize l ≤ i then s.tmgStatus 1
  else
    let old := s.node l i
    let v := nodeOf l (fun w => s.rdN (R.TMG_NDATA w)) old.credit
    if l = 2 && decide (16 ≤ v.parent) then s.tmgStatus 3
    else if (l = 1 || l = 2) && v.parent != old.parent && s.subtreeBusy l i then s.tmgStatus 2
    else (s.setNode l i v).tmgStatus 0

def execWriteNode (m : Master) (kind : BitVec 3) (i : BitVec 18) (s : State) : Outcome :=
  .next (s.tmgCmd m 1 kind.toNat i.toNat fun s => s.writeNode kind.toNat i.toNat)

/-- A node's eight words (R200). -/
def State.nodeWords (s : State) (l i : Nat) : List Nat :=
  let v := s.node l i
  let t := s.tmq i
  let age := if t.frames.isEmpty then 0 else sat32 (s.now - t.headAt)
  [v.w0, v.w1, v.w2, v.w3, ofSigned 32 v.credit] ++
    if l = 0 then [((t.frames.map fun f => wireLen f.1).sum) % 2 ^ 32, t.frames.length, age] else [0, 0, 0]

/-- READ_NODE. -/
def State.readNode (s : State) (l i : Nat) : State :=
  if 5 ≤ l then s.tmgStatus 3 else if levelSize l ≤ i then s.tmgStatus 1
  else (s.putWords (R.TMG_NDATA 0) (s.nodeWords l i)).tmgStatus 0

def execReadNode (m : Master) (kind : BitVec 3) (i : BitVec 18) (s : State) : Outcome :=
  .next (s.tmgCmd m 2 kind.toNat i.toNat fun s => s.readNode kind.toNat i.toNat)

/-- An L0 queue is discarded, its sent frames completing with ABORTED_BY_RESET (R200). -/
def State.flushTmq (s : State) (q : Nat) : State :=
  let t := s.tmq q
  let n := s.tmqPort q
  let s := (s.setTmq q { t with frames := [], inCal := false, calWait := false }).setCal n ((s.calOf n).filter (· ≠ q))
  t.frames.foldl (fun s f => (s.tmgCount n 11).dropPkt f.1 0xD) s

/-- FLUSH_QUEUE. -/
def State.flushCmd (s : State) (kind i : Nat) : State :=
  if kind ≠ 0 then s.tmgStatus 3 else if 131072 ≤ i then s.tmgStatus 1 else (s.flushTmq i).tmgStatus 0

def execFlushQueue (m : Master) (kind : BitVec 3) (i : BitVec 18) (s : State) : Outcome :=
  .next (s.tmgCmd m 3 kind.toNat i.toNat fun s => s.flushCmd kind.toNat i.toNat)

/-- WRITE_METER (R179, R180, R200): the buckets are full and the counts 0. -/
def State.writeMeter (s : State) (kind i : Nat) : State :=
  let d (w : Nat) : Nat := s.rdN (R.TMG_NDATA w)
  let cir := bitsOf (d 0) 0 21
  let pir := bitsOf (d 1) 0 21
  let cbs := bitsOf (d 2) 0 24
  let pbs := bitsOf (d 3) 0 24
  let w4 := bitsOf (d 4) 0 7
  if kind ≠ 5 then s.tmgStatus 3
  else if 262144 ≤ i then s.tmgStatus 1
  else if pir < cir || cbs = 0 || pbs = 0 || bitsOf w4 3 2 = 3 || bitsOf w4 5 2 = 3 then s.tmgStatus 3
  else (s.setMeter i ⟨[cir, pir, cbs, pbs, w4], 8 * cbs, 8 * pbs, [0, 0, 0, 0]⟩).tmgStatus 0

def execWriteMeter (m : Master) (kind : BitVec 3) (i : BitVec 18) (s : State) : Outcome :=
  .next (s.tmgCmd m 4 kind.toNat i.toNat fun s => s.writeMeter kind.toNat i.toNat)

/-- READ_METER. -/
def State.readMeter (s : State) (kind i : Nat) : State :=
  if kind ≠ 5 then s.tmgStatus 3
  else if 262144 ≤ i then s.tmgStatus 1
  else
    let m := s.meterOf i
    let s := s.putWords (R.TMG_NDATA 0) ((List.range 5).map fun k => m.word k)
    (s.putWords (R.TMG_NDATA 6) ((List.range 4).flatMap fun k => [m.counts.getD k 0 % 2 ^ 32, m.counts.getD k 0 / 2 ^ 32])).tmgStatus 0

def execReadMeter (m : Master) (kind : BitVec 3) (i : BitVec 18) (s : State) : Outcome :=
  .next (s.tmgCmd m 5 kind.toNat i.toNat fun s => s.readMeter kind.toNat i.toNat)

end Sys2Proof.Machine
end

