-- ==== Sys2Proof/Machine/Ors.lean ====
section
/-! DEFINITION. The order restorer: spray options, flow contexts, holding and release, and the commands (R205 to R221). -/

namespace Sys2Proof.Machine

/-! ## Handing a packet to its destination -/

/-- A packet reaches a host receive queue (R180, R261, R264): its meter decides first, and a sent frame's entry completes. -/
def State.toQueue (s : State) (k : Pkt) (q : Nat) : State :=
  let (dropped, k, s) := s.meter k
  if dropped then s.dropPkt k 0xB else
  match s.deliverRx q k with
  | (.dropped st, s) => s.dropPkt k st
  | (.done, s) => (s.freePkt k).sentAs k 0 k.bytes.length

/-- A packet reaches an L0 queue (R104, R181): protected first where its port has MACsec on. -/
def State.toTmq (s : State) (k : Pkt) (q : Nat) : State :=
  match s.macsecTx k (s.tmqPort q) with
  | (none, s) => s
  | (some k, s) => s.tmgAdmit k q

/-- A packet reaches one of the two. -/
def State.handOver (s : State) (k : Pkt) : Dest → State
  | .queue q => s.toQueue k q
  | .tmq q => s.toTmq k q
  | _ => s.dropPkt k 0xB

/-! ## Flows and stamps (R205, R207, R210) -/

/-- A flow context. -/
def State.flow (s : State) (f : Nat) : FlowSt := tabGet (fun _ => {}) s.sec.flows f

/-- Change a flow; ORS_STAT counts the packets held. -/
def State.setFlow (s : State) (f : Nat) (v : FlowSt) : State :=
  let s := s.modSec fun x => { x with flows := tabSet (fun _ => {}) x.flows f v }
  s.sf F.ORS_STAT_HELD ((s.sec.flows.map fun e => e.2.held.length).sum)

def FlowSt.word (v : FlowSt) (k : Nat) : Nat := v.w.getD k 0
def FlowSt.kind (v : FlowSt) : Nat := bitsOf (v.word 4) 1 1
def FlowSt.v6 (v : FlowSt) : Bool := bitAt (v.word 4) 2
def FlowSt.lateact (v : FlowSt) : Bool := bitAt (v.word 4) 3
def FlowSt.flowtag (v : FlowSt) : Nat := bitsOf (v.word 4) 16 16
def FlowSt.maxpkt (v : FlowSt) : Nat := max 1 (min 4096 (bitsOf (v.word 8) 0 13))

/-- Count in ORS_CNT[k]. -/
def State.orsCount (s : State) (k : Nat) : State := s.bump (R.ORS_CNT k)

/-- An option that R205 does not allow. -/
def optionBad (o : List Byte) : Bool :=
  let b := byteAt o 9
  b / 64 != 1 || bitsOf b 4 2 != 0 || !(b % 16 == 0 || b % 16 == 4 || b % 16 == 6)

/-- The stamp of a packet in a context of KIND 0, from its option and outer UDP source port (R210). -/
def sprayStamp (o : List Byte) (udp : Nat) : Stamp := ⟨beAt o 0 8 * 256, byteAt o 8, 0x6010 + udp % 16, 0⟩

/-- The stamp of a packet in a context of KIND 1: its receive stamp, its domain qualified by the receiving member (R210). -/
def State.mergeStamp (s : State) (k : Pkt) : Stamp :=
  { k.rx with domain := k.rx.domain + 65536 * k.member.getD (s.gf F.STK_STATUS_MYID) }

/-- order() as R210 states it for a KIND. -/
def orsOrder (kind : Nat) (a b : Stamp) : Order :=
  if kind = 1 then order a b else
  match orderBounds a b with
  | some o => o
  | none => if a.domain = b.domain && shortOf a.time == shortOf b.time then .same else .concurrent

/-- How far stamp `a` lies after stamp `b`, in 1/256 ns. -/
def shortGap (a b : Stamp) : Int := signedOf 64 (shortOf a.time + 2 ^ 64 - shortOf b.time)

/-- The open context of KIND 0 for an option and its outer source address, or of KIND 1 for a queue (R207). -/
def State.sprayFlow (s : State) (o : List Byte) (src : List Nat) : Option Nat :=
  (s.sec.flows.find? fun e => e.2.isOpen && e.2.kind == 0 && e.2.w.take 4 == src.take 4 && b2n e.2.v6 == src.getD 4 0 && e.2.flowtag == beAt o 10 2).map (·.1)

def State.mergeFlow (s : State) (d : Dest) : Option Nat :=
  match d with
  | .queue q => (s.sec.flows.find? fun e => e.2.isOpen && e.2.kind == 1 && bitsOf (e.2.word 5) 0 17 == q).map (·.1)
  | _ => none

/-! ## Release (R211, R213, R219) -/

/-- r of R211, in 1/256 ns. -/
def State.orsR (s : State) : Nat := boundUnits (s.gf F.TKU_STATE_BOUND) + s.rdN (R.TKU_ISLUNC islSHD)

/-- A packet's release window, and whether MAXWIN cuts it (R211). -/
def State.window (s : State) (v : FlowSt) (h : HeldSt) : Nat × Bool :=
  let w := 256 * bitsOf (v.word 6) 0 24 + boundUnits h.s.bound + s.orsR
  let m := 256 * bitsOf (v.word 7) 0 24
  if m ≠ 0 && decide (m < w) then (m, true) else (w, false)

/-- A packet leaves ORS, with its launch time where LTOFF is not 0 (R219). -/
def State.orsOut (s : State) (v : FlowSt) (h : HeldSt) : State :=
  let k := match h.dest with
    | .tmq _ => if v.word 9 = 0 then h.pkt else { h.pkt with launch := some ((shortOf h.s.time + 256 * v.word 9) % 2 ^ 64) }
    | _ => h.pkt
  s.handOver k h.dest

/-- The head of a flow is released (R213, R214). -/
def State.releaseHead (s : State) (f : Nat) : State :=
  let v := s.flow f
  match v.held with
  | [] => s
  | h :: t => ((s.setFlow f { v with held := t, last := some h.s }).orsCount 1).orsOut v h

/-- A head's window has passed, or the published bound is infinite (R213, R215). -/
def State.headDue (s : State) (v : FlowSt) (h : HeldSt) : Bool :=
  s.gf F.TKU_STATE_BOUND == 0xFF || decide ((s.window v h).1 < signedOf 64 (shortOf s.tku.dt + 2 ^ 64 - shortOf h.s.time))

/-- The heads that are due leave one after another; a head whose window MAXWIN cuts counts once (R211, R213). -/
def State.releaseDue (s : State) (f : Nat) : Nat → State
  | 0 => s
  | n + 1 =>
    let v := s.flow f
    match v.held with
    | [] => s
    | h :: t =>
      let s := if (s.window v h).2 && !h.clipped then (s.setFlow f { v with held := { h with clipped := true } :: t }).orsCount 10 else s
      if s.headDue v h then State.releaseDue (s.releaseHead f) f n else s

/-- Every held packet of a flow leaves in list order. -/
def State.releaseFlow (s : State) (f : Nat) : Nat → State
  | 0 => s
  | n + 1 => State.releaseFlow (s.releaseHead f) f n

/-- ORS_RELEASE (R213). -/
def execOrsRelease (f : Fin 16384) (s : State) : Outcome := .next (s.inBlock 0x88 islSHD fun s => s.releaseDue f (s.flow f).held.length)

/-- Every held packet of every flow leaves in list order (R221). -/
def State.releaseAll (s : State) : State := s.sec.flows.foldl (fun s e => s.releaseFlow e.1 e.2.held.length) s

/-- A write of 0 to ORS_CFG.EN (R221). -/
def State.orsDisable (s : State) : State := (s.sb F.ORS_CFG_EN false).releaseAll

def execOrsDisable (m : Master) (s : State) : Outcome := .next (s.asWriter m R.ORS_CFG State.orsDisable)

/-! ## Arrival (R209, R212, R214 to R216) -/

/-- Place a packet among the held ones by R212; none for a copy of a held packet. `b` is the list in reverse, tail first. -/
def placeRev (kind : Nat) (p : HeldSt) : List HeldSt → Option (List HeldSt)
  | [] => some [p]
  | h :: t =>
    match orsOrder kind h.s p.s with
    | .same => none
    | .before => some (p :: h :: t)
    | .concurrent => if 0 ≤ shortGap p.s h.s then some (p :: h :: t) else (placeRev kind p t).map (h :: ·)
    | .after => (placeRev kind p t).map (h :: ·)

/-- An event of a packet in ORS (R214, R457). -/
def State.orsReport (s : State) (code sev : Nat) (k : Pkt) : State := s.portReport code sev 0x8800 k

/-- The flow whose head has the oldest P.s. -/
def State.oldestFlow (s : State) : Option Nat :=
  (s.sec.flows.foldl (fun (b : Option (Nat × Stamp)) e =>
    match e.2.held, b with
    | [], _ => b
    | h :: _, none => some (e.1, h.s)
    | h :: _, some (_, x) => if shortGap h.s x < 0 then some (e.1, h.s) else b) none).map (·.1)

/-- A head released for room (R216). -/
def State.forceRelease (s : State) (f : Nat) : State :=
  let v := s.flow f
  match v.held with
  | [] => s
  | h :: _ =>
    (((s.setFlow f { v with forced := min 65535 (v.forced + 1) }).orsCount 3).orsReport 0x8801 0 h.pkt).releaseHead f

/-- Room is made for one more packet of a flow (R216). -/
def State.makeRoom (s : State) (f : Nat) : State :=
  let s := if (s.flow f).maxpkt ≤ (s.flow f).held.length then s.forceRelease f else s
  if s.gf F.ORS_STAT_HELD < 65536 then s else
  let s := match s.oldestFlow with | some g => s.forceRelease g | none => s
  if onceMs s.sec.storeFullAt s.now then (s.modSec fun x => { x with storeFullAt := some s.now }).report 0x8805 2 0 [] else s

/-- A packet that comes behind later ones already released (R214). -/
def State.orsLate (s : State) (f : Nat) (p : HeldSt) : State :=
  let v := s.flow f
  let s := ((s.setFlow f { v with late := min 65535 (v.late + 1) }).orsCount 2).orsReport 0x8803 0 p.pkt
  match p.dest with
  | .queue _ => s.orsOut v { p with pkt := { p.pkt with status := 9 } }
  | _ => if v.lateact then (s.orsCount 11).dropPkt p.pkt 0xB else s.orsOut v p

/-- A packet lies before the last one released (R214). -/
def FlowSt.isLate (v : FlowSt) (t : Stamp) : Bool :=
  match v.last with
  | some l => orsOrder v.kind t l == .before
  | none => false

/-- A packet of an open flow arrives (R212 to R216). -/
def State.orsArrive (s : State) (f : Nat) (p : HeldSt) : State :=
  let v := s.flow f
  if p.s.bound = 0xFF || s.gf F.TKU_STATE_BOUND == 0xFF then (s.orsCount 6).handOver p.pkt p.dest
  else if (boundUnits p.s.bound + s.orsR : Nat) < signedOf 64 (shortOf p.s.time + 2 ^ 64 - shortOf s.tku.dt) then
    let s := s.orsCount 7
    let s := if onceMs v.futureAt s.now then (s.setFlow f { v with futureAt := some s.now }).orsReport 0x8802 2 p.pkt else s
    s.handOver p.pkt p.dest
  else if v.isLate p.s then s.orsLate f p
  else if (placeRev v.kind p v.held.reverse).isNone then ((s.orsCount 9).orsReport 0x8806 0 p.pkt).dropPkt p.pkt 0xB
  else
    let s := s.makeRoom f
    let v := s.flow f
    match placeRev v.kind p v.held.reverse with
    | none => s
    | some l => ((s.setFlow f { v with held := l.reverse }).orsCount 0).releaseDue f l.length

/-- ORS examines a packet whose destination is a receive queue or an L0 queue (R209). -/
def State.orsExamine (s : State) (k : Pkt) (d : Dest) : State :=
  if !s.gb F.ORS_CFG_EN then s.handOver k d else
  let bad := match k.spray with | some (o, _) => optionBad o | none => false
  if bad then ((s.orsCount 8).orsReport 0x8804 0 k).handOver k d else
  let spray := match k.spray with
    | some (o, src) => (s.sprayFlow o src).map fun f => (f, sprayStamp o (src.getD 5 0))
    | none => none
  match spray, s.mergeFlow d with
  | some (f, t), _ => s.orsArrive f ⟨k, d, t, false⟩
  | none, some f => s.orsArrive f ⟨k, d, s.mergeStamp k, false⟩
  | none, none => (s.orsCount 4).handOver k d

/-- A packet that ORS does not examine counts when it carries an option (R209). -/
def State.orsBypass (s : State) (k : Pkt) : State := if s.gb F.ORS_CFG_EN && k.spray.isSome then s.orsCount 5 else s

/-- The spray option of a frame's first parse with what ORS needs beside it (R208): the outer source address as four words, whether it is IPv6, and the
UDP source port. -/
def captureSpray (f : List Byte) (hdrs : List Hdr) : Option (List Byte × List Nat) :=
  match hdrs.find? (fun h : Hdr => h.typ == 0x10 && h.layer == 0), layerL3 hdrs 0 with
  | some h, some l3 =>
    let src := if l3.typ = 5 then (List.range 4).map fun i => beAt f (l3.off + 8 + 4 * i) 4 else [0, 0, 0, beAt f (l3.off + 12) 4]
    some (cut f h.off 12, src ++ [b2n (l3.typ == 5), beAt f (h.off - 8) 2])
  | _, _ => none

/-! ## Commands (R220) -/

/-- A write of OP, INDEX and GO = 1 (R220); a GO while BUSY is 1 is ignored. -/
def State.orsCmd (s : State) (m : Master) (op i : Nat) (body : State → State) : State :=
  s.asWriter m R.ORS_FCMD fun s =>
    if s.gb F.ORS_FCMD_BUSY then s else body ((s.sf F.ORS_FCMD_OP op).sf F.ORS_FCMD_INDEX i)

/-- A command's outcome. -/
def State.orsStatus (s : State) (st : Nat) : State := s.sf F.ORS_FCMD_STATUS st

/-- Words of ORS_FDATA. -/
def State.fdata (s : State) (n : Nat) : List Nat := (List.range n).map fun k => s.rdN (R.ORS_FDATA k)

/-- Reserved bits of words 4 to 8, word 5 being left out for MODIFY. -/
def flowBad (w : List Nat) (five : Bool) : Bool :=
  let g (k : Nat) : Nat := w.getD k 0
  bitsOf (g 4) 4 12 != 0 || (five && g 5 / 2 ^ 17 != 0) || g 6 / 2 ^ 24 != 0 || g 7 / 2 ^ 24 != 0 || g 8 / 2 ^ 13 != 0

/-- Two contexts share a key (R207). -/
def sameKey (a b : FlowSt) : Bool :=
  a.kind == b.kind &&
    (if a.kind = 1 then bitsOf (a.word 5) 0 17 == bitsOf (b.word 5) 0 17
     else a.w.take 4 == b.w.take 4 && a.v6 == b.v6 && a.flowtag == b.flowtag)

/-- MAXPKT as it is stored. -/
def storeMaxpkt (w : List Nat) : List Nat := w.set 8 (max 1 (min 4096 (bitsOf (w.getD 8 0) 0 13)))

/-- OPEN. -/
def State.orsOpen (s : State) (f : Nat) : State :=
  let w := s.fdata 10
  let v : FlowSt := { isOpen := true, w := storeMaxpkt (w.set 4 (putBits (w.getD 4 0) 0 1 0)) }
  if flowBad w true then s.orsStatus 4
  else if (s.flow f).isOpen || s.sec.flows.any (fun e => e.2.isOpen && sameKey e.2 v) then s.orsStatus 2
  else (s.setFlow f v).orsStatus 0

def execOrsOpen (m : Master) (i : Fin 16384) (s : State) : Outcome := .next (s.orsCmd m 1 i fun s => s.orsOpen i)

/-- MODIFY. -/
def State.orsModify (s : State) (f : Nat) : State :=
  let w := s.fdata 10
  let v := s.flow f
  if !v.isOpen then s.orsStatus 3
  else if flowBad w false then s.orsStatus 4
  else
    let x := v.w.set 4 (putBits (v.word 4) 3 1 (bitsOf (w.getD 4 0) 3 1))
    (s.setFlow f { v with w := storeMaxpkt (x.take 6 ++ w.drop 6) }).orsStatus 0

def execOrsModify (m : Master) (i : Fin 16384) (s : State) : Outcome := .next (s.orsCmd m 2 i fun s => s.orsModify i)

/-- CLOSE. -/
def State.orsClose (s : State) (f : Nat) : State :=
  let v := s.flow f
  if !v.isOpen then s.orsStatus 3 else ((s.releaseFlow f v.held.length).setFlow f {}).orsStatus 0

def execOrsClose (m : Master) (i : Fin 16384) (s : State) : Outcome := .next (s.orsCmd m 3 i fun s => s.orsClose i)

/-- The words that READ returns. -/
def FlowSt.read (v : FlowSt) : List Nat :=
  if v.isOpen then (List.range 10).map (fun k => if k = 4 then v.word 4 + 1 else v.word k) ++ [v.held.length, v.late + 65536 * v.forced]
  else List.replicate 12 0

def execOrsRead (m : Master) (i : Fin 16384) (s : State) : Outcome :=
  .next (s.orsCmd m 4 i fun s => (s.putWords (R.ORS_FDATA 0) (s.flow i).read).orsStatus 0)

end Sys2Proof.Machine
end

