-- ==== Sys2Proof/Machine/XptNet.lean ====
section
/-! DEFINITION. The frames of the transports: their headers, the invariant CRC, and the packets that a message is cut into (R382, R388, R392, R396). The
wire formats that the manual names and does not define are those of the InfiniBand Architecture with its RoCEv2 annex, TCP and NVMe/TCP (log entry 34). -/

namespace Sys2Proof.Machine

/-- A context. -/
def State.xpt (s : State) (i : Nat) : XptSt := tabGet (fun _ => {}) s.sec.xpts i

/-- Change a context; XPT_STAT counts those that are not FREE. -/
def State.setXpt (s : State) (i : Nat) (x : XptSt) : State :=
  let s := s.modSec fun c => { c with xpts := tabSet (fun _ => {}) c.xpts i x }
  s.sf F.XPT_STAT_COUNT ((s.sec.xpts.filter fun e => e.2.st ≠ 0).length)

/-- Change a context by a function. -/
def State.modXpt (s : State) (i : Nat) (g : XptSt → XptSt) : State := s.setXpt i (g (s.xpt i))

def XptSt.word (x : XptSt) (k : Nat) : Nat := x.w.getD k 0
def XptSt.typ (x : XptSt) : Nat := bitsOf (x.word 0) 0 4

/-- Payload bytes of a full RoCE packet. -/
def XptSt.pmtu (x : XptSt) : Nat := 2 ^ (7 + bitsOf (x.word 17) 24 3)

/-- Count in XPT_CNT[p][k]. -/
def State.xptCount (s : State) (p k : Nat) : State := s.bump (R.XPT_CNT p k)

/-! ## Headers (R388) -/

/-- Ethernet and IP headers from a context's words 0 to 15, before `l4` of protocol `proto`. -/
def ipFrame (w : List Nat) (proto : Nat) (l4 : List Byte) : List Byte :=
  let g (k : Nat) : Nat := w.getD k 0
  let v6 := bitAt (g 0) 4
  let tc := bitsOf (g 0) 8 6 * 4 + (if bitAt (g 0) 6 then 2 else 0)
  let ttl := bitsOf (g 0) 16 8
  let mac (k : Nat) : List Byte := macBytes (g k + bitsOf (g (k + 1)) 0 16 * 2 ^ 32)
  let tag := if bitAt (g 0) 5 then be16 0x8100 ++ be16 (g 3 / 65536) else []
  let addr (k : Nat) : List Byte := (List.range 4).flatMap fun i => beBytes 4 (g (k + i))
  let eth := mac 2 ++ mac 4 ++ tag ++ be16 (if v6 then 0x86DD else 0x0800)
  if v6 then eth ++ beBytes 4 (6 * 2 ^ 28 + tc * 2 ^ 20 + bitsOf (g 14) 0 20) ++ be16 l4.length ++ [byte proto, byte ttl] ++ addr 6 ++ addr 10 ++ l4
  else fixIp4 (eth ++ [0x45, byte tc] ++ be16 (20 + l4.length) ++ [0, 0, 0x40, 0, byte ttl, byte proto, 0, 0] ++ beBytes 4 (g 9) ++ beBytes 4 (g 13) ++ l4)
    eth.length

/-- The bytes that the invariant CRC covers, with the variable fields as ones: of a datagram at `p`, up to `fin`. -/
def icrcBytes (f : List Byte) (p : IpAt) (fin : Nat) : List Byte :=
  let g := f.take fin
  let g := if p.v6 then
      patch (patch g p.off [0x6F, 0xFF, 0xFF, 0xFF]) (p.off + 7) [0xFF]
    else patch (patch (patch g (p.off + 1) [0xFF]) (p.off + 8) [0xFF]) (p.off + 10) [0xFF, 0xFF]
  let u := p.off + p.len
  List.replicate 8 0xFF ++ (patch (patch g (u + 6) [0xFF, 0xFF]) (u + 12) [0xFF]).drop p.off

/-- A RoCEv2 frame with its invariant CRC (R388). -/
def roceFrame (x : XptSt) (fr : XFrame) : List Byte :=
  let pad := (4 - fr.data.length % 4) % 4
  let w := if fr.hw.isEmpty then x.w else fr.hw
  let bth := [byte fr.op, byte (b2n fr.se * 128 + 64 + pad * 16)] ++ be16 (x.word 22) ++ [0] ++ beBytes 3 (fr.dqp.getD (bitsOf (x.word 17) 0 24)) ++
    [byte (b2n fr.ack * 128)] ++ beBytes 3 fr.psn
  let body := bth ++ fr.ext ++ fr.data ++ List.replicate pad 0
  let f := ipFrame w 17 (be16 (w.getD 15 0) ++ be16 4791 ++ be16 (12 + body.length) ++ [0, 0] ++ body ++ [0, 0, 0, 0])
  match protectPoint f with
  | none => f
  | some p =>
    let f := f.take (f.length - 4) ++ leBytes 4 (fcsOf (icrcBytes f p (f.length - 4)))
    if p.v6 then udp6Sum f p.off (p.off + p.len) else f

/-- A TCP segment (R396): no options, and the window is the implementation's. -/
def tcpFrame (x : XptSt) (window : Nat) (fr : XFrame) : List Byte :=
  let seg := be16 (x.word 15) ++ be16 (x.word 15 / 65536) ++ beBytes 4 fr.psn ++ beBytes 4 x.rcv ++ [0x50, if fr.data.isEmpty then 0x10 else 0x18] ++
    be16 window ++ [0, 0, 0, 0] ++ fr.data
  let f := ipFrame x.w 6 seg
  match protectPoint f with
  | none => f
  | some p => tcpSum f p (p.off + p.len)

/-- The queue pair number of a context (R383). -/
def State.qpn (s : State) (i : Nat) : Nat := s.gf F.XPT_CFG_QPNBASE * 2 ^ 20 + i

/-- A frame of a context enters the pipeline of its bound send queue as a transmitted frame (R388). -/
def State.xptSend (s : State) (i : Nat) (fr : XFrame) : State :=
  let x := s.xpt i
  match x.sq with
  | none => s
  | some g =>
    let c := s.q g
    let (win, s) := s.fresh
    let f := if x.typ = 3 then tcpFrame x (Config.tcpWindow win % 65536) fr else roceFrame x fr
    let f := if f.length < 60 then fitBytes 60 f else f
    let (r, s) := s.alloc (128 + f.length) (s.senderReq x.port x.fn) true true (fnmBlame x.fn) (fnWord x.port x.fn)
    let k : Pkt := { bytes := f, src := some (x.port, x.fn), pipe := c.pipe, profile := c.profile, deftmq := c.deftmq,
                     buf := (match r with | .got h => some h | _ => none), xref := some (i, fr.wr) }
    let s := (s.modXpt i fun x => { x with tx := (x.tx + 1) % 2 ^ 64 }).xptCount c.pipe 1
    s.modPipe c.pipe fun y => { y with xptIn := y.xptIn ++ [k] }

/-! ## Cutting messages (R392) -/

/-- A message's payload cut into packets, at least one. -/
def chunks (n : Nat) : Nat → List Byte → List (List Byte)
  | 0, _ => []
  | fuel + 1, l => if l.length ≤ n then [l] else l.take n :: chunks n fuel (l.drop n)

/-- Numbered from 0. -/
def enumFrom0 {α : Type} : Nat → List α → List (Nat × α)
  | _, [] => []
  | i, a :: t => (i, a) :: enumFrom0 (i + 1) t

/-- PSN arithmetic (R393). -/
def psnAdd (a n : Nat) : Nat := (a + n) % 2 ^ 24

/-- PSN `a` lies after `b`. -/
def psnAfter (a b : Nat) : Bool := let d := (a + 2 ^ 24 - b % 2 ^ 24) % 2 ^ 24; decide (1 ≤ d) && decide (d < 2 ^ 23)

/-- The packets of a SEND or WRITE: opcode by place, `first` before the first payload and `last` before the last one. -/
def messageFrames (x : XptSt) (base : Nat) (imm se : Bool) (first last : List Byte) (data : List Byte) (wr : Nat) : List XFrame :=
  let cs := chunks x.pmtu data.length.succ data
  let n := cs.length
  (enumFrom0 0 cs).map fun (i, d) =>
    let fin := i + 1 == n
    { psn := psnAdd x.psn i,
      op := base + (if n = 1 then (if imm then 5 else 4) else if i = 0 then 0 else if fin then (if imm then 3 else 2) else 1),
      ext := (if i = 0 then first else []) ++ (if fin then last else []), data := d, ack := fin, se := fin && se, wr }

/-- The RDMA extended header. -/
def reth (addr rkey len : Nat) : List Byte := beBytes 8 addr ++ beBytes 4 rkey ++ beBytes 4 len

/-- The acknowledgement extended header. -/
def aeth (syndrome msn : Nat) : List Byte := [byte syndrome] ++ beBytes 3 msn

/-- How many responses a READ of `n` bytes takes. -/
def readSpan (pmtu n : Nat) : Nat := max 1 ((n + pmtu - 1) / pmtu)

/-- The responses of a READ, from PSN `psn` on. -/
def readResponses (x : XptSt) (psn : Nat) (data : List Byte) : List XFrame :=
  let cs := chunks x.pmtu data.length.succ data
  let n := cs.length
  (enumFrom0 0 cs).map fun (i, d) =>
    let op := if n = 1 then 0x10 else if i = 0 then 0x0D else if i + 1 = n then 0x0F else 0x0E
    { psn := psnAdd psn i, op, ext := if op = 0x0E then [] else aeth 0x1F x.msn, data := d }

/-! ## Protection information (R398) -/

/-- One byte of the T10 guard CRC, polynomial 0x8BB7. -/
def t10Bits : Nat → Nat → Nat
  | 0, c => c
  | n + 1, c => t10Bits n (if bitAt c 15 then ((c * 2) % 65536) ^^^ 0x8BB7 else c * 2)

/-- The guard CRC of bytes. -/
def t10Crc (l : List Byte) : Nat := l.foldl (fun c b => t10Bits 8 (c ^^^ (b.toNat * 256))) 0

/-- Every block of `z` bytes with its 8 bytes of protection information has a correct guard. -/
def guardsOk (z : Nat) : Nat → List Byte → Bool
  | 0, _ => true
  | n + 1, l => if l.length < z + 8 then true else (t10Crc (l.take z) == beAt (l.drop z) 0 2) && guardsOk z n (l.drop (z + 8))

/-- Block bytes under a PIMODE. -/
def piBlock (mode : Nat) : Nat := if mode = 1 then 512 else 4096

end Sys2Proof.Machine
end

