-- ==== Sys2Proof/Machine/Xpt.lean ====
section
/-! DEFINITION. The transports: contexts and their commands, work requests, RoCEv2 as requester and responder, and congestion control
(R381 to R395, R399 to R402). -/

namespace Sys2Proof.Machine

/-! ## Ends of work requests (R390, R391, R393, R399) -/

/-- A work request completes on its send queue, or silently where it asked for no completion and succeeded. -/
def State.reqDone (s : State) (i : Nat) (r : XReq) (status bytes w6 w7 : Nat) : State :=
  let x := s.xpt i
  let s := s.modXpt i fun x => { x with reqs := x.reqs.filter fun q => q.id != r.id }
  match x.sq with
  | none => s
  | some g =>
    s.complete g r.id { status, kind := 2, bytes, stamp := r.stamp, w6, w7, silent := status == 0 && x.typ != 3 && !bitAt (r.w.getD 0 0) 8 }

/-- Every work request in progress completes with a status. -/
def State.reqsEnd (s : State) (i status : Nat) : State :=
  (s.xpt i).reqs.foldl (fun s r => s.reqDone i r status 0 0 0) s

/-- A context enters ERROR: what it still had in progress completes with FLUSHED (R399). -/
def State.xptError (s : State) (i : Nat) : State := (s.modXpt i XptSt.error).reqsEnd i 0x82

/-- One request fails and its context enters ERROR (R393). -/
def State.xptFail (s : State) (i : Nat) (r : Option XReq) (status : Nat) : State :=
  let s := s.modXpt i XptSt.error
  let s := match r with | some r => s.reqDone i r status 0 (r.w.getD 0 0 % 256) 0 | none => s
  s.reqsEnd i 0x82

/-- An event of a context about a received packet (R403). -/
def State.xptReport (s : State) (code : Nat) (k : Pkt) : State := s.portReport code 0 0xB000 k

/-! ## The requester (R393) -/

/-- The requester goes back to the packet of PSN `psn`, or to the oldest one; a READ is asked for again from its first missing byte. -/
def XptSt.goBack (x : XptSt) (psn : Option Nat) : XptSt :=
  let win := x.win.map fun f =>
    if f.op ≠ 0x0C then f else
    match x.reqs.find? fun r => r.id + 1 == f.wr with
    | some r =>
      let a := r.w.getD 4 0 + r.w.getD 5 0 * 2 ^ 32
      { f with psn := psnAdd r.first (r.moved / x.pmtu), ext := reth (a + r.moved) (r.w.getD 6 0) (r.w.getD 1 0 - r.moved) }
    | none => f
  let n := match psn with | some p => (win.takeWhile fun f => psnAfter p f.psn && f.op != 0x0C).length | none => 0
  { x with win, sent := min n x.sent }

/-- The packets up to PSN `a` are acknowledged, up to a READ that is not complete. -/
def XptSt.ackDrop (x : XptSt) (a : Nat) : XptSt :=
  let n := (x.win.takeWhile fun f => f.op != 0x0C && !psnAfter f.psn a).length
  { x with win := x.win.drop n, sent := x.sent - n, hi := x.hi - n }

/-- The oldest requests that `a` acknowledges whole complete, in order (R390, R393). -/
def State.ackReqs (s : State) (i a : Nat) : Nat → State
  | 0 => s
  | n + 1 =>
    match (s.xpt i).reqs with
    | [] => s
    | r :: _ =>
      let op := r.w.getD 0 0 % 256
      if op = 5 || psnAfter r.last a then s else State.ackReqs (s.reqDone i r 0 (r.w.getD 1 0) op 0) i a n

/-- Whether PSN `a` lies among the packets sent and not yet acknowledged. -/
def XptSt.outstanding (x : XptSt) (a : Nat) : Bool :=
  match x.win, (x.win.take x.hi).getLast? with
  | f :: _, some l =>
    let last := match x.reqs.find? fun r => r.id + 1 == l.wr with | some r => if l.op = 0x0C then r.last else l.psn | none => l.psn
    !psnAfter f.psn a && !psnAfter a last
  | _, _ => false

/-- PSN `a` was never sent. -/
def XptSt.neverSent (x : XptSt) (a : Nat) : Bool :=
  match (x.win.take x.hi).getLast? with
  | some l =>
    let last := match x.reqs.find? fun r => r.id + 1 == l.wr with | some r => if l.op = 0x0C then r.last else l.psn | none => l.psn
    psnAfter a last
  | none => match x.win with
    | f :: _ => !psnAfter f.psn a
    | [] => !psnAfter x.psn a

/-- Progress: an acknowledgement of every PSN up to `a`. -/
def State.ackUpTo (s : State) (i a : Nat) : State :=
  let x := s.xpt i
  if !x.outstanding a then s else
  let y := x.ackDrop a
  let s := s.setXpt i { y with timer := s.now, retries := 0, rnr := 0 }
  s.ackReqs i a y.reqs.length

/-- The wait that an RNR NAK's timer code states, in ns. -/
def rnrNs (c : Nat) : Nat :=
  10000 * ([65536, 1, 2, 3, 4, 6, 8, 12, 16, 24, 32, 48, 64, 96, 128, 192].getD c 0 +
    (if 16 ≤ c then [256, 384, 512, 768, 1024, 1536, 2048, 3072, 4096, 6144, 8192, 12288, 16384, 24576, 32768, 49152].getD (c - 16) 0 else 0))

/-- An Acknowledge packet (R393, R403). -/
def State.takeAck (s : State) (i : Nat) (k : Pkt) (psn syndrome : Nat) : State :=
  let x := s.xpt i
  if x.neverSent psn then (s.xptReport 0xB002 k).xptFail i x.reqs.head? 0x0C
  else match syndrome / 32 % 4 with
  | 0 => s.ackUpTo i psn
  | 1 =>
    let s := s.ackUpTo i (psnAdd psn (2 ^ 24 - 1))
    let x := s.xpt i
    let lim := bitsOf (x.word 18) 3 3
    if lim ≠ 7 && decide (lim ≤ x.rnr) then (s.report 0xB001 0 0 []).xptFail i x.reqs.head? 0x81
    else s.setXpt i { x.goBack (some psn) with rnr := x.rnr + 1, rnrUntil := some (s.now + rnrNs (syndrome % 32)) }
  | 3 =>
    let s := s.ackUpTo i (psnAdd psn (2 ^ 24 - 1))
    let x := s.xpt i
    match syndrome % 32 with
    | 0 => s.setXpt i (x.goBack (some psn))
    | c =>
      let r := x.reqs.find? fun r => !psnAfter r.first psn && !psnAfter psn r.last
      (s.xptReport 0xB002 k).xptFail i (r.or x.reqs.head?) (if c = 2 then 0x83 else if c = 1 then 0x84 else 0x85)
  | _ => s

/-- A READ response (R391, R393): the next one of the oldest incomplete READ is placed. -/
def State.takeReadResp (s : State) (i : Nat) (k : Pkt) (psn : Nat) (data : List Byte) : State :=
  let x := s.xpt i
  if x.neverSent psn then (s.xptReport 0xB002 k).xptFail i x.reqs.head? 0x0C else
  match x.reqs.find? fun r => r.w.getD 0 0 % 256 == 5 with
  | none => s
  | some r =>
    let len := r.w.getD 1 0
    if psn ≠ psnAdd r.first (r.moved / x.pmtu) || len < r.moved + data.length then s else
    let s := s.ackUpTo i (psnAdd r.first (2 ^ 24 - 1))
    let s := s.fnWrite x.port x.fn (r.w.getD 2 0 + r.w.getD 3 0 * 2 ^ 32 + r.moved) data
    let r := { r with moved := r.moved + data.length, stamp := k.rx }
    let s := s.modXpt i fun x => { x with reqs := x.reqs.map (fun q => if q.id == r.id then r else q), timer := s.now, retries := 0, rnr := 0 }
    if r.moved < len || psn ≠ r.last then s
    else if (s.xpt i).reqs.head?.map (·.id) ≠ some r.id then s
    else
      let s := s.modXpt i fun x => { x with win := x.win.drop 1, sent := x.sent - 1, hi := x.hi - 1 }
      s.reqDone i r 0 len 5 0

/-- The context may be acted on by a timer: it is ACTIVE and of a RoCE type. -/
def XptSt.live (x : XptSt) (typ : Nat) : Bool := x.st == 1 && x.typ == typ

/-- ACK_TIMEOUT (R393): no progress on the oldest unacknowledged PSN for ACKTMO. -/
def State.ackTimeout (s : State) (i : Nat) : State :=
  let x := s.xpt i
  if !x.live 1 || x.sent = 0 || x.rnrUntil.isSome || decide (s.now < x.timer + 1000 * bitsOf (x.word 18) 16 16) then s
  else if bitsOf (x.word 18) 0 3 ≤ x.retries then (s.report 0xB001 0 0 []).xptFail i x.reqs.head? 0x80
  else s.setXpt i { x.goBack none with retries := x.retries + 1, timer := s.now }

def execAckTimeout (i : Fin 1048576) (s : State) : Outcome := .next (s.inBlock 0xB0 islSHD fun s => s.ackTimeout i)

/-- RNR_WAIT_EXPIRE (R393): the wait has ended and the requester resends. -/
def execRnrWaitExpire (i : Fin 1048576) (s : State) : Outcome :=
  .next (s.inBlock 0xB0 islSHD fun s => match (s.xpt i).rnrUntil with
    | some t => if t ≤ s.now then s.modXpt i fun x => { x with rnrUntil := none, timer := s.now } else s
    | none => s)

/-! ## The responder (R394, R395) -/

/-- An acknowledgement, negative or not, is put first among what a context has to send. -/
def XptSt.reply (x : XptSt) (psn syndrome : Nat) : XptSt :=
  { x with ctl := x.ctl ++ [{ psn, op := 0x11, ext := aeth syndrome x.msn }], owed := 0, ackAt := none }

/-- An ACK of everything before EPSN. -/
def XptSt.ackNow (x : XptSt) : XptSt := x.reply (psnAdd x.epsn (2 ^ 24 - 1)) 0x1F

/-- A NAK of code `c` for a PSN. -/
def XptSt.nakNow (x : XptSt) (psn c : Nat) : XptSt := x.reply psn (96 + c)

/-- One request packet has been taken: EPSN moves on, and an ACK is owed or sent (R394). -/
def XptSt.took (x : XptSt) (n : Nat) (last : Bool) (now : Nat) : XptSt :=
  let x := { x with epsn := psnAdd x.epsn n, nak := false, msn := if last then (x.msn + 1) % 2 ^ 24 else x.msn }
  if last || 16 ≤ x.owed + 1 then x.ackNow
  else { x with owed := x.owed + 1, ackAt := match x.ackAt with | some t => some t | none => some (now + 8000) }

/-- A receiver-not-ready answer: nothing is consumed (R394, R400). -/
def State.rnrNak (s : State) (i : Nat) (k : Pkt) (psn : Nat) : State :=
  (s.modXpt i fun x => x.reply psn (32 + bitsOf (x.word 18) 6 5)).xptCount k.pipe 7

/-- A message takes the oldest posting of the bound receive queue, and reserves a completion slot (R394): the state, and whether it did. -/
def State.takePosting (s : State) (i : Nat) : Bool × State :=
  let x := s.xpt i
  match x.rq with
  | none => (false, s)
  | some g =>
    let c := s.q g
    if c.st ≠ 1 || s.quiet c.port c.fn then (false, s)
    else if (s.q c.cq).freeSlots = 0 then
      let s := (s.setQ g { c with nCqFull := sat32 (c.nCqFull + 1), cqFullAt := if onceMs c.cqFullAt s.now then some s.now else c.cqFullAt }).qmgCount c.port 9
      (false, if onceMs c.cqFullAt s.now then s.qmgReport 0x3008 0 c.port c.fn else s)
    else match c.posts with
    | [] =>
      let s := (s.setQ g { c with nRqEmpty := sat32 (c.nRqEmpty + 1), rqEmptyAt := if onceMs c.rqEmptyAt s.now then some s.now else c.rqEmptyAt }).qmgCount c.port 10
      (false, if onceMs c.rqEmptyAt s.now then s.qmgReport 0x300A 0 c.port c.fn else s)
    | e :: rest =>
      let s := s.setQ g { c with posts := rest, ci := c.step c.ci 1 }
      if postBad c.gen e.2 then
        let s := (s.qmgCount c.port 6).qmgReport 0x3004 0 c.port c.fn
        let (_, s) := s.writeCpl c.cq c.loc (c.slotOf e.1) c.gen { status := 1, kind := 2, stamp := noStamp }
        (false, s.errHalt g)
      else
        let s := s.modQ c.cq fun y => { y with res := y.res + 1 }
        (true, s.modXpt i fun x => { x with msg := some ⟨c.slotOf e.1, e.2.getD 0 0 + e.2.getD 1 0 * 2 ^ 32, bitsOf (e.2.getD 2 0) 0 16, 0⟩ })

/-- The received message in progress completes (R391). -/
def State.msgDone (s : State) (i : Nat) (k : Pkt) (status bytes w6 w7 : Nat) : State :=
  let x := s.xpt i
  match x.msg, x.rq with
  | some m, some g =>
    let c := s.q g
    let s := (s.modXpt i fun x => { x with msg := none }).release c.cq
    let (_, s) := s.writeCpl c.cq c.loc m.slot c.gen { status, kind := 2, bytes, stamp := k.rx, w6, w7 }
    if errStatus status then s.errHalt g else s
  | _, _ => s

/-- Bytes of a message placed in its posting, as many as fit; whether they all fit. -/
def State.msgPut (s : State) (i : Nat) (l : List Byte) : Bool × State :=
  let x := s.xpt i
  match x.msg with
  | none => (false, s)
  | some m =>
    let n := min l.length (m.cap - m.got)
    let s := s.fnWrite x.port x.fn (m.addr + m.got) (l.take n)
    (n == l.length, s.modXpt i fun x => { x with msg := some { m with got := m.got + n } })

/-- The host address of a remote access, none where the key, the rights or the range forbid it (R394). -/
def State.region (s : State) (x : XptSt) (rkey addr len right : Nat) : Option Nat :=
  let r := s.xpt (rkey / 256)
  let va := r.word 16 + r.word 17 * 2 ^ 32
  let z := r.word 18 + r.word 19 * 2 ^ 32
  if r.st == 1 && r.typ == 5 && r.port == x.port && r.fn == x.fn && bitsOf (r.word 22) 0 8 == rkey % 256 && bitAt (r.word 22) right &&
      decide (va ≤ addr) && decide (addr + len ≤ va + z) then
    some (r.word 20 + r.word 21 * 2 ^ 32 + (addr - va))
  else none

/-- A NAK Remote Access Error (R394). -/
def State.badRkey (s : State) (i : Nat) (k : Pkt) (psn : Nat) : State :=
  ((s.modXpt i fun x => x.nakNow psn 2).xptCount k.pipe 5).xptReport 0xB006 k

/-- A NAK Invalid Request (R392, R394). -/
def State.invalidReq (s : State) (i psn : Nat) : State := s.modXpt i fun x => x.nakNow psn 1

/-- The parts of a RoCE packet. -/
structure BthAt where
  op : Nat
  pkey : Nat
  qp : Nat
  psn : Nat
  body : List Byte

/-- The BTH at offset `o` and what follows it, without padding and the invariant CRC at `fin - 4`. -/
def bthAt (f : List Byte) (o fin : Nat) : BthAt :=
  let pad := bitsOf (byteAt f (o + 1)) 4 2
  ⟨byteAt f o, beAt f (o + 2) 2, beAt f (o + 5) 3, beAt f (o + 9) 3, cut f (o + 12) (fin - 4 - pad - (o + 12))⟩

/-- A SEND packet in order (R394): `first` and `last` by its opcode, `imm` its immediate data. -/
def State.takeSend (s : State) (i : Nat) (k : Pkt) (b : BthAt) (first last imm : Bool) : State :=
  let x := s.xpt i
  let (v, data) := if imm then (ofBe (b.body.take 4), b.body.drop 4) else (0, b.body)
  if first == x.msg.isSome || (first && x.cursor.isSome) then s.invalidReq i b.psn else
  let (ok, s) := if first then s.takePosting i else (true, s)
  if !ok then s.rnrNak i k b.psn else
  let (fits, s) := s.msgPut i data
  let got := match (s.xpt i).msg with | some m => m.got | none => 0
  let w6 := bitsOf (x.word 17) 0 24 + b2n imm * 2 ^ 24
  if !fits then
    let s := (s.invalidReq i b.psn).msgDone i k 0x87 got w6 v
    let keep := (s.xpt i).ctl
    (s.xptError i).modXpt i fun x => { x with ctl := keep }
  else
    let s := if last then s.msgDone i k 0 got w6 v else s
    s.modXpt i fun x => x.took 1 last s.now

/-- A WRITE packet in order (R394). -/
def State.takeWrite (s : State) (i : Nat) (k : Pkt) (b : BthAt) (first last imm : Bool) : State :=
  let x := s.xpt i
  if first == x.cursor.isSome || (first && x.msg.isSome) then s.invalidReq i b.psn else
  let (h, rest) := if first then (b.body.take 16, b.body.drop 16) else ([], b.body)
  let (v, data) := if imm then (ofBe (rest.take 4), rest.drop 4) else (0, rest)
  let len := ofBe ((h.drop 12).take 4)
  let cur := if first then (s.region x (ofBe ((h.drop 8).take 4)) (ofBe (h.take 8)) len 9).map fun a => (a, len) else x.cursor
  match cur with
  | none => s.badRkey i k b.psn
  | some (a, left) =>
    if left < data.length || (last && left ≠ data.length) then s.invalidReq i b.psn else
    let (ok, s) := if imm then s.takePosting i else (true, s)
    if !ok then s.rnrNak i k b.psn else
    let s := s.fnWrite x.port x.fn a data
    let s := s.modXpt i fun y =>
      { y with cursor := (if last then none else some (a + data.length, left - data.length)), wlen := (if first then len else y.wlen) }
    let s := if imm then s.msgDone i k 0 (s.xpt i).wlen (bitsOf (x.word 17) 0 24 + 2 ^ 24) v else s
    s.modXpt i fun x => x.took 1 last s.now

/-- READs whose last response has not been sent. -/
def XptSt.readsOpen (x : XptSt) : Nat := (x.ctl.filter fun f => f.op == 0x0F || f.op == 0x10).length

/-- A READ request, in order or a duplicate executed again (R394); `host` is the data that the read of the region returned. -/
def State.takeRead (s : State) (i : Nat) (k : Pkt) (b : BthAt) (again : Bool) (host : Option (List Byte)) : State :=
  let x := s.xpt i
  let len := ofBe ((b.body.drop 12).take 4)
  if 2 ^ 31 < len || bitsOf (x.word 22) 24 5 ≤ x.readsOpen || x.msg.isSome || x.cursor.isSome then s.invalidReq i b.psn else
  match s.region x (ofBe ((b.body.drop 8).take 4)) (ofBe (b.body.take 8)) len 8, host with
  | none, _ => s.badRkey i k b.psn
  | some _, none => s.modXpt i fun x => x.nakNow b.psn 3
  | some _, some l =>
    s.modXpt i fun x =>
      let x := if again then x else { x with epsn := psnAdd x.epsn (readSpan x.pmtu len), nak := false, msn := (x.msn + 1) % 2 ^ 24, owed := 0, ackAt := none }
      { x with ctl := x.ctl ++ readResponses x b.psn (fitBytes len l) }

/-- A request that an RC context acts on at EPSN. -/
def State.takeInOrder (s : State) (i : Nat) (k : Pkt) (b : BthAt) (host : Option (List Byte)) : State :=
  match b.op with
  | 0x00 => s.takeSend i k b true false false
  | 0x01 => s.takeSend i k b false false false
  | 0x02 => s.takeSend i k b false true false
  | 0x03 => s.takeSend i k b false true true
  | 0x04 => s.takeSend i k b true true false
  | 0x05 => s.takeSend i k b true true true
  | 0x06 => s.takeWrite i k b true false false
  | 0x07 => s.takeWrite i k b false false false
  | 0x08 => s.takeWrite i k b false true false
  | 0x09 => s.takeWrite i k b false true true
  | 0x0A => s.takeWrite i k b true true false
  | 0x0B => s.takeWrite i k b true true true
  | 0x0C => s.takeRead i k b false host
  | _ => s.invalidReq i b.psn

/-- A request of an RC context by its PSN (R394). -/
def State.takeRequest (s : State) (i : Nat) (k : Pkt) (b : BthAt) (host : Option (List Byte)) : State :=
  let x := s.xpt i
  if b.psn = x.epsn then
    if s.quiet x.port x.fn && x.msg.isNone && x.cursor.isNone then s.rnrNak i k b.psn else s.takeInOrder i k b host
  else if psnAfter b.psn x.epsn then (if x.nak then s else s.modXpt i fun x => { x.nakNow x.epsn 0 with nak := true })
  else if b.op = 0x0C then s.takeRead i k b true host
  else s.modXpt i XptSt.ackNow

/-- A context answers a packet with CE set, at most once per CNPINT (R395); `dqp` and `hw` reach the sender of a datagram. -/
def State.cnp (s : State) (i : Nat) (k : Pkt) (dqp : Option Nat) (hw : List Nat) : State :=
  let x := s.xpt i
  let due := match x.cnpAt with | some t => decide (t + 1000 * max 1 (s.gf F.XPT_CFG_CNPINT) ≤ s.now) | none => true
  if due then (s.setXpt i { x with cnpAt := some s.now, ctl := x.ctl ++ [{ psn := 0, op := 0x81, ext := List.replicate 16 0, dqp, hw }] }).xptCount k.pipe 8 else s

/-- A datagram placed behind its 40-byte header (R394). -/
def State.takeDatagram (s : State) (i : Nat) (k : Pkt) (p : IpAt) (b : BthAt) (imm : Bool) : State :=
  let x := s.xpt i
  let rest := b.body.drop 8
  let (v, data) := if imm then (ofBe (rest.take 4), rest.drop 4) else (0, rest)
  if ofBe (b.body.take 4) ≠ x.word 21 then s
  else if s.quiet x.port x.fn then s
  else
    let (ok, s) := s.takePosting i
    if !ok then s else
    let grh := if p.v6 then cut k.bytes p.off 40 else List.replicate 20 0 ++ cut k.bytes p.off 20
    let (fits, s) := s.msgPut i (grh ++ data)
    let got := match (s.xpt i).msg with | some m => m.got | none => 0
    s.msgDone i k (if fits then 0 else 0x87) got (ofBe ((b.body.drop 5).take 3) + b2n imm * 2 ^ 24 + 2 ^ 25) v

/-- The words that send a reply back where a frame came from. -/
def XptSt.backWords (x : XptSt) (f : List Byte) (p : IpAt) : List Nat :=
  let src := beAt f 6 6
  let ip := if p.v6 then (List.range 4).map fun i => beAt f (p.off + 8 + 4 * i) 4 else [0, 0, 0, beAt f (p.off + 12) 4]
  (x.w.take 2 ++ [src % 2 ^ 32, src / 2 ^ 32 + x.word 3 / 65536 * 65536] ++ (x.w.drop 4).take 6 ++ ip ++ (x.w.drop 14).take 2)

/-- A RoCE packet of a context (R392 to R395). -/
def State.takeRoce (s : State) (i : Nat) (k : Pkt) (p : IpAt) (b : BthAt) (host : Option (List Byte)) : State :=
  let x := s.xpt i
  let ce := (if p.v6 then byteAt k.bytes (p.off + 1) / 16 else byteAt k.bytes (p.off + 1)) % 4 == 3
  let s := if !ce || b.op == 0x81 then s
    else if x.typ = 1 then s.cnp i k none [] else s.cnp i k (some (ofBe ((b.body.drop 5).take 3))) (x.backWords k.bytes p)
  if b.op = 0x81 then
    (s.modXpt i fun x => { x with rate := max (s.gf F.XPT_CC_RMIN) (x.rate / 2), rateAt := s.now }).xptCount k.pipe 9
  else if x.typ = 2 then
    (if b.op = 0x64 then s.takeDatagram i k p b false else if b.op = 0x65 then s.takeDatagram i k p b true else s.xptCount k.pipe 4)
  else if b.op = 0x11 then s.takeAck i k b.psn (byteAt b.body 0)
  else if 0x0D ≤ b.op && b.op ≤ 0x10 then s.takeReadResp i k b.psn (if b.op = 0x0E then b.body else b.body.drop 4)
  else if b.op ≤ 0x0C || b.op = 0x13 || b.op = 0x14 || b.op = 0x16 || b.op = 0x17 then s.takeRequest i k b host
  else s.xptCount k.pipe 4

/-- ACK_DEADLINE (R394): an unacknowledged packet is 8 µs old. -/
def execAckDeadline (i : Fin 1048576) (s : State) : Outcome :=
  .next (s.inBlock 0xB0 islSHD fun s => match (s.xpt i).ackAt with
    | some t => if (s.xpt i).live 1 && decide (t ≤ s.now) then s.modXpt i XptSt.ackNow else s
    | none => s)

/-! ## Congestion control and pacing (R395) -/

/-- The rate of the port that a context's send queue leads to, in Mb/s. -/
def State.xptPortRate (s : State) (x : XptSt) : Nat :=
  match x.sq with
  | some g => 1000 * s.portRate (s.tmqPort (s.q g).deftmq)
  | none => 0

/-- RATE_INCREASE (R395): RINC µs without a CNP. -/
def execRateIncrease (i : Fin 1048576) (s : State) : Outcome :=
  .next (s.inBlock 0xB0 islSHD fun s => let x := s.xpt i
    if x.st == 1 && (x.typ == 1 || x.typ == 2) && decide (x.rateAt + 1000 * max 1 (s.gf F.XPT_CCINC_RINC) ≤ s.now) then
      s.setXpt i { x with rate := min (max x.rate (s.xptPortRate x)) (x.rate + s.gf F.XPT_CCINC_RAI), rateAt := s.now }
    else s)

/-- The next packet or segment that a context has to send, and the context after it: acknowledgements and responses first, then what is not yet sent of
the window, then for TCP a new segment within the peer's window. -/
def XptSt.next (x : XptSt) (now : Nat) : Option (XFrame × Bool × XptSt) :=
  match x.ctl with
  | f :: t => some (f, false, { x with ctl := t })
  | [] =>
    if x.rnrUntil.isSome then none else
    match x.win[x.sent]? with
    | some f => some (f, decide (x.sent < x.hi), { x with sent := x.sent + 1, hi := max x.hi (x.sent + 1), timer := if x.sent = 0 then now else x.timer })
    | none =>
      let n := min (bitsOf (x.word 20) 0 16) (min x.outB.length (x.wnd - (x.psn + 2 ^ 32 - x.una) % 2 ^ 32))
      if x.typ ≠ 3 || n = 0 then none else
      let f : XFrame := { psn := x.psn, data := x.outB.take n }
      some (f, false, { x with win := x.win ++ [f], sent := x.sent + 1, hi := x.sent + 1, psn := (x.psn + n) % 2 ^ 32, outB := x.outB.drop n,
                               timer := if x.win.isEmpty then now else x.timer, owed := 0, ackAt := none })

/-- RATE_PACED_SEND (R388, R395): the context's rate allows its next packet, which enters the pipeline of its send queue. -/
def State.pacedSend (s : State) (i : Nat) : State :=
  let x := s.xpt i
  if x.st ≠ 1 || decide (s.now < x.freeAt) || s.devFatal then s else
  match x.next s.now with
  | none => s
  | some (f, again, y) =>
    let n := f.data.length + f.ext.length + 66
    let y := { y with freeAt := if y.rate = 0 then s.now else s.now + (8000 * n + y.rate - 1) / y.rate }
    let s := s.setXpt i y
    let pipe := match x.sq with | some g => (s.q g).pipe | none => 0
    (if again then s.xptCount pipe 6 else s).xptSend i f

def execRatePacedSend (i : Fin 1048576) (s : State) : Outcome := .next (s.inBlock 0xB0 islSHD fun s => s.pacedSend i)

end Sys2Proof.Machine
end

