-- ==== Sys2Proof/Machine/Nvme.lean ====
section
/-! DEFINITION. NVMe/TCP, work requests, the packets that reach XPT, and the transport commands (R383 to R390, R396 to R401). -/

namespace Sys2Proof.Machine

/-! ## PDUs (R397, R398) -/

def XptSt.hdgst (x : XptSt) : Bool := bitAt (x.word 20) 24
def XptSt.ddgst (x : XptSt) : Bool := bitAt (x.word 20) 25
def XptSt.pimode (x : XptSt) : Nat := bitsOf (x.word 20) 26 2

/-- A PDU of a type with flags, a header after the common one, and data; HPDA aligns the data. -/
def XptSt.pdu (x : XptSt) (typ flags : Nat) (hdr data : List Byte) : List Byte :=
  let hlen := 8 + hdr.length
  let hd := if x.hdgst then 4 else 0
  let al := 4 * (bitsOf (x.word 23) 8 5 + 1)
  let pdo := if data.isEmpty then 0 else (hlen + hd + al - 1) / al * al
  let dd := if x.ddgst && !data.isEmpty then 4 else 0
  let plen := if data.isEmpty then hlen + hd else pdo + data.length + dd
  let head := [byte typ, byte (flags + b2n x.hdgst + (if dd = 4 then 2 else 0)), byte hlen, byte pdo] ++ leBytes 4 plen ++ hdr
  let h := head ++ (if x.hdgst then leBytes 4 (crc32c head) else [])
  if data.isEmpty then h else fitBytes pdo h ++ data ++ (if dd = 4 then leBytes 4 (crc32c data) else [])

/-- The events of a digest or protection failure (R398). -/
def State.digestErr (s : State) (k : Pkt) (cnt : Nat) : State := (s.xptCount k.pipe cnt).xptReport 0xB004 k

/-- A protocol fault (R397, R398): H2CTermReq is sent, every outstanding work request completes, and the context enters ERROR. -/
def State.pduFault (s : State) (i : Nat) (k : Pkt) (fes status : Nat) : State :=
  let x := s.xpt i
  let s := s.xptSend i { psn := x.psn, data := x.pdu 2 0 (leBytes 2 fes ++ List.replicate 14 0) [] }
  let s := if status = 0x88 then s.digestErr k 10 else s.xptReport 0xB005 k
  (s.modXpt i XptSt.error).reqsEnd i status

/-- A command completes (R391, R397, R398). -/
def State.nvmeDone (s : State) (i : Nat) (k : Pkt) (r : XReq) (d0 d3 : Nat) : State :=
  let x := s.xpt i
  let bad := x.pimode ≠ 0 && !guardsOk (piBlock x.pimode) (r.w.getD 1 0) (assemble r.parts)
  let s := if bad then s.digestErr k 11 else s
  s.reqDone i { r with stamp := k.rx } (if r.digest then 0x88 else if bad then 0x89 else 0) r.moved d0 d3

/-- Change one work request of a context. -/
def State.modReq (s : State) (i : Nat) (r : XReq) : State :=
  s.modXpt i fun x => { x with reqs := x.reqs.map fun q => if q.id == r.id then r else q }

/-- C2HData (R397, R398). -/
def State.takeC2h (s : State) (i : Nat) (k : Pkt) (l : List Byte) : State :=
  let x := s.xpt i
  let n := ofLe (cut l 16 4)
  let off := ofLe (cut l 12 4)
  let pdo := byteAt l 3
  match x.reqs.find? fun r => r.cid == ofLe (cut l 8 2) with
  | none => s.pduFault i k 1 0x8E
  | some r =>
    if pdo < 24 + (if x.hdgst then 4 else 0) || l.length ≠ pdo + n + (if x.ddgst then 4 else 0) then s.pduFault i k 1 0x8E
    else if bitsOf (r.w.getD 6 0) 0 2 ≠ 2 || r.w.getD 1 0 < off + n then s.pduFault i k 4 0x8E
    else
      let data := cut l pdo n
      let s := s.fnWrite x.port x.fn (r.w.getD 4 0 + r.w.getD 5 0 * 2 ^ 32 + off) data
      let bad := x.ddgst && ofLe (l.drop (pdo + n)) != crc32c data
      let s := if bad then s.digestErr k 10 else s
      let r := { r with moved := r.moved + n, digest := r.digest || bad, parts := r.parts ++ [(off, data)] }
      let s := s.modReq i r
      if bitAt (byteAt l 1) 3 then s.nvmeDone i k r 0 0 else s

/-- The H2CData PDUs of an R2T, each of at most MAXH2CDATA bytes. -/
def XptSt.h2c (x : XptSt) (cid ttag off : Nat) : List (List Byte) → List Byte
  | [] => []
  | d :: t =>
    x.pdu 6 (if t.isEmpty then 4 else 0) (leBytes 2 cid ++ leBytes 2 ttag ++ leBytes 4 off ++ leBytes 4 d.length ++ [0, 0, 0, 0]) d ++
      XptSt.h2c x cid ttag (off + d.length) t

/-- R2T (R397); `host` is the data that the read of the buffer returned. -/
def State.takeR2t (s : State) (i : Nat) (k : Pkt) (l : List Byte) (host : Option (List Byte)) : State :=
  let x := s.xpt i
  let off := ofLe (cut l 12 4)
  let n := ofLe (cut l 16 4)
  match x.reqs.find? fun r => r.cid == ofLe (cut l 8 2) with
  | none => s.pduFault i k 1 0x8E
  | some r =>
    if bitsOf (r.w.getD 6 0) 0 2 ≠ 1 || r.w.getD 1 0 < off + n then s.pduFault i k 4 0x8E else
    match host with
    | none => s.reqDone i { r with stamp := k.rx } 3 r.moved 0 0
    | some d =>
      let d := fitBytes n d
      let s := s.modReq i { r with moved := r.moved + n, parts := r.parts ++ [(off, d)] }
      s.modXpt i fun x => { x with outB := x.outB ++ x.h2c r.cid (ofLe (cut l 10 2)) off (chunks (x.word 21) d.length.succ d) }

/-- One received PDU (R397, R398): the state, and whether it used the host data. -/
def State.takePdu (s : State) (i : Nat) (k : Pkt) (l : List Byte) (host : Option (List Byte)) : State × Bool :=
  let x := s.xpt i
  let typ := byteAt l 0
  let hd := if x.hdgst then 4 else 0
  if byteAt l 2 ≠ 24 || l.length < 24 + hd then (s.pduFault i k 1 0x8E, false)
  else if typ ≠ 3 && x.hdgst && ofLe (cut l 24 4) != crc32c (l.take 24) then (s.pduFault i k 3 0x88, false)
  else match typ with
  | 3 => ((s.modXpt i XptSt.error).reqsEnd i 0x8D, false)
  | 5 =>
    if l.length ≠ 24 + hd then (s.pduFault i k 1 0x8E, false) else
    match x.reqs.find? fun r => r.cid == ofLe (cut l 20 2) with
    | none => (s.pduFault i k 1 0x8E, false)
    | some r => (s.nvmeDone i k r (ofLe (cut l 8 4)) (ofLe (cut l 20 4)), false)
  | 7 => (s.takeC2h i k l, false)
  | 9 => if l.length ≠ 24 + hd then (s.pduFault i k 1 0x8E, false) else (s.takeR2t i k l host, true)
  | _ => (s.pduFault i k 1 0x8E, false)

/-- The whole PDUs at the front of what a context has received. -/
def State.takePdus (s : State) (i : Nat) (k : Pkt) : Nat → List (Option (List Byte)) → State
  | 0, _ => s
  | n + 1, host =>
    let x := s.xpt i
    if x.st ≠ 1 || x.inB.length < 8 then s else
    let plen := ofLe (cut x.inB 4 4)
    if plen < 24 then s.pduFault i k 1 0x8E
    else if x.inB.length < plen then s
    else
      let s := s.setXpt i { x with inB := x.inB.drop plen }
      let (s, used) := s.takePdu i k (x.inB.take plen) (host.headD none)
      State.takePdus s i k n (if used then host.drop 1 else host)

/-! ## TCP (R396) -/

/-- A pure ACK of a TCP context. -/
def XptSt.tcpAck (x : XptSt) : XptSt := { x with ctl := x.ctl ++ [{ psn := x.psn }], owed := 0, ackAt := none }

/-- The acknowledgement field of a segment: none when it acknowledges what was never sent. -/
def XptSt.tcpAcked (x : XptSt) (a wnd : Nat) (pure_ : Bool) (now : Nat) : Option XptSt :=
  let d := (a + 2 ^ 32 - x.una % 2 ^ 32) % 2 ^ 32
  let o := (x.psn + 2 ^ 32 - x.una % 2 ^ 32) % 2 ^ 32
  if d = 0 then
    if pure_ && wnd == x.wnd && !x.win.isEmpty then
      let x := { x with dup := x.dup + 1 }
      some (if x.dup = 3 then { x with ctl := x.win.take 1 ++ x.ctl } else x)
    else some { x with wnd }
  else if d ≤ o then
    let n := (x.win.takeWhile fun f => decide ((f.psn + f.data.length + 2 ^ 32 - x.una % 2 ^ 32) % 2 ^ 32 ≤ d)).length
    some { x with una := a, wnd, win := x.win.drop n, sent := x.sent - n, hi := x.hi - n, dup := 0, retries := 0,
                  rto := bitsOf (x.word 22) 16 16, timer := now }
  else if 2 ^ 31 ≤ d then some x
  else none

/-- A TCP segment of an NVMe/TCP context (R396, R400). -/
def State.takeTcp (s : State) (i : Nat) (k : Pkt) (p : IpAt) (host : List (Option (List Byte))) : State :=
  let x := s.xpt i
  let f := k.bytes
  let t := p.off + p.len
  let o := t + 4 * (byteAt f (t + 12) / 16)
  let flags := byteAt f (t + 13)
  let data := cut f o (p.fin - o)
  if bitAt flags 2 then ((s.report 0xB009 0 0 []).modXpt i XptSt.error).reqsEnd i 0x8A
  else
    let wnd := beAt f (t + 14) 2 * 2 ^ bitsOf (x.word 20) 16 4
    match (if bitAt flags 4 then x.tcpAcked (beAt f (t + 8) 4) wnd data.isEmpty s.now else some x) with
    | none => (s.xptReport 0xB002 k).xptFail i x.reqs.head? 0x0C
    | some y =>
      let s := s.setXpt i y
      let s :=
        if data.isEmpty || (s.quiet x.port x.fn && y.reqs.isEmpty) then s
        else if beAt f (t + 4) 4 ≠ y.rcv then s.modXpt i XptSt.tcpAck
        else
          let s := s.modXpt i fun x =>
            let x := { x with rcv := (x.rcv + data.length) % 2 ^ 32, inB := x.inB ++ data }
            let full := if bitsOf (x.word 20) 0 16 ≤ data.length then 1 else 0
            if 2 ≤ x.owed + full then x.tcpAck
            else { x with owed := x.owed + full, ackAt := match x.ackAt with | some t => some t | none => some (s.now + 200000) }
          s.takePdus i k (s.xpt i).inB.length host
      if bitAt flags 0 && (s.xpt i).st == 1 then (s.modXpt i XptSt.error).reqsEnd i 0x8B else s

/-- TCP_RTO (R396): the timeout starts at RTOMIN and doubles with each retry. -/
def State.tcpRto (s : State) (i : Nat) : State :=
  let x := s.xpt i
  if !x.live 3 || x.sent = 0 || decide (s.now < x.timer + 1000 * x.rto) then s
  else if bitsOf (x.word 23) 16 4 ≤ x.retries then ((s.report 0xB001 0 0 []).modXpt i XptSt.error).reqsEnd i 0x80
  else s.setXpt i { x with sent := 0, retries := x.retries + 1, rto := 2 * x.rto, timer := s.now }

def execTcpRto (i : Fin 1048576) (s : State) : Outcome := .next (s.inBlock 0xB0 islSHD fun s => s.tcpRto i)

/-- TCP_DELAYED_ACK (R396). -/
def execTcpDelayedAck (i : Fin 1048576) (s : State) : Outcome :=
  .next (s.inBlock 0xB0 islSHD fun s => match (s.xpt i).ackAt with
    | some t => if (s.xpt i).live 3 && decide (t ≤ s.now) then s.modXpt i XptSt.tcpAck else s
    | none => s)

/-! ## Work requests (R389, R390) -/

/-- A work request that breaks its format (R390). -/
def wrBad (x : XptSt) (gen : Nat) (w : List Nat) : Bool :=
  let g (k : Nat) : Nat := w.getD k 0
  let op := g 0 % 256
  bitsOf (g 0) 24 8 != gen ||
    match x.typ with
    | 1 => op == 0 || decide (5 < op) || bitsOf (g 0) 11 13 != 0
    | 2 => op == 0 || decide (2 < op) || bitsOf (g 0) 11 13 != 0 || bitAt (g 0) 9 || g 4 / 2 ^ 24 != 0 || g 6 / 2 ^ 20 != 0
    | _ => op != 0x10 || bitsOf (g 0) 8 16 != 0 || decide (3 ≤ g 6) || g 7 != 0 || g 2 % 64 != 0

/-- A LENGTH beyond its limit, or not a multiple of the protected block (R389, R398). -/
def wrLong (x : XptSt) (len : Nat) : Bool :=
  match x.typ with
  | 1 => decide (2 ^ 31 < len)
  | 2 => decide (x.pmtu < len)
  | _ => decide (16777216 < len) || (x.pimode != 0 && len % (piBlock x.pimode + 8) != 0)

/-- A work request that waits (R390): for READs before a FENCE, for MAXRD, or for MAXOUT. -/
def wrWaits (x : XptSt) (w : List Nat) : Bool :=
  let reads := (x.reqs.filter fun r => r.w.getD 0 0 % 256 == 5).length
  if x.typ = 3 then decide (bitsOf (x.word 22) 0 11 ≤ x.reqs.length)
  else (bitAt (w.getD 0 0) 9 && reads != 0) || (w.getD 0 0 % 256 == 5 && decide (bitsOf (x.word 22) 16 5 ≤ reads))

/-- The ADDRESS context of a datagram (R390). -/
def State.addressOk (s : State) (x : XptSt) (a : Nat) : Bool :=
  let y := s.xpt a
  y.st == 1 && y.typ == 4 && y.port == x.port && y.fn == x.fn

/-- A work request starts (R389, R392, R397), its host data having been read; none was needed where LENGTH is 0 or the request is a READ. -/
def State.wrStart (s : State) (i id : Nat) (w : List Nat) (host : List Byte) : State :=
  let x := s.xpt i
  let g (k : Nat) : Nat := w.getD k 0
  let op := g 0 % 256
  let len := g 1
  let imm := beBytes 4 (g 7)
  let se := bitAt (g 0) 10
  let r : XReq := { id, w }
  match x.typ with
  | 3 =>
    let sqe := fitBytes 64 host
    let cid := ofLe (cut sqe 2 2)
    if x.reqs.any fun q => q.cid == cid then s.complete ((x.sq).getD 0) id { status := 0x8C, kind := 2, stamp := noStamp }
    else s.setXpt i { x with reqs := x.reqs ++ [{ r with cid }], outB := x.outB ++ x.pdu 4 0 sqe [] }
  | 2 =>
    let a := s.xpt (g 6)
    let fr : XFrame := { psn := x.psn, op := if op = 2 then 0x65 else 0x64,
                         ext := beBytes 4 (g 5) ++ [0] ++ beBytes 3 (s.qpn i) ++ (if op = 2 then imm else []), data := fitBytes len host, se,
                         wr := id + 1, hw := a.w.take 16, dqp := some (bitsOf (g 4) 0 24) }
    s.setXpt i { x with reqs := x.reqs ++ [r], ctl := x.ctl ++ [fr], psn := psnAdd x.psn 1 }
  | _ =>
    let addr := g 4 + g 5 * 2 ^ 32
    let frames := match op with
      | 1 => messageFrames x 0 false se [] [] (fitBytes len host) (id + 1)
      | 2 => messageFrames x 0 true se [] imm (fitBytes len host) (id + 1)
      | 3 => messageFrames x 6 false se (reth addr (g 6) len) [] (fitBytes len host) (id + 1)
      | 4 => messageFrames x 6 true se (reth addr (g 6) len) imm (fitBytes len host) (id + 1)
      | _ => [{ psn := x.psn, op := 0x0C, ext := reth addr (g 6) len, ack := true, wr := id + 1 }]
    let n := if op = 5 then readSpan x.pmtu len else frames.length
    s.setXpt i { x with win := x.win ++ frames, psn := psnAdd x.psn n,
                        reqs := x.reqs ++ [{ r with first := x.psn, last := psnAdd x.psn (n - 1) }] }

/-- A work request of a context in ERROR or LOST completes with FLUSHED (R399). -/
def State.wrFlush (s : State) (g : Nat) : State :=
  let c := s.q g
  match c.items.find? fun j => j.done.isNone with
  | none => s
  | some j =>
    if j.disp.isSome then s.complete g j.id { status := 0x82, kind := 2, stamp := noStamp }
    else if !s.canFetch g then s
    else if (s.q c.cq).freeSlots = 0 then s.qmgCount c.port 15
    else
      let s := s.modQ c.cq fun y => { y with res := y.res + 1 }
      let s := s.modQ g fun y => { y with items := y.items.map fun z => if z.id == j.id then { z with disp := some c.gen } else z }
      s.complete g j.id { status := 0x82, kind := 2, stamp := noStamp }

/-- WORK_REQUEST (R389, R390): the oldest work request of a queue that has not been dispatched, with the host data that it reads. -/
def State.workRequest (s : State) (g : Nat) (host : Option (List Byte)) : State :=
  let c := s.q g
  match c.xpt with
  | none => s
  | some i =>
    let x := s.xpt i
    if c.typ ≠ 0 then s
    else if x.st ≠ 1 then s.wrFlush g
    else if !s.canFetch g then s
    else match c.items.find? fun j => j.disp.isNone with
    | none => s
    | some j =>
      let w := j.entries.headD []
      let len := w.getD 1 0
      if j.kind ≠ .work || wrWaits x w then s
      else if (s.q c.cq).freeSlots = 0 then s.qmgCount c.port 15
      else
        let s := s.modQ c.cq fun y => { y with res := y.res + 1 }
        let s := s.modQ g fun y => { y with items := y.items.map fun z => if z.id == j.id then { z with disp := some c.gen } else z }
        let fail (s : State) (st : Nat) : State := s.complete g j.id { status := st, kind := 2, stamp := noStamp, w6 := w.getD 0 0 % 256 }
        if wrBad x c.gen w then fail (s.modQ g fun y => { y with nBad := sat32 (y.nBad + 1) }) 1
        else if wrLong x len then fail s 4
        else if x.typ = 2 && !s.addressOk x (w.getD 6 0) then fail s 0x86
        else match host, x.typ == 3 || (len != 0 && w.getD 0 0 % 256 != 5) with
          | none, true => fail s 3
          | h, _ => s.wrStart i j.id w (h.getD [])

def execWorkRequest (g : Fin 131072) (host : Option (List Byte)) (s : State) : Outcome := .next (s.inBlock 0xB0 islSHD fun s => s.workRequest g host)

/-! ## Reaching a context (R387) -/

/-- A packet is RoCEv2: UDP to port 4791 with a BTH. -/
def roceAt (f : List Byte) : Option IpAt :=
  match protectPoint f with
  | some p => if p.proto f == 17 && beAt f (p.off + p.len + 2) 2 == 4791 && decide (p.off + p.len + 24 ≤ p.fin) then some p else none
  | none => none

/-- XPT takes the packet of a pass that named context `i`, unless it is to be resolved and is not RoCEv2, or a transport sent it. -/
def xptTakes (k : Pkt) : Option Nat :=
  match k.ctx with
  | none => none
  | some i => if k.xref.isSome || (i == 1048575 && (roceAt k.bytes).isNone) then none else some i

/-- The context that a packet reaches. -/
def State.resolve (s : State) (i : Nat) (k : Pkt) : Nat :=
  if i ≠ 1048575 then i else
  match roceAt k.bytes with
  | some p =>
    let qp := beAt k.bytes (p.off + p.len + 13) 3
    if qp / 2 ^ 20 = s.gf F.XPT_CFG_QPNBASE then qp % 2 ^ 20 else 1048575
  | none => 1048575

/-- An IP address of a frame equals a context's, whose words start at `k`. -/
def XptSt.ipIs (x : XptSt) (f : List Byte) (p : IpAt) (k : Nat) (dst : Bool) : Bool :=
  p.v6 == bitAt (x.word 0) 4 &&
    (if p.v6 then (List.range 4).all fun i => beAt f (p.off + (if dst then 24 else 8) + 4 * i) 4 == x.word (k + i)
     else beAt f (p.off + (if dst then 16 else 12)) 4 == x.word (k + 3))

/-- The packet meets what R387 asks of it, but for the context's state. -/
def XptSt.accepts (x : XptSt) (f : List Byte) (p : IpAt) : Bool :=
  let u := p.off + p.len
  x.ipIs f p 6 true &&
    match x.typ with
    | 1 => (roceAt f).isSome && x.ipIs f p 10 false && beAt f (u + 10) 2 % 2 ^ 15 == bitsOf (x.word 22) 0 15
    | 2 => (roceAt f).isSome && beAt f (u + 10) 2 % 2 ^ 15 == bitsOf (x.word 22) 0 15
    | 3 => p.proto f == 6 && beAt f u 2 == x.word 15 / 65536 && beAt f (u + 2) 2 == x.word 15 % 65536
    | _ => false

/-- A packet that reaches no context (R387, R399). -/
def State.noCtx (s : State) (k : Pkt) (log : Bool) : State :=
  let s := s.xptCount k.pipe 2
  if log then s.xptReport 0xB008 k else s

/-- A packet that XPT takes (R387); `host` is what the host reads that it makes return, in order. -/
def State.xptTake (s : State) (i0 : Nat) (k : Pkt) (host : List (Option (List Byte))) : State :=
  let i := s.resolve i0 k
  let x := s.xpt i
  let s := s.xptCount k.pipe 0
  match protectPoint k.bytes with
  | none => s.noCtx k true
  | some p =>
    if x.st = 2 || x.st = 3 then s.noCtx k false
    else if x.st ≠ 1 || !x.accepts k.bytes p then s.noCtx k true
    else
      let s := s.modXpt i fun x => { x with rx := (x.rx + 1) % 2 ^ 64 }
      if x.typ = 3 then s.takeTcp i k p host
      else if ofLe (cut k.bytes (p.fin - 4) 4) ≠ fcsOf (icrcBytes k.bytes p (p.fin - 4)) then (s.xptCount k.pipe 3).xptReport 0xB003 k
      else s.takeRoce i k p (bthAt k.bytes (p.off + p.len + 8) p.fin) (host.headD none)

/-- XPT_RECEIVE (R387): the oldest packet that a pass handed to XPT is consumed. -/
def State.xptReceive (s : State) (host : List (Option (List Byte))) : State :=
  match s.sec.xptIn with
  | [] => s
  | (i, k) :: rest =>
    let s := (s.modSec fun c => { c with xptIn := rest }).xptTake i k host
    (s.freePkt k).sentAs k 0 k.bytes.length

def execXptReceive (host : List (Option (List Byte))) (s : State) : Outcome := .next (s.inBlock 0xB0 islSHD fun s => s.xptReceive host)

/-! ## Commands (R382 to R386, R401) -/

/-- A parameter block that breaks R382. -/
def xptBad (w : List Nat) : Bool :=
  let g (k : Nat) : Nat := w.getD k 0
  let zero (a n : Nat) : Bool := (List.range n).all fun i => g (a + i) == 0
  let typ := bitsOf (g 0) 0 4
  let net := bitsOf (g 0) 7 1 == 0 && bitsOf (g 0) 14 2 == 0 && bitsOf (g 0) 24 8 == 0 && bitsOf (g 5) 16 16 == 0 && bitsOf (g 14) 20 12 == 0
  let mid (v a b : Nat) : Bool := decide (a ≤ v) && decide (v ≤ b)
  let ok := g 1 == 0 && match typ with
    | 1 | 2 => net && g 15 / 65536 == 0 && bitsOf (g 16) 13 3 == 0 && bitsOf (g 16) 29 3 == 0 && mid (bitsOf (g 17) 24 3) 1 5 && bitsOf (g 17) 27 5 == 0 &&
        bitsOf (g 18) 11 5 == 0 && bitsOf (g 18) 16 16 != 0 && g 19 / 2 ^ 24 == 0 && g 20 / 2 ^ 24 == 0 && mid (bitsOf (g 22) 16 5) 1 16 &&
        bitsOf (g 22) 21 3 == 0 && mid (bitsOf (g 22) 24 5) 1 16 && bitsOf (g 22) 29 3 == 0 && g 23 / 2 ^ 24 == 0 && zero 24 8 &&
        (if typ = 1 then g 21 == 0 else bitsOf (g 17) 0 24 == 0 && g 23 == 0)
    | 3 => net && bitsOf (g 16) 13 19 == 0 && mid (bitsOf (g 20) 0 16) 536 16000 && bitsOf (g 20) 16 4 ≤ 14 && bitsOf (g 20) 20 4 ≤ 14 &&
        bitsOf (g 20) 26 2 != 3 && bitsOf (g 20) 28 4 == 0 && decide (4096 ≤ g 21) && mid (bitsOf (g 22) 0 11) 1 1024 && bitsOf (g 22) 11 5 == 0 &&
        mid (bitsOf (g 22) 16 16) 100 65535 && bitsOf (g 23) 5 3 == 0 && bitsOf (g 23) 13 3 == 0 && mid (bitsOf (g 23) 16 4) 1 15 &&
        bitsOf (g 23) 20 12 == 0 && zero 24 8
    | 4 => net && zero 16 16
    | 5 => g 0 / 16 == 0 && zero 2 14 && mid (g 18 + g 19 * 2 ^ 32) 1 (2 ^ 40) && bitsOf (g 22) 10 22 == 0 && zero 23 9
    | _ => false
  !ok

/-- A local queue that a context can bind: RUNNING, of a type and not bound. -/
def State.bindable (s : State) (p f loc typ : Nat) : Option Nat :=
  match s.localQ p f loc with
  | some g => let c := s.q g; if c.st == 1 && c.typ == typ && c.xpt.isNone then some g else none
  | none => none

/-- How many contexts an owner holds. -/
def State.xptOwned (s : State) (owner : Nat) : Nat := (s.sec.xpts.filter fun e => e.2.st ≠ 0 && e.2.owner == owner).length

/-- The lowest FREE index below the reserved one. -/
def State.xptFree (s : State) : Option Nat :=
  (s.sec.xpts.foldl (fun (b : Nat × Bool) e => if !b.2 && e.1 == b.1 && e.2.st ≠ 0 then (b.1 + 1, false) else (b.1, b.2 || decide (b.1 < e.1))) (0, false)).1
    |> fun i => if i < 1048575 then some i else none

/-- A context as it starts, from its block (R382, R384). -/
def State.xptNew (s : State) (p f owner : Nat) (w : List Nat) (sq rq : Option Nat) : XptSt :=
  let g (k : Nat) : Nat := w.getD k 0
  let x : XptSt := { st := 1, port := p, fn := f, owner, w, sq, rq, timer := s.now, rateAt := s.now }
  let x := if x.typ = 3 then { x with psn := g 17, una := g 17, rcv := g 18, wnd := g 19, rto := bitsOf (g 22) 16 16 }
    else { x with psn := g 19, epsn := g 20, msn := g 23 }
  { x with rate := s.xptPortRate x }

/-- The queues that a block names are bound to a context (R384). -/
def State.bindXpt (s : State) (i : Nat) (x : XptSt) : State :=
  let s := s.setXpt i x
  let s := match x.sq with | some g => s.modQ g fun c => { c with xpt := some i } | none => s
  match x.rq with | some g => s.modQ g fun c => { c with xpt := some i } | none => s

/-- CREATE_XPT (R382 to R384), with the block that the read of words 6..7 returned. -/
def State.createXpt (s : State) (x : CmdCtx) (block : Option (List Byte)) : CmdRes :=
  let p := x.port
  let f := x.target
  let a := x.arg 6
  if a % 64 ≠ 0 || x.arg 5 ≠ 0 || !argsZero x (2 ^ 32) 8 then refused s 0x81 else
  let owner := if f < 2 then some 0x7FF else s.tenantOf p f
  match owner with
  | none => refused s 0x80
  | some o =>
    let full := if o = 0x7FF then
        let lim := s.rdN (R.FNM_POOL p 4)
        lim != 0 && decide (lim ≤ s.rdN (R.FNM_POOLUSE p 4))
      else decide (s.tArg o 11 % 2 ^ 21 ≤ s.xptOwned o)
    match full, s.xptFree, block with
    | true, _, _ => refused s 0x90
    | _, none, _ => refused s 0x90
    | _, _, none => refused s 0x93
    | false, some i, some l =>
      let w := words32 32 l
      let typ := bitsOf (w.getD 0 0) 0 4
      let sq := s.bindable p f (bitsOf (w.getD 16 0) 0 13) 0
      let rq := s.bindable p f (bitsOf (w.getD 16 0) 16 13) 1
      if xptBad w then refused s 0x92
      else if (typ ≤ 3 && sq.isNone) || (typ ≤ 2 && rq.isNone) then refused s 0x92
      else
        let c := s.xptNew p f o w (if typ ≤ 3 then sq else none) (if typ ≤ 2 then rq else none)
        { status := 0, st := s.bindXpt i c, r0 := i,
          r1 := if typ ≤ 2 then s.qpn i else if typ = 5 then i * 256 + bitsOf (w.getD 22 0) 0 8 else 0 }

def execCreateXpt (g : Fin 131072) (block : Option (List Byte)) (s : State) : Outcome :=
  .next (s.commandNow g 0x60 fun s x => s.createXpt x block)

/-- The context that a command names (R385). -/
def State.cmdXpt (s : State) (x : CmdCtx) (k : Nat) (f : Nat → XptSt → CmdRes) : CmdRes :=
  let i := x.arg 5
  let c := s.xpt (i % 2 ^ 20)
  if !argsZero x (2 ^ 20) k then refused s 0x81
  else if c.st = 0 || c.port ≠ x.port || c.fn ≠ x.target then refused s 0x91
  else f i c

/-- A context is freed: its queues are unbound and what it held is flushed (R385). -/
def State.freeXpt (s : State) (i : Nat) : State :=
  let c := s.xpt i
  let s := s.xptError i
  let s := match c.sq with | some g => s.modQ g fun q => { q with xpt := none } | none => s
  let s := match c.rq with | some g => s.modQ g fun q => { q with xpt := none } | none => s
  s.setXpt i {}

/-- DESTROY_XPT (R385). -/
def execDestroyXpt (g : Fin 131072) (s : State) : Outcome :=
  .next (s.commandNow g 0x61 fun s x => s.cmdXpt x 6 fun i c =>
    if [c.sq, c.rq].any fun q => match q with | some q => (s.q q).st != 3 | none => false then refused s 0x84
    else { status := 0, st := s.freeXpt i })

/-- The 32 words of a context's record (R401). -/
def XptSt.record (x : XptSt) (i : Nat) (counts : Bool) : List Nat :=
  let w := (List.range 32).map fun k => x.word k
  let w := w.set 1 (x.fn + x.owner * 65536)
  let w := if x.typ = 3 then ((w.set 17 x.psn).set 18 x.rcv).set 19 x.wnd
    else if x.typ ≤ 2 then (let w := (w.set 19 x.psn).set 20 x.epsn; if x.typ = 1 then w.set 23 x.msn else w)
    else w
  let w := w.set 24 (i + x.st * 2 ^ 24)
  if counts then (((w.set 25 (x.tx % 2 ^ 32)).set 26 (x.tx / 2 ^ 32)).set 27 (x.rx % 2 ^ 32)).set 28 (x.rx / 2 ^ 32) else w

/-- QUERY_XPT (R385, R401). -/
def execQueryXpt (g : Fin 131072) (s : State) : Outcome :=
  .next (s.commandNow g 0x62 fun s x => s.cmdXpt x 6 fun i c =>
    if x.arg 4 % 65536 < 128 then refused s 0x81 else { status := 0, st := s, resp := bytesOfWords (c.record i true) })

/-- The fields of MODIFY_XPT: selector bit, argument word, lowest bit, width, block word, least value and whether it is TCP's (R386). -/
def modFields : List (Nat × Nat × Nat × Nat × Nat × Nat × Bool) :=
  [(0, 7, 0, 3, 18, 0, false), (1, 7, 3, 3, 18, 0, false), (2, 7, 16, 16, 18, 1, false), (3, 8, 16, 16, 22, 100, true), (4, 9, 16, 4, 23, 1, true)]

/-- MODIFY_XPT (R386). -/
def State.modifyXpt (s : State) (x : CmdCtx) (i : Nat) (c : XptSt) : CmdRes :=
  let sel := x.arg 6
  let chosen := modFields.filter fun e => bitAt sel e.1
  let mask (k : Nat) : Nat := (chosen.map fun e => if e.2.1 = k then (2 ^ e.2.2.2.1 - 1) * 2 ^ e.2.2.1 else 0).sum
  let stray := [7, 8, 9].any fun k => x.arg k &&& mask k != x.arg k
  let val (e : Nat × Nat × Nat × Nat × Nat × Nat × Bool) : Nat := bitsOf (x.arg e.2.1) e.2.2.1 e.2.2.2.1
  if c.st ≠ 1 && c.st ≠ 2 then refused s 0x84
  else if sel = 0 || 32 ≤ sel || stray || chosen.any (fun e => decide (val e < e.2.2.2.2.2.1)) ||
      chosen.any (fun e => if e.2.2.2.2.2.2 then c.typ != 3 else c.typ != 1 && c.typ != 2) then refused s 0x92
  else
    let w := chosen.foldl (fun w e => w.set e.2.2.2.2.1 (putBits (w.getD e.2.2.2.2.1 0) e.2.2.1 e.2.2.2.1 (val e))) c.w
    { status := 0, st := s.setXpt i { c with w } }

def execModifyXpt (g : Fin 131072) (s : State) : Outcome :=
  .next (s.commandNow g 0x63 fun s x => s.cmdXpt x 10 fun i c => s.modifyXpt x i c)

end Sys2Proof.Machine
end

