-- ==== Sys2Proof/Machine/Pipe.lean ====
section
/-! DEFINITION. The pipelines: which packet enters next, its parse and actions, and what becomes of it at the end of its pass
(R17 to R20, R111, R137 to R145, R352, R419 to R421). -/

namespace Sys2Proof.Machine

/-! ## Punts and copies (R141, R142, R350, R352, R419, R421) -/

/-- Whom an event about a packet blames, with its detail word 6 (R410, R457). -/
def pktBlame (k : Pkt) : Nat × Nat :=
  match k.src with
  | some (p, f) => (fnmBlame f, fnWord p f)
  | none => (if k.port < 16 then 0x6000 + k.port else 0xC000, 0)

/-- The global index of the send queue that a transmitted frame came from. -/
def State.sendQueue (s : State) (k : Pkt) : Nat :=
  match k.send, k.xref with
  | some r, _ => r.queue
  | none, some (i, _) => ((tabGet (fun _ => {}) s.sec.xpts i : XptSt).sq).getD 0
  | none, none => 0

/-- The message of a punt or an ENGINE copy (R352). -/
def State.puntWords (s : State) (k : Pkt) (h : Nat) (copy : Bool) : List Nat :=
  [h,
   k.prec.getD 2 0 % 2 ^ 15 + (k.profile % 64) * 2 ^ 15 + (k.pass % 4) * 2 ^ 21 + (k.bank % 2) * 2 ^ 23 + (k.pipe % 4) * 2 ^ 24 +
     (if k.port < 16 then k.port else 0) * 2 ^ 26 + b2n k.src.isSome * 2 ^ 30 + b2n copy * 2 ^ 31,
   shortOf k.rx.time,
   k.rx.bound + (k.rx.domain % 65536) * 2 ^ 16 + k.rx.seq * 2 ^ 32,
   if k.src.isSome then s.sendQueue k else 0]

/-- A buffer takes an engine reference of the group of sward `w`, with the parse record at offset 0 and a frame at offset 128 (R352, R416, R421). -/
def State.giveEngine (s : State) (h w : Nat) (k : Pkt) (f : List Byte) : State :=
  let b := s.buf h
  let d := memWrite (fun _ => 0) (memWrite (fun _ => 0) b.data 0 (bytesOfWords (fitWords k.prec))) 128 f
  s.setBuf h { b with eng := some (s.gf (F.BPM_SWGRP_GROUP w)), data := d, vlen := 128 + f.length }
where
  /-- The 24 words of a record. -/
  fitWords (l : List Nat) : List Nat := (List.range 24).map fun i => l.getD i 0

/-- A buffer on chip and without an engine reference for the packet to be punted: its own, or one that it moves to (R420, R421). -/
def State.puntBuf (s : State) (k : Pkt) : Option Nat × State :=
  match k.buf with
  | none => (none, s)
  | some h =>
    let b := s.buf h
    if !inHbm h && b.eng.isNone then (some h, s) else
    match s.alloc (poolSize (poolOf h)) b.owner false false 0 0 with
    | (.got h', s) => (some h', (s.unref h).bump (R.BPM_CNT (if inHbm h then 8 else 6)))
    | (_, s) => (none, if inHbm h then (s.bump (R.BPM_CNT 9)).report 0x5004 0 0 [] else s.bump (R.BPM_CNT 7))

/-- ENG_CHAN_FULL, at most once per channel per 1 ms (R350). -/
def State.chanFull (s : State) (w c : Nat) : State :=
  let x := s.chan (chanKey w c)
  if onceMs x.fullAt s.now then (s.setChan (chanKey w c) { x with fullAt := some s.now }).reportAs 0xC012 0 (0xC000 + w) (0xC000 + w) []
  else s

/-- A punt that finds its channel full (R350). -/
def State.puntFull (s : State) (k : Pkt) (w c : Nat) : State := ((s.dropPkt k 0xB).bump (R.ENG_CNT w 7)).chanFull w c

/-- A punt (R142, R145, R352): the packet leaves its pipeline for a channel, held for its bank unless it is a copy, and a sent frame completes. -/
def State.punt (s : State) (k : Pkt) (w c : Nat) (copy : Bool) : State :=
  match s.puntBuf k with
  | (none, s) => s.puntFull k w c
  | (some h, s) =>
    let k := { k with buf := some h }
    match (s.giveEngine h w k k.bytes).seal (chanKey w c) (s.puntWords k h copy) with
    | none => (s.setBuf h { s.buf h with eng := none }).puntFull k w c
    | some s =>
      let s := s.modCls fun x => { x with punts := tabSet (fun _ => none) x.punts (h % 2 ^ 24) (some (k, copy, false)) }
      let s := if copy then s else (s.sf (heldFld k.bank) (s.gf (heldFld k.bank) + 1)).clsCount k.pipe 7
      s.sentAs k 0 k.bytes.length

/-- A buffer for a copy (R419): the packet's own with one more reference, or one charged to the same requester. -/
def State.copyBuf (s : State) (k : Pkt) (trunc : Nat) (engine : Bool) : Option Nat × State :=
  match k.buf with
  | none => (none, s)
  | some h =>
    let b := s.buf h
    if trunc = 0 && decide (b.refs < 63) && (!engine || (b.eng.isNone && !inHbm h)) then (some h, s.addRef h) else
    match s.alloc (128 + (if trunc = 0 then k.frameLen else trunc)) b.owner (!engine) true (pktBlame k).1 (pktBlame k).2 with
    | (.got h, s) => (some h, s)
    | (_, s) => (none, s)

/-- A copy to a sward channel; false when it could not be made. -/
def State.copyEngine (s : State) (k : Pkt) (trunc w c : Nat) : Bool × State :=
  match s.copyBuf k trunc true with
  | (none, s) => (false, s)
  | (some h, s) =>
    let k := { k with buf := some h, bytes := if trunc = 0 then k.bytes else k.bytes.take trunc }
    match (s.giveEngine h w k k.bytes).seal (chanKey w c) (s.puntWords k h true) with
    | none => (false, (s.setBuf h { s.buf h with eng := none }).unref h)
    | some s => (true, s.modCls fun x => { x with punts := tabSet (fun _ => none) x.punts (h % 2 ^ 24) (some (k, true, false)) })

/-- The packet as a copy that goes to a queue: its own metadata is gone but for what its completion reports. -/
def copyPkt (k : Pkt) (h trunc : Nat) : Pkt :=
  { bytes := if trunc = 0 then k.bytes else k.bytes.take trunc, port := k.port, src := k.src, buf := some h, pipe := k.pipe, rx := k.rx,
    prec := k.prec, status := k.status, bank := k.bank }

/-- A copy to an L0 queue; false when it was not admitted. -/
def State.copyTmq (s : State) (k : Pkt) (q : Nat) : Bool × State :=
  let n := s.tmqPort q
  let t := s.toTmq k q
  (t.rd64 (R.TMG_CNT n 0) != s.rd64 (R.TMG_CNT n 0), t)

/-- A copy to a receive queue; false when it was dropped there. -/
def State.copyQueue (s : State) (k : Pkt) (q : Nat) : Bool × State :=
  match s.deliverRx q k with
  | (.dropped _, s) => (false, s.freePkt k)
  | (.done, s) => (true, s.freePkt k)

/-- A mirror session takes a packet that names it (R141): every RATE-th one. -/
def State.mirrorTo (s : State) (k : Pkt) (m : Nat) : State :=
  if !s.gb (F.CLS_MIRROR_EN m) then s else
  let n := tabGet (fun _ => 0) s.cls.mirrorCnt m + 1
  if n < max 1 (s.gf (F.CLS_MIRROR_RATE m)) then s.modCls fun c => { c with mirrorCnt := tabSet (fun _ => 0) c.mirrorCnt m n } else
  let s := s.modCls fun c => { c with mirrorCnt := tabSet (fun _ => 0) c.mirrorCnt m 0 }
  let q := s.gf (F.CLS_MIRROR_QUEUE m)
  let trunc := s.gf (F.CLS_MIRROR_TRUNC m)
  let (ok, s) := if s.gf (F.CLS_MIRROR_KIND m) = 2 then s.copyEngine k trunc (q % 64) (q / 64 % 256) else
    match s.copyBuf k trunc false with
    | (none, s) => (false, s)
    | (some h, s) => if s.gf (F.CLS_MIRROR_KIND m) = 0 then s.copyTmq (copyPkt k h trunc) q else s.copyQueue (copyPkt k h trunc) q
  s.clsCount k.pipe (if ok then 9 else 10)

/-- The copies of a pass (R141). -/
def State.copies (s : State) (w : PassSt) (k : Pkt) : State :=
  let s := w.mirrors.foldl (fun s m => s.mirrorTo k m) s
  match w.copy with
  | none => s
  | some (e, c) =>
    match s.copyEngine k 0 e c with
    | (true, s) => s
    | (false, s) => (s.clsCount k.pipe 8).chanFull e c

/-! ## The end of a pass -/

/-- A packet's last pass in a pipeline has ended (R145). -/
def State.landed (s : State) (k : Pkt) : State := s.sf (inflight k.bank) (s.gf (inflight k.bank) - 1)

/-- The recorded headers of layers that a POP left, at their offsets after `d` bytes were gained before them. -/
def PassSt.moved (w : PassSt) (d : Int) : List Hdr :=
  let low := match w.pop with | some l => if w.hdrs.any (fun h : Hdr => h.layer == l) then l else 0 | none => 0
  (w.hdrs.filter fun h => decide (low ≤ h.layer)).map fun h => { h with off := (h.off + d).toNat, fin := (h.fin + d).toNat }

/-- The innermost recorded TCP or UDP header with the L3 of its layer. -/
def innerL4 (hdrs : List Hdr) : Option (Hdr × Hdr) :=
  match hdrs.reverse.find? fun h => h.typ == 8 || h.typ == 9 with
  | none => none
  | some h => (layerL3 hdrs h.layer).map fun x => (x, h)

/-- The checksum fill of R257. -/
def fillCsum (frag : Bool) (hdrs : List Hdr) (f : List Byte) : List Byte :=
  let f := hdrs.foldl (fun f h => if h.typ = 4 then fixIp4 f h.off else f) f
  match frag, innerL4 hdrs with
  | false, some (l3, l4) =>
    let c := l4.off + csumAt l4.typ
    if l4.typ = 8 && l3.typ = 4 && beAt f c 2 = 0 then f else
    let n := l4.fin - l4.off
    let f := patch f c [0, 0]
    let v := 65535 - fold16 (pseudoSum f l3.typ l3.off (if l4.typ = 8 then 17 else 6) n + sum16 (cut f l4.off n))
    patch f c (beBytes 2 (if l4.typ = 8 && v = 0 then 65535 else v))
  | _, _ => f

/-- PAYLOADOFF of a record moved with the payload (R264). -/
def movePay (rec : List Nat) (d : Int) : List Nat :=
  let v := rec.getD 4 0
  let o := bitsOf v 20 10
  if o = 0x3FF || rec.isEmpty then rec else rec.set 4 (putBits v 20 10 (min 0x3FE (o + d).toNat))

/-- The destination of a pass whose table entry is looked up (R126), or whose TTL has expired (R139). -/
def State.target (s : State) (w : PassSt) : Dest :=
  match w.dest with
  | .itab t k =>
    let i := if k = 0 then 0 else (w.pkt.prec.getD 1 0) % 2 ^ k
    if s.gb (F.PRS_ITAB_VALID t i) then .queue (s.gf (F.PRS_ITAB_QUEUE t i)) else .itab t k
  | d =>
    if w.ttl then
      (if s.gb F.CLS_TTLDEST_KIND then .engine (s.gf F.CLS_TTLDEST_SWARD) (s.gf F.CLS_TTLDEST_CHANNEL) else .queue (s.gf F.CLS_TTLDEST_QUEUE))
    else d

/-- A packet with nowhere to go after its last pass. -/
def State.lost (s : State) (k : Pkt) : State := ((s.landed k).orsBypass k).dropPkt k 0xB

/-- The stack window that a destination falls in (R448), the lowest where several do: its member and its queue there. -/
def State.windowFor (s : State) (host : Bool) (q : Nat) : Option (Nat × Nat) :=
  (List.range 8).findSome? fun w =>
    let b := s.gf (F.STK_WINL_LBASE w)
    let n := s.gf (F.STK_WINC_COUNT w)
    if s.gb (F.STK_WIN_EN w) && s.gf (F.STK_WIN_MEMBER w) != s.gf F.STK_STATUS_MYID && s.gb (F.STK_WIN_KIND w) == host && decide (b ≤ q) &&
      decide (q < b + n) && decide (b + n ≤ 131072) then some (s.gf (F.STK_WIN_MEMBER w), s.gf (F.STK_WINR_RBASE w) + (q - b)) else none

/-- A packet is sent to another member's queue as DATA (R446, R448), or dropped where no route or no room is left. -/
def State.sendAway (s : State) (k : Pkt) (member : Nat) (host : Bool) (q : Nat) : State :=
  let waits := k.send.isSome || k.xref.isSome
  let tag := s.stk.tags
  let d : StkData := { toHost := host, queue := q, cls := k.cls, yellow := k.yellow, rx := ⟨k.rx.time, k.rx.bound, k.rx.domain, k.rx.seq⟩,
                       prec := k.prec, status := k.status, tag := if waits then some tag else none, frame := k.bytes }
  match s.route member with
  | none => (s.dataDrop 0).dropPkt k 6
  | some l =>
    match s.dataSend l (s.ownMsg member false (.data d)) (52 + k.bytes.length) with
    | (false, s) => (s.dataDrop l).dropPkt k 6
    | (true, s) =>
      let s := s.freePkt k
      if waits then s.modStk fun x => { x with tags := x.tags + 1, away := x.away ++ [(tag, member, { k with buf := none })] } else s

/-- A packet reaches the destination of its pass. -/
def State.deliver (s : State) (k : Pkt) : Dest → State
  | .none => (s.clsCount k.pipe 4).lost k
  | .drop => (s.clsCount k.pipe 3).lost k
  | .itab _ _ => ((s.prsCount k.pipe 10).report 0x7006 0 0 []).lost k
  | .queue q =>
    match s.windowFor true q with
    | some (m, r) => ((s.landed k).orsBypass k).sendAway k m true r
    | none => (s.landed k).orsExamine k (.queue q)
  | .tmq q =>
    match s.windowFor false q with
    | some (m, r) => ((s.landed k).orsBypass k).sendAway k m false r
    | none => (s.landed k).orsExamine k (.tmq q)
  | .engine w c => ((s.landed k).orsBypass k).punt k w c false
  | .recirc p =>
    if 3 ≤ k.pass then ((s.clsCount k.pipe 6).report 0x7104 0 0 []).lost k
    else (s.clsCount k.pipe 5).modPipe k.pipe fun x => { x with recirc := x.recirc ++ [{ k with pass := k.pass + 1, profile := p }] }

/-- What follows CRY: XPT takes the packet (R387), or it reaches its destination. -/
def State.afterCry (s : State) (k : Pkt) (d : Dest) : State :=
  match xptTakes k with
  | some i => ((s.landed k).modSec fun c => { c with xptIn := c.xptIn ++ [(i, k)] })
  | none => s.deliver k d

/-- The outcome of CRY for a packet at the end of its pass (R362, R375). -/
def State.throughCry (s : State) (k : Pkt) (d : Dest) : State :=
  match s.cryPass k with
  | (.pass k, s) => s.afterCry k d
  | (.gone, s) => (s.landed k).orsBypass k
  | (.toQueue k q, s) => (s.landed k).orsExamine k (.queue q)
  | (.toSward k w c, s) => ((s.landed k).orsBypass k).punt k w c true

/-- A destination that ends the packet's passes. -/
def Dest.last : Dest → Bool
  | .engine _ _ => false
  | .recirc _ => false
  | _ => true

/-- The end of a pass after its edits and copies: the checksum fill, CRY, XPT and the destination. -/
def State.settlePass (s : State) (w : PassSt) (k : Pkt) (moved : Int) : State :=
  let d := s.target w
  if w.dest = .drop then s.deliver k .drop else
  let fill := if k.csum && d.last then fillCsum (bitAt (k.prec.getD 0 0) 25) (w.moved moved) k.bytes else k.bytes
  match s.rewritePkt k fill with
  | (none, s) => (s.landed k).orsBypass k
  | (some k, s) => s.throughCry { k with prec := if d.last then movePay k.prec moved else k.prec } d

/-- The end of a pass (R139 to R141): its edits unless a final action ran, its copies, and where the packet goes. -/
def State.endPass (s : State) (w : PassSt) : State :=
  let k := w.pkt
  let s := (s.modPipe k.pipe fun x => { x with pass := none }).kdefTake
  if w.final then
    let s := if w.ttl then s.clsCount k.pipe 13 else s
    (s.copies w k).settlePass w k 0
  else
    let (f, d, skip) := s.editFrame w
    let s := s.times (fun s => s.clsCount k.pipe 11) skip
    if 16380 < f.length then ((((s.clsCount k.pipe 12).report 0x7106 0 0 []).landed k).orsBypass k).dropPkt k 4 else
    match s.rewritePkt k f with
    | (none, s) => (s.landed k).orsBypass k
    | (some k, s) => (s.copies w k).settlePass w k d

/-- A pass goes on as far as its lookups are answered, and ends when none is left (R138). -/
def State.runPass (s : State) (w : PassSt) : State :=
  let (w, s) := s.advance w 2
  if w.lookups.isEmpty then s.endPass w else s.modPipe w.pkt.pipe fun x => { x with pass := some w }

/-! ## Which packet enters next (R17 to R19, R29, R111, R143) -/

/-- The pipeline that takes a frame received on port `n` (R17, R125). -/
def State.pipeOf (s : State) (n : Nat) (f : List Byte) : Nat :=
  let h := spreadHash (s.rdN R.PRS_SPREADKEY) f
  match s.portPipes n with
  | [a] => a
  | [a, _] => a + h % 2
  | _ => h % 4

/-- The oldest stored frame of a port is one for pipeline `p`: a PTP message goes past the pipelines (R67). -/
def State.macOffers (s : State) (p n : Nat) : Bool :=
  match (s.mac n).rxBuf with
  | k :: _ => s.pipeOf n k.bytes == p && !(s.gb (F.TKU_PTPCFG_EN n) && (ptpAt (s.gf (F.TKU_PTPCFG_ENCAP n)) k.bytes).isSome)
  | [] => false

/-- The leaves of a pipeline's rotation with their active counts: the MACs, then sent frames, recirculated ones, those that engines return and
those that XPT originates. -/
def State.leaves (s : State) (p : Nat) : List (Nat × Nat × Nat) :=
  let x := s.pipe p
  ((List.range 16).map fun n => (n, n, b2n (s.macOffers p n))) ++
    [(16, 16, b2n !x.sendIn.isEmpty), (17, 17, b2n !x.recirc.isEmpty), (18, 18, b2n !x.ret.isEmpty), (19, 19, b2n !x.xptIn.isEmpty)]

/-- A received frame leaves its MAC's buffer for a buffer of its own (R408, R410), and CRY verifies a MACsec frame first (R372). -/
def State.fromMac (s : State) (p n : Nat) : Option Pkt × State :=
  match (s.mac n).rxBuf with
  | [] => (none, s)
  | k :: rest =>
    let s := (s.setMac n fun c => { c with rxBuf := rest }).decidePause n
    let (r, s) := s.alloc (128 + k.frameLen) (1024 + n) true true (0x6000 + n) 0
    let k := { k with pipe := p, profile := s.gf (F.PRS_PORTPROF_PROFILE n), buf := match r with | .got h => some h | _ => none }
    if k.macsec then s.macsecRx k else (some k, s)

/-- The packet that leaf `i` offers, taken. -/
def State.takeLeaf (s : State) (p i : Nat) : Option Pkt × State :=
  let x := s.pipe p
  if i < 16 then s.fromMac p i
  else if i = 16 then (x.sendIn.head?, s.modPipe p fun x => { x with sendIn := x.sendIn.drop 1 })
  else if i = 17 then (x.recirc.head?, s.modPipe p fun x => { x with recirc := x.recirc.drop 1 })
  else if i = 18 then (x.ret.head?, s.modPipe p fun x => { x with ret := x.ret.drop 1 })
  else (x.xptIn.head?, s.modPipe p fun x => { x with xptIn := x.xptIn.drop 1 })

/-- A packet's first parse captures the banks (R129, R145). -/
def State.firstParse (s : State) (p : Nat) (k : Pkt) : Pkt × State :=
  if k.pass ≠ 0 then (k, s) else
  let b := s.newBank
  ({ k with bank := b, pbank := s.newPbank p }, s.sf (inflight b) (s.gf (inflight b) + 1))

/-- The profile's exception destination (R115, R118). -/
def State.excPass (s : State) (k : Pkt) : Dest :=
  let rd := s.prd k.pbank
  if rb rd (F.PRS_PROF_KIND k.profile) then .engine (rf rd (F.PRS_PROF_EXCSWARD k.profile)) (rf rd (F.PRS_PROF_EXCCHAN k.profile))
  else .queue (rf rd (F.PRS_PROF_EXCQ k.profile))

/-- The status with which a sent frame that the parser dropped completes (R115, R118). -/
def parseStatus (k : Pkt) : Nat := if k.status = 0 then 4 else k.status

/-- A packet's pass from its parse on (R111, R136). -/
def State.enter (s : State) (p : Nat) (k : Pkt) : State :=
  let first := k.pass = 0
  let (k, s) := s.firstParse p { k with cls := none, meter := none, sa := none, ctx := none }
  let (act, hdrs, k, s) := s.parse k
  let k := if first && decide (k.port < 16) && bitAt (s.gf F.ORS_PORTEN_EN) k.port then { k with spray := captureSpray k.bytes hdrs } else k
  match act with
  | .drop => ((s.landed k).orsBypass k).dropPkt k (parseStatus k)
  | .exception => s.endPass { pkt := k, hdrs, dest := s.excPass k, final := true }
  | .go => let (w, s) := s.classify { pkt := k, hdrs }; s.runPass w

/-- A pipeline takes its next packet. -/
def State.nextPacket (s : State) (p : Nat) : State :=
  let (win, t) := cloverPick (s.pipe p).clover (s.leaves p)
  match win with
  | none => s
  | some i =>
    match (s.modPipe p fun x => { x with clover := t }).takeLeaf p i with
    | (some k, s) => s.enter p k
    | (none, s) => s

/-- PIPELINE_PASS (R143): a pipeline that is at a packet boundary takes the next packet by Clover rotation. -/
def execPipelinePass (p : Fin 4) (s : State) : Outcome :=
  .next (s.inBlock 0x71 (islPP p.val) fun s => if s.devFatal || (s.pipe p).pass.isSome then s else s.nextPacket p)

/-! ## Lookup answers (R138, R144, R156, R157, R170) -/

/-- The first lookup of a pass that waits and meets a condition answered. -/
def answerFirst (ok : LookupSt → Bool) (r : Option ResSt) : List LookupSt → List LookupSt
  | [] => []
  | l :: t => if l.answer.isNone && ok l then { l with answer := some r } :: t else l :: answerFirst ok r t

/-- A pass with a lookup answered goes on. -/
def State.answer (s : State) (w : PassSt) (ok : LookupSt → Bool) (r : Option ResSt) : State :=
  s.runPass { w with lookups := answerFirst ok r w.lookups }

/-- A lookup has waited 768 cycles of 0.8 ns (R144). -/
def State.lookupLate (s : State) (l : LookupSt) : Bool := decide (l.at_ + 615 ≤ s.now)

/-- LOOKUP_ANSWER (R156, R157): the oldest local lookup of the pass is answered. -/
def State.lookupAnswer (s : State) (p : Nat) : State :=
  match (s.pipe p).pass with
  | none => s
  | some w =>
    match w.lookups.find? fun l => l.answer.isNone && l.remote.isNone && !s.lookupLate l with
    | none => s
    | some l =>
      let (r, s) := s.tblSearch p l.table l.key l.kdef
      s.answer w (fun l => l.remote.isNone && !s.lookupLate l) (r.map (·.1))

def execLookupAnswer (p : Fin 4) (s : State) : Outcome := .next (s.inBlock 0x71 (islPP p.val) fun s => s.lookupAnswer p)

/-- CLS_LOOKUP_TMO (R144, R170). -/
def State.lookupTmo (s : State) (p : Nat) : State :=
  match (s.pipe p).pass with
  | none => s
  | some w =>
    match w.lookups.find? fun l => l.answer.isNone && s.lookupLate l with
    | none => s
    | some l =>
      let s := (s.clsCount p 15).reportAs 0x7105 2 0x7100 0x8000 []
      let s := if l.remote.isSome then (s.bump (R.TBL_CNT 9)).reportAs 0x8006 2 0x8000 0xF000 [] else s
      s.answer w (fun l => s.lookupLate l) none

def execClsLookupTmo (p : Fin 4) (s : State) : Outcome := .next (s.inBlock 0x71 (islPP p.val) fun s => s.lookupTmo p)

end Sys2Proof.Machine
end

