-- ==== Sys2Proof/Machine/Eng.lean ====
section
/-! DEFINITION. The Sedge engines: threads, the fetch and issue of an instruction, exceptions and the supervisor's notices (R312 to R316, R330 to
R345, R355 to R358). -/

namespace Sys2Proof.Machine

/-! ## Threads (R313, R314, R336) -/

/-- The sward of a thread ID. -/
def swardOf (t : Nat) : Nat := t / 128

/-- The engine of a thread ID, counted over the device. -/
def engineOf (t : Nat) : Nat := t / 8

/-- A thread. -/
def State.thread (s : State) (t : Nat) : ThreadSt := tabGet (fun _ => {}) s.eng.threads t

/-- Change the engines' state. -/
def State.modEng (s : State) (f : EngSt → EngSt) : State := { s with eng := f s.eng }

/-- What of a thread R357 watches. -/
def ThreadSt.sees (x : ThreadSt) : Nat × Bool × Wait := (x.st, x.halted, x.wait)

/-- A master is thread `t`. -/
def Master.isThread (t : Nat) : Master → Bool
  | .engine u => u.val == t
  | _ => false

/-- A thread that starts holds no latch and no held half of a register (R2). -/
def State.dropLatches (s : State) (t : Nat) : State :=
  { s with latches := s.latches.filter fun (l : Latch) => !l.m.isThread t
           heldLow := s.heldLow.filter fun (l : Latch) => !l.m.isThread t }

/-- Replace a thread. A change of its state is one of its sward's, and a thread that leaves WAITING rearms the wait-cycle detector (R357). One that starts
holds no latch (R2). -/
def State.setThread (s : State) (t : Nat) (v : ThreadSt) : State :=
  let o := s.thread t
  let s := if o.st = 0 && v.st != 0 then s.dropLatches t else s
  s.modEng fun g =>
    let w := swardOf t
    { g with
      threads := tabSet (fun _ => {}) g.threads t v
      changed := if o.sees = v.sees then g.changed else tabSet (fun _ => 0) g.changed w s.now
      fired := if o.st = 2 ∧ v.st ≠ 2 then tabSet (fun _ => false) g.fired w false else g.fired }

/-- Register r of a thread; g0 reads 0 (R314). -/
def ThreadSt.g (x : ThreadSt) (r : Nat) : DWord := if r = 0 then 0 else tabGet (fun _ => 0) x.regs r

/-- A write of register r; one of g0 is discarded (R314). -/
def ThreadSt.setG (x : ThreadSt) (r : Nat) (v : DWord) : ThreadSt :=
  if r = 0 then x else { x with regs := tabSet (fun _ => 0) x.regs r v }

/-- The thread after an instruction that goes on at `pc`: it has retired (R327). -/
def ThreadSt.goes (x : ThreadSt) (pc : Nat) : ThreadSt := { x with pc := pc % 2 ^ 32, retired := (x.retired + 1) % 2 ^ 64 }

/-- The thread after an instruction that wrote `v` to `rd`. -/
def ThreadSt.done (x : ThreadSt) (rd : Nat) (v : DWord) : ThreadSt := (x.setG rd v).goes (x.pc + 4)

/-- A thread's instruction writes `v` to `rd` and retires. -/
def State.ends (s : State) (t rd : Nat) (v : DWord) : State := s.setThread t ((s.thread t).done rd v)

/-- A thread begins to wait in an operation (R336). -/
def State.waits (s : State) (t : Nat) (w : Wait) : State := s.setThread t { s.thread t with st := 2, wait := w }

/-- A waiting thread's operation ends with `v` in `rd`, and the thread is READY again, held if it is HALTED (R354). -/
def State.wakes (s : State) (t rd : Nat) (v : DWord) : State :=
  s.setThread t { (s.thread t).done rd v with st := 1, wait := .none }

/-- The start state of a thread (R340). -/
def startThread (pc : Nat) (arg : DWord) (parent : Option Nat) : ThreadSt :=
  { st := 1, pc, arg, parent, regs := tabSet (fun _ => 0) (tabSet (fun _ => 0) [] 1 arg) 2 (dword (parent.getD 0xFFFF)) }

/-! ## Encodings (R315, R316) -/

/-- Format FR. -/
def encR (op rd ra rb fn : Nat) : Nat := op * 2 ^ 26 + rd * 2 ^ 21 + ra * 2 ^ 16 + rb * 2 ^ 11 + fn

/-- Formats FI and FS; with two source registers, FB. -/
def encI (op rd ra : Nat) (imm : BitVec 16) : Nat := op * 2 ^ 26 + rd * 2 ^ 21 + ra * 2 ^ 16 + imm.toNat

/-- Format FJ. -/
def encJ (op : Nat) (off : BitVec 26) : Nat := op * 2 ^ 26 + off.toNat

/-- Format FX. -/
def encX (rd ra rb xop imm5 : Nat) : Nat := 0x30 * 2 ^ 26 + rd * 2 ^ 21 + ra * 2 ^ 16 + rb * 2 ^ 11 + xop * 2 ^ 5 + imm5

/-- A word that is some instruction with its unused fields 0 (R315 to R317, R324, R326). Operand values that an instruction refuses are its own matter. -/
def legalWord (w : Nat) : Bool :=
  let rd := bitsOf w 21 5
  let ra := bitsOf w 16 5
  let rb := bitsOf w 11 5
  let fn := bitsOf w 0 11
  let xop := bitsOf w 5 6
  let i5 := bitsOf w 0 5
  let op := bitsOf w 26 6
  if op = 0 then decide (fn ≤ 0x12) && (decide (fn < 0x10) || rb == 0)
  else if op ≤ 0x04 then true
  else if op ≤ 0x07 then bitsOf w 6 10 == 0
  else if op ≤ 0x0D then true
  else if op ≤ 0x0F then false
  else if op ≤ 0x16 then true
  else if op = 0x17 then false
  else if op ≤ 0x1B then true
  else if op = 0x1C then decide (fn ≤ 4)
  else if op ≤ 0x1F then false
  else if op ≤ 0x25 then true
  else if op ≤ 0x27 then false
  else if op ≤ 0x2A then true
  else if op = 0x2B then false
  else if op = 0x2C then bitsOf w 0 26 == 0
  else if op ≤ 0x2E then bitsOf w 16 10 == 0
  else if op = 0x30 then
    match xop with
    | 0x00 => ra == 0 && rb == 0 && i5 == 0
    | 0x01 => ra == 0 && rb == 0
    | 0x02 | 0x09 | 0x0C => i5 == 0
    | 0x03 | 0x05 => rb == 0 && decide (i5 ≤ 1)
    | 0x04 | 0x07 => rd == 0 && rb == 0
    | 0x06 | 0x0B | 0x0E => rd == 0 && rb == 0 && i5 == 0
    | 0x08 | 0x0A | 0x0D => rb == 0 && i5 == 0
    | 0x0F | 0x10 => rd == 0 && i5 == 0
    | _ => false
  else false

/-! ## Fetch and issue (R333, R337) -/

/-- The code image's base address and its size in bytes (R333, R334). -/
def State.codeBase (s : State) (w : Nat) : Nat := s.gf (F.ENG_SWCODE_BASE w) * 65536
def State.codeSize (s : State) (w : Nat) : Nat := s.gf (F.ENG_SWCSIZE_SIZE w) * 65536

/-- The words of a code line as the image holds them now. -/
def State.imageLine (s : State) (w line : Nat) : List Nat :=
  let l := s.hbmRead (s.codeBase w + 64 * line) 64
  (List.range 16).map fun i => ofLe ((l.drop (4 * i)).take 4)

/-- The key of a thread's code line in its engine's instruction cache. -/
def lineKey (t pc : Nat) : Nat := engineOf t * 2 ^ 18 + pc / 64

/-- A pc lies in the code image. -/
def State.pcOk (s : State) (t pc : Nat) : Bool := pc % 4 == 0 && decide (pc < s.codeSize (swardOf t))

/-- The word at a thread's pc can be `word`: the line is filled from the image, or the engine's cache holds it (R333). -/
def State.fetch (s : State) (t word : Nat) : Option State :=
  let pc := (s.thread t).pc
  if !s.pcOk t pc then none else
  let i := pc / 4 % 16
  let line := s.imageLine (swardOf t) (pc / 64)
  if line.getD i 0 = word then some (s.modEng fun g => { g with icache := tabSet (fun _ => []) g.icache (lineKey t pc) line })
  else
    match (tabGet (fun _ => []) s.eng.icache (lineKey t pc))[i]? with
    | some v => if v = word then some s else none
    | none => none

/-- A thread may issue (R13, R337): READY, its sward working and its RUN 1, and not HALTED or let through by STEP (R354). -/
def State.mayIssue (s : State) (t : Nat) : Bool :=
  let x := s.thread t
  x.st == 1 && s.gb (F.ENG_SWCTL_RUN (swardOf t)) && (!x.halted || x.step) && s.works 0xC0 (islSW (swardOf t))

/-- A STEP is used up by the instruction it lets through, which breaks a period of being HALTED (R351, R354). -/
def State.stepUsed (s : State) (t : Nat) : State :=
  let x := s.thread t
  if x.halted then s.setThread t { x with step := false, stopped := some s.now } else s

/-- A thread issues the instruction `word`, which does `f`, if it may and that is the word at its pc. -/
def State.issues (s : State) (t word : Nat) (f : State → State) : State :=
  if s.mayIssue t then
    match s.fetch t word with
    | some s => f (s.stepUsed t)
    | none => s
  else s

/-! ## Events and notices (R344, R355, R358) -/

/-- An event sent to a thread; one to a FREE, EXITED or FAULTED thread is dropped (R344). Both are counted in that thread's sward (log entry 40). -/
def State.sendEvent (s : State) (t e : Nat) : State :=
  let x := s.thread t
  let w := swardOf t
  if x.st = 1 || x.st = 2 then (s.setThread t { x with pend := x.pend ||| 2 ^ e }).bump (R.ENG_CNT w 2)
  else (s.bump (R.ENG_CNT w 3)).reportAs 0xC022 0 (0xC000 + w) (0xC000 + w) []

/-- A notice enters Skylark's queue, or is counted as lost (R358). -/
def State.toSkylark (s : State) (n : List Nat) : State :=
  if s.eng.skyq.length < 256 then
    ((s.modEng fun g => { g with skyq := g.skyq ++ [n] }).sf F.ENG_SKYQSTAT_COUNT (s.eng.skyq.length + 1)).emit (.skylark "engine notice" n)
  else s.satInc F.ENG_SKYQSTAT_LOST

/-- The notice of R355. -/
def noticeWords (kind t chan code w pc : Nat) (st : Stamp) : List Nat :=
  [kind + t * 2 ^ 8 + chan * 2 ^ 22 + code * 2 ^ 40 + w * 2 ^ 48, shortOf st.time, st.bound + st.domain * 2 ^ 16 + st.seq * 2 ^ 32, pc, 0, 0, 0, 0]

/-- The supervisor of a sward, and its channel. -/
def State.supOf (s : State) (w : Nat) : Nat := w * 128 + s.gf (F.ENG_SWSUP_SUPTID w)
def State.supChan (s : State) (w : Nat) : Nat := chanKey w (s.gf (F.ENG_SWSUP_SUPCHAN w))

/-- A notice's stamp in its sward's island and domain. -/
def State.engStamp (s : State) (w : Nat) : Stamp × State := s.stamp (islSW w) (0xC000 + w)

/-- A notice that goes to Skylark. -/
def State.noticeSky (s : State) (w kind t chan code pc : Nat) : State :=
  let (st, s) := s.engStamp w
  s.toSkylark (noticeWords kind t chan code w pc st)

/-- A notice to the supervisor: sealed in its channel and followed by event 31, or sent to Skylark when the channel is full (R355). -/
def State.notifySup (s : State) (w kind t chan code pc : Nat) : State :=
  let (st, s) := s.engStamp w
  let n := noticeWords kind t chan code w pc st
  match s.seal (s.supChan w) n with
  | some s => s.sendEvent (s.supOf w) 31
  | none => ((s.bump (R.ENG_CNT w 8)).reportAs 0xC014 2 (0xC000 + w) (0xC000 + w) []).toSkylark n

/-! ## Exceptions (R330 to R332, R355, R356) -/

/-- An exception: its code, its address, its immediate and the unit that a BUSERR blames. -/
structure Exc where
  code : Nat
  addr : Nat := 0
  imm : Nat := 0
  blame : Option Nat := none
  deriving DecidableEq, Repr

/-- The exception's record (R331, R334). -/
def State.excRecord (s : State) (t instr : Nat) (e : Exc) : State :=
  let s := s.wrN (R.ENG_TEXC t) (e.code + e.imm * 65536)
  let s := s.wrN (R.ENG_TEXCPC t) ((s.thread t).pc)
  (s.wr64 (R.ENG_TEXCADDR t) e.addr).wrN (R.ENG_TEXCINSTR t) instr

/-- The event of an exception (R332, R356). -/
def State.excEvent (s : State) (t : Nat) (e : Exc) : State :=
  let w := swardOf t
  let s := if e.code ≤ 7 then s.reportAs 0xC001 3 (0xC000 + w) (e.blame.getD (0xC000 + w)) []
    else if e.code = 8 then s.reportAs 0xC002 0 (0xC000 + w) (0xC000 + w) [e.imm] else s
  if e.code ≠ 9 ∧ t = s.supOf w then s.reportAs 0xC021 2 (0xC000 + w) (0xC000 + w) [] else s

/-- The thread stopped: HALTED by BREAK, FAULTED by any other exception, its pc unchanged (R331, R354, R355). -/
def State.excStop (s : State) (t code : Nat) : State :=
  let x := s.thread t
  let x := { x with step := false, stopped := some (x.stopped.getD s.now) }
  s.setThread t (if code = 9 then { x with halted := true } else { x with st := 4 })

/-- An instruction raises an exception (R331): the record, the count, the stopped thread, the event and the notice. -/
def State.raise (s : State) (t instr : Nat) (e : Exc) : State :=
  let w := swardOf t
  let pc := (s.thread t).pc % 2 ^ 32
  let s := (((s.excRecord t instr e).bump (R.ENG_CNT w 13)).excStop t e.code).excEvent t e
  if e.code = 9 then s
  else if t = s.supOf w then s.noticeSky w 4 t 0 e.code pc
  else s.notifySup w 1 t 0 e.code pc

/-! ## The end of a thread, and its children (R341 to R343) -/

/-- The threads that a thread has started and not joined. -/
def State.children (s : State) (t : Nat) : List Nat :=
  ((s.eng.threads.filter fun e => e.2.parent == some t).map fun e => e.1)

/-- A thread is a child of another that has not been joined. -/
def State.isChild (s : State) (t c : Nat) : Bool := (s.thread c).parent == some t && (s.thread c).st != 0

/-- The slots that a thread holds in a state, as (channel, slot). -/
def State.slotsHeld (s : State) (t st : Nat) : List (Nat × Nat) :=
  s.chans.flatMap fun e => ((List.range 16).filter fun k => (e.2.slot k).st == st && (e.2.slot k).holder == t).map fun k => (e.1, k)

/-- A slot becomes FREE. -/
def State.freeSlot (s : State) (c k : Nat) : State :=
  let x := s.chan c
  s.setChan c (x.setSlot k { x.slot k with st := 0, holder := 0, told := none })

/-- A claim released without a seal (R351). -/
def State.unclaim (s : State) (c k : Nat) : State :=
  let w := c / 256
  ((s.freeSlot c k).bump (R.ENG_CNT w 5)).reportAs 0xC013 0 (0xC000 + w) (0xC000 + w) []

/-- A thread leaves every queue that it waits in. -/
def State.leaves_ (s : State) (t : Nat) : State :=
  let out (l : List Nat) := l.filter (· ≠ t)
  let w := swardOf t
  let s := match (s.thread t).wait with
    | .claim _ c => let x := s.chan c; s.setChan c { x with claims := out x.claims }
    | .crecv _ c => let x := s.chan c; s.setChan c { x with recvs := out x.recvs }
    | .move _ c _ => { s with mov := { s.mov with waiting := tabMod (fun _ => []) s.mov.waiting c out } }
    | _ => s
  s.modEng fun g => { g with
    forkq := tabMod (fun _ => []) g.forkq w out
    retq := (List.range 4).foldl (fun q p => tabMod (fun _ => []) q p out) g.retq }

/-- A thread ends with an exit value (R343): its claims and slots are released, its exited children become FREE, its living ones are detached, and it
becomes EXITED if it has a parent and FREE if it has none. -/
def State.endThread (s : State) (t : Nat) (v : DWord) : State :=
  let s := s.leaves_ t
  let s := (s.slotsHeld t 1).foldl (fun s e => s.unclaim e.1 e.2) s
  let s := (s.slotsHeld t 3).foldl (fun s e => s.freeSlot e.1 e.2) s
  let s := (s.children t).foldl (fun s c =>
    let x := s.thread c; s.setThread c (if x.st = 3 then {} else { x with parent := none })) s
  match (s.thread t).parent with
  | some p => s.setThread t { st := 3, exit := v, parent := some p, pc := (s.thread t).pc }
  | none => s.setThread t {}

/-- The FREE threads of an engine of a sward. -/
def State.freeOf (s : State) (w e : Nat) : List Nat :=
  (((List.range 8).map fun i => w * 128 + e * 8 + i).filter fun t => (s.thread t).st == 0)

/-- The FREE thread that a FORK takes (R341). -/
def State.forkThread (s : State) (t : Nat) : Option Nat :=
  let w := swardOf t
  match s.freeOf w (engineOf t % 16) with
  | c :: _ => some c
  | [] =>
    let best := (List.range 16).foldl (fun b e => if (s.freeOf w b).length < (s.freeOf w e).length then e else b) 0
    (s.freeOf w best).head?

/-! ## Control by masters (R333, R334, R339, R354, R359) -/

/-- Every thread of a sward is FREE. -/
def State.allFree (s : State) (w : Nat) : Bool := (List.range 128).all fun i => (s.thread (w * 128 + i)).st == 0

/-- A write of 1 to RUN (R334, R339): while STOPREQ holds the island stopped, STOPPED stays 1 (R480). -/
def State.swardRun (s : State) (w : Nat) : State :=
  let s := (s.sb (F.ENG_SWCTL_RUN w) true).sb (F.ENG_SWCTL_STOPPED w) (s.gb (F.CGU_ISL_STOPREQ (islSW w)))
  let s := s.modEng fun g => { g with changed := tabSet (fun _ => 0) g.changed w s.now }
  if s.allFree w then s.setThread (s.supOf w) (startThread 0 (dword w) none) else s

/-- A write of 0 to RUN (R334). -/
def State.swardHold (s : State) (w : Nat) : State := s.sb (F.ENG_SWCTL_RUN w) false

def execSwardRun (m : Master) (w : Fin 64) (s : State) : Outcome := .next (s.asWriter m (R.ENG_SWCTL w) fun s => s.swardRun w)

def execSwardHold (m : Master) (w : Fin 64) (s : State) : Outcome := .next (s.asWriter m (R.ENG_SWCTL w) fun s => s.swardHold w)

/-- SWARD_STOPPED (R334): RUN is 0 and no instruction of the sward is executing. -/
def execSwardStopped (w : Fin 64) (s : State) : Outcome :=
  .next (if s.gb (F.ENG_SWCTL_RUN w) then s else s.sb (F.ENG_SWCTL_STOPPED w) true)

/-- A write of 1 to ICINV (R333). -/
def execIcinv (m : Master) (w : Fin 64) (s : State) : Outcome :=
  .next (s.asWriter m (R.ENG_SWCTL w) fun s => s.sb (F.ENG_SWCTL_ICINV w) true)

/-- The instruction caches of a sward's engines hold nothing (R333). -/
def State.invalidate (s : State) (w : Nat) : State :=
  s.modEng fun g => { g with icache := g.icache.filter fun e => e.1 / 2 ^ 22 ≠ w }

/-- ICINV_DONE (R333): all 16 engines have invalidated. -/
def execIcinvDone (w : Fin 64) (s : State) : Outcome :=
  .next (if s.gb (F.ENG_SWCTL_ICINV w) then (s.invalidate w).sb (F.ENG_SWCTL_ICINV w) false else s)

/-- HALT (R354); a thread that is FREE or EXITED has no instruction boundary to halt at. -/
def State.haltThread (s : State) (t : Nat) : State :=
  let x := s.thread t
  if x.st = 0 || x.st = 3 then s else s.setThread t { x with halted := true, step := false, stopped := some (x.stopped.getD s.now) }

/-- RESUME (R354). -/
def State.resumeThread (s : State) (t : Nat) : State :=
  let x := s.thread t
  if !x.halted && x.st ≠ 4 then s
  else s.setThread t { x with halted := false, step := false, stopped := none, st := if x.st = 4 then 1 else x.st }

/-- STEP (R354), ignored unless HALTED. -/
def State.stepThread (s : State) (t : Nat) : State :=
  let x := s.thread t
  if x.halted then s.setThread t { x with step := true } else s

/-- KILL (R354), ignored for a FREE thread. -/
def State.killThread (s : State) (t : Nat) : State :=
  if (s.thread t).st = 0 then s else s.endThread t (BitVec.allOnes 64)

def execThreadHalt (m : Master) (t : Fin 8192) (s : State) : Outcome := .next (s.asWriter m (R.ENG_TDBG t) fun s => s.haltThread t)

def execThreadResume (m : Master) (t : Fin 8192) (s : State) : Outcome := .next (s.asWriter m (R.ENG_TDBG t) fun s => s.resumeThread t)

def execThreadStep (m : Master) (t : Fin 8192) (s : State) : Outcome := .next (s.asWriter m (R.ENG_TDBG t) fun s => s.stepThread t)

def execThreadKill (m : Master) (t : Fin 8192) (s : State) : Outcome := .next (s.asWriter m (R.ENG_TDBG t) fun s => s.killThread t)

/-- A write of 1 to ENG_SKYQPOP.POP (R359). -/
def State.skyqPop (s : State) : State :=
  (s.modEng fun g => { g with skyq := g.skyq.drop 1 }).sf F.ENG_SKYQSTAT_COUNT (s.eng.skyq.length - 1)

def execSkyqPop (m : Master) (s : State) : Outcome := .next (s.asWriter m R.ENG_SKYQPOP State.skyqPop)

/-! ## The hold limit (R351) and the wait-cycle detector (R357) -/

/-- The start of the period in which a claim has been held by a stopped owner, if its owner is stopped. -/
def State.heldSince (s : State) (c k : Nat) : Option Nat :=
  let x := (s.chan c).slot k
  if x.st = 1 then (s.thread x.holder).stopped.map fun t => max t x.claimedAt else none

/-- ENG_CHAN_HELD (R351): once for each period that exceeds HOLDLIM. -/
def State.chanHeld (s : State) (c k : Nat) : State :=
  let w := c / 256
  let x := (s.chan c).slot k
  match s.heldSince c k with
  | none => s
  | some t =>
    if x.told = some t ∨ s.now ≤ t + 1000 * max 1 (s.gf (F.ENG_CHCFG_HOLDLIM w (c % 256))) then s else
    let s := s.setChan c ((s.chan c).setSlot k { x with told := some t })
    let s := (s.bump (R.ENG_CNT w 6)).reportAs 0xC011 2 (0xC000 + w) (0xC000 + w) []
    s.notifySup w 2 x.holder c 0 (0x1000000 + 0x100000 * w + 0xC0000 + 0x400 * (c % 256) + 0x40 * k)

def execEngChanHeld (c : Fin 16384) (k : Fin 16) (s : State) : Outcome := .next (s.inBlock 0xC0 (islSW (c.val / 256)) fun s => s.chanHeld c k)

/-- WAITKIND of a thread (R359). -/
def ThreadSt.waitKind (x : ThreadSt) : Nat :=
  match x.wait with
  | .none => 0 | .event _ _ => 1 | .claim _ _ => 2 | .crecv _ _ => 3 | .fork _ _ _ _ => 4 | .join _ _ => 5 | .tlook _ _ _ _ _ _ => 6
  | .move _ _ _ => 7 | .balloc _ _ _ => 8 | .pret _ _ => 9 | .psend _ _ => 10

/-- A thread's snapshot (R359). -/
def ThreadSt.snapshot (x : ThreadSt) : Nat :=
  let (mask, object) : Nat × Nat := match x.wait with
    | .event _ m => (m, 0) | .claim _ c => (0, c) | .crecv _ c => (0, c) | .join _ c => (0, c) | _ => (0, 0)
  mask + x.st * 2 ^ 32 + x.waitKind * 2 ^ 35 + object * 2 ^ 39

/-- What a waiting thread waits for has come, or some unit owes it an answer (R357). -/
def State.owed (s : State) (t : Nat) : Bool :=
  let x := s.thread t
  match x.wait with
  | .none => false
  | .event _ m => x.pend &&& m != 0
  | .claim _ c => c / 256 != swardOf t || ((s.chan c).claims.head? == some t && (s.chan c).freeSlot.isSome)
  | .crecv _ c => (s.chan c).recvs.head? == some t && !(s.chan c).queue.isEmpty
  | .fork _ _ _ _ => (tabGet (fun _ => []) s.eng.forkq (swardOf t)).head? == some t && (s.forkThread t).isSome
  | .join _ c => (s.thread c).st == 3
  | _ => true

/-- The conditions of R357 hold in a sward now. -/
def State.cycleNow (s : State) (w : Nat) : Bool :=
  let ts := (List.range 128).map fun i => w * 128 + i
  let live := ts.filter fun t => let x := s.thread t; (x.st == 1 || x.st == 2) && !x.halted
  !live.isEmpty && (live.all fun t => (s.thread t).st == 2 && !s.owed t) && s.gb (F.ENG_SWCTL_RUN w) && ts.all fun t => !(s.thread t).halted

/-- The supervisor counts as among the waiters (R357). -/
def State.supWaits (s : State) (w : Nat) : Bool :=
  let x := s.thread (s.supOf w)
  x.st == 2 && (match x.wait with | .event _ m => !bitAt m 31 | _ => true)

/-- The snapshot of a sward's threads (R357). -/
def State.snapThreads (s : State) (w : Nat) : State :=
  (List.range 128).foldl (fun s i => s.wr64 (R.ENG_WCSNAP (w * 128 + i)) (s.thread (w * 128 + i)).snapshot) s

/-- ENG_WAIT_CYCLE (R357): the conditions have held for 8,192 engine cycles, which are 5,120 ns. -/
def State.waitCycle (s : State) (w : Nat) : State :=
  if !s.cycleNow w || tabGet (fun _ => false) s.eng.fired w || s.now < tabGet (fun _ => 0) s.eng.changed w + 5120 then s else
  let s := s.modEng fun g => { g with fired := tabSet (fun _ => false) g.fired w true }
  let s := ((s.snapThreads w).bump (R.ENG_CNT w 9)).reportAs 0xC020 2 (0xC000 + w) (0xC000 + w) []
  if s.supWaits w then s.noticeSky w 3 0 0 0 0 else s.notifySup w 3 0 0 0 0

def execEngWaitCycle (w : Fin 64) (s : State) : Outcome := .next (s.inBlock 0xC0 (islSW w.val) fun s => s.waitCycle w)

end Sys2Proof.Machine
end

