-- ==== Sys2Proof/Machine/EngMem.lean ====
section
/-! DEFINITION. The address spaces of engine threads but for register space, and the atomic operations (R318, R319, R321 to R325, R417). -/

namespace Sys2Proof.Machine

/-- Where a data address falls (R318): data scratch, the data part of a sward memory, a channel slot, register space, the packet buffer or HBM. -/
inductive Place where
  | scratch (k : Nat)
  | data (k : Nat)
  | slot (chan k off : Nat)
  | reg (off : Nat)
  | packet (off : Nat)
  | hbm (a : Nat)
  | nowhere
  deriving DecidableEq, Repr

/-- An offset within the memory of sward `w` (R312, R321). -/
def swardPlace (w o : Nat) : Place :=
  if o < 0xC0000 then .data (w * 2 ^ 20 + o)
  else .slot (chanKey w ((o - 0xC0000) / 0x400)) ((o - 0xC0000) % 0x400 / 0x40) (o % 0x40)

/-- Where the address `a` of thread `t` falls. -/
def place (t a : Nat) : Place :=
  if a < 0x8000 then .scratch (engineOf t * 2 ^ 15 + a)
  else if 0x100000 ≤ a && a < 0x200000 then swardPlace (swardOf t) (a - 0x100000)
  else if 0x1000000 ≤ a && a < 0x5000000 then swardPlace ((a - 0x1000000) / 0x100000) (a % 0x100000)
  else if 0x10000000 ≤ a && a < 0x20000000 then .reg (a - 0x10000000)
  else if 0x400000000 ≤ a && a < 0x404000000 then .packet (a - 0x400000000)
  else if 0x800000000 ≤ a && a < 0x1000000000 then .hbm (a - 0x800000000)
  else .nowhere

/-- A place in scratch or in the data part of a sward memory. -/
def Place.plain : Place → Bool
  | .scratch _ => true
  | .data _ => true
  | _ => false

/-- Bytes of a plain place. -/
def State.plainRead (s : State) (p : Place) (n : Nat) : List Byte :=
  match p with
  | .scratch k => memRead (fun _ => 0) s.eng.scratch k n
  | .data k => memRead (fun _ => 0) s.eng.smem k n
  | _ => []

/-- Bytes written to a plain place. -/
def State.plainWrite (s : State) (p : Place) (l : List Byte) : State :=
  match p with
  | .scratch k => s.modEng fun g => { g with scratch := memWrite (fun _ => 0) g.scratch k l }
  | .data k => s.modEng fun g => { g with smem := memWrite (fun _ => 0) g.smem k l }
  | _ => s

/-- A window of a sward admits an access of `n` bytes at the HBM address `a` (R319). -/
def State.windowHits (s : State) (w i a n : Nat) (store : Bool) : Bool :=
  let l := s.gf (F.ENG_SWDWIN_LOG2SIZE w i)
  let b := s.rd64 (R.ENG_SWDWINBASE w i) % 2 ^ 35
  s.gb (F.ENG_SWDWIN_EN w i) && decide (12 ≤ l) && decide (l ≤ 35) && b % 2 ^ l == 0 && decide (b + 2 ^ l ≤ 2 ^ 35) &&
    decide (b ≤ a) && decide (a + n ≤ b + 2 ^ l) && (if store then s.gb (F.ENG_SWDWIN_WR w i) else s.gb (F.ENG_SWDWIN_RD w i))

/-- An HBM access that some window of the sward admits. -/
def State.hbmOk (s : State) (w a n : Nat) (store : Bool) : Bool := (List.range 4).any fun i => s.windowHits w i a n store

/-- The on-chip buffer that holds an offset of the packet buffer, and the offset within it (R406, R413). -/
def State.bufAt (s : State) (off : Nat) : Option (Nat × Nat) :=
  (List.range 8).findSome? fun k =>
    let b := s.gf (F.BPM_CHIPBASE_CHIPBASE k)
    let z := poolSize k
    if b ≤ off && off < b + z * s.gf (F.BPM_CHIPCNT_CHIPCNT k) then some (bufKey k false ((off - b) / z), (off - b) % z) else none

/-- The buffer that a thread of sward `w` reaches with `n` bytes at an offset of the packet buffer (R414, R417). -/
def State.bufFor (s : State) (w off n : Nat) (store : Bool) : Option (Nat × Nat) :=
  match s.bufAt off with
  | none => none
  | some (h, o) =>
    let b := s.buf h
    if b.alloc && b.eng == some (s.gf (F.BPM_SWGRP_GROUP w)) && decide (o + n ≤ poolSize (poolOf h)) && (!store || b.refs == 1) then some (h, o)
    else none

/-- The 64-bit word of a slot as its holder loads it: words beyond a received message read 0 (R348). -/
def SlotSt.word (x : SlotSt) (i : Nat) : Nat := if x.st = 3 && x.len ≤ i then 0 else x.mem.getD i 0

/-- A slot with `n` bytes of one of its words replaced. -/
def SlotSt.store (x : SlotSt) (off n v : Nat) : SlotSt :=
  { x with mem := (List.range 8).map fun i => if i = off / 8 then putBits (x.mem.getD i 0) (off % 8 * 8) (8 * n) v else x.mem.getD i 0 }

/-- A load of `n` bytes outside register space (R318, R319, R321, R417). -/
def State.loadMem (s : State) (t a n : Nat) : Except Exc Nat :=
  if a % n ≠ 0 then .error { code := 2, addr := a } else
  match place t a with
  | .nowhere => .error { code := 3, addr := a }
  | .reg _ => .error { code := 3, addr := a }
  | .slot c k off =>
    let x := (s.chan c).slot k
    if (x.st = 1 || x.st = 3) && x.holder == t then .ok (bitsOf (x.word (off / 8)) (off % 8 * 8) (8 * n)) else .error { code := 7, addr := a }
  | .packet off =>
    match s.bufFor (swardOf t) off n false with
    | some (h, o) => .ok (ofLe (s.bufRead h o n))
    | none => .error { code := 6, addr := a }
  | .hbm x => if s.hbmOk (swardOf t) x n false then .ok (ofLe (s.hbmRead x n)) else .error { code := 3, addr := a }
  | .scratch k => .ok (ofLe (s.plainRead (.scratch k) n))
  | .data k => .ok (ofLe (s.plainRead (.data k) n))

/-- A store of the low `n` bytes of `v` outside register space (R318, R319, R321, R416, R417). -/
def State.storeMem (s : State) (t a n v : Nat) : Except Exc State :=
  if a % n ≠ 0 then .error { code := 2, addr := a } else
  match place t a with
  | .nowhere => .error { code := 3, addr := a }
  | .reg _ => .error { code := 3, addr := a }
  | .slot c k off =>
    let x := (s.chan c).slot k
    if x.st = 1 && x.holder == t then .ok (s.setChan c ((s.chan c).setSlot k (x.store off n v))) else .error { code := 7, addr := a }
  | .packet off =>
    match s.bufFor (swardOf t) off n true with
    | some (h, o) =>
      let s := s.bufWrite h o (leBytes n v)
      .ok (s.setBuf h { s.buf h with vlen := max (s.buf h).vlen (o + n) })
    | none => .error { code := 6, addr := a }
  | .hbm x => if s.hbmOk (swardOf t) x n true then .ok (s.hbmWrite x (leBytes n v)) else .error { code := 3, addr := a }
  | .scratch k => .ok (s.plainWrite (.scratch k) (leBytes n v))
  | .data k => .ok (s.plainWrite (.data k) (leBytes n v))

/-! ## Atomics (R324, R325) -/

/-- An AMO: the word at `ra` becomes what `f` makes of its old value, `rb` and `rd`; `rd` receives the old value. Outside scratch and the data part
of a sward memory it raises ADDRESS, the lowest of the codes that apply (log entry 41). -/
def State.amo (s : State) (t : Nat) (rd ra rb : Fin 32) (fn : Nat) (f : DWord → DWord → DWord → DWord) : State :=
  let word := encR 0x1C rd ra rb fn
  s.issues t word fun s =>
    let x := s.thread t
    let a := (x.g ra).toNat
    let p := place t a
    if a % 8 ≠ 0 then s.raise t word { code := 2, addr := a }
    else if !p.plain then s.raise t word { code := 3, addr := a }
    else
      let old := dword (ofLe (s.plainRead p 8))
      (s.plainWrite p (leBytes 8 (f old (x.g rb) (x.g rd)).toNat)).ends t rd old

def execAmoadd (t : Fin 8192) (rd : Fin 32) (ra : Fin 32) (rb : Fin 32) (s : State) : Outcome := .next (s.amo t rd ra rb 0 fun old b _ => old + b)

def execAmoswap (t : Fin 8192) (rd : Fin 32) (ra : Fin 32) (rb : Fin 32) (s : State) : Outcome := .next (s.amo t rd ra rb 1 fun _ b _ => b)

def execAmocas (t : Fin 8192) (rd : Fin 32) (ra : Fin 32) (rb : Fin 32) (s : State) : Outcome :=
  .next (s.amo t rd ra rb 2 fun old b d => if old = d then b else old)

def execAmoand (t : Fin 8192) (rd : Fin 32) (ra : Fin 32) (rb : Fin 32) (s : State) : Outcome := .next (s.amo t rd ra rb 3 fun old b _ => old &&& b)

def execAmoor (t : Fin 8192) (rd : Fin 32) (ra : Fin 32) (rb : Fin 32) (s : State) : Outcome := .next (s.amo t rd ra rb 4 fun old b _ => old ||| b)

end Sys2Proof.Machine
end

