-- ==== Sys2Proof/Machine/EngDev.lean ====
section
/-! DEFINITION. The device instructions: channels, events, fork and join, table lookups, buffers and the return of packets (R326, R329, R341 to R350,
R353, R415, R417). -/

namespace Sys2Proof.Machine

/-! ## Channels (R346 to R349) -/

/-- The global address of a slot (R347). -/
def slotAddr (c k : Nat) : Nat := 0x1000000 + 0x100000 * (c / 256) + 0xC0000 + 0x400 * (c % 256) + 0x40 * k

/-- The slot that an address names, as its start: in the global range, or in the own sward's (R318, R321). -/
def slotAt (t : Nat) (a : DWord) : Option (Nat × Nat) :=
  match place t a.toNat with
  | .slot c k off => if off = 0 then some (c, k) else none
  | _ => none

/-- A channel is the supervisor channel of its sward (R347). -/
def State.isSupChan (s : State) (c : Nat) : Bool := s.supChan (c / 256) == c

/-- Slot k of a channel claimed by a thread (R346, R347). -/
def State.claimSlot (s : State) (c k t : Nat) : State :=
  let x := s.chan c
  s.setChan c (x.setSlot k { x.slot k with st := 1, holder := t, claimedAt := s.now, told := none })

/-- CLAIM (R346, R347): grants the lowest FREE slot, returns 0 under NOWAIT, or waits behind the claims that wait already. -/
def State.claim (s : State) (t : Nat) (rd ra : Fin 32) (nowait : Bool) : State :=
  let word := encX rd ra 0 0x03 (b2n nowait)
  s.issues t word fun s =>
    let c := ((s.thread t).g ra).toNat % 2 ^ 14
    let x := s.chan c
    if s.isSupChan c || 4 ≤ (s.slotsHeld t 1).length then s.raise t word { code := 7 } else
    match x.freeSlot, x.claims.isEmpty with
    | some k, true => (s.claimSlot c k t).ends t rd (dword (slotAddr c k))
    | _, _ =>
      if nowait then s.ends t rd 0
      else (s.setChan c { x with claims := x.claims ++ [t] }).waits t (.claim rd c)

def execClaim (t : Fin 8192) (rd : Fin 32) (ra : Fin 32) (nowait : Bool) (s : State) : Outcome := .next (s.claim t rd ra nowait)

/-- CLAIM_GRANT (R347, R349): the channel's oldest waiting CLAIM takes the lowest FREE slot. -/
def State.claimGrant (s : State) (c : Nat) : State :=
  let x := s.chan c
  match x.claims, x.freeSlot with
  | t :: rest, some k =>
    match (s.thread t).wait with
    | .claim rd _ => ((s.setChan c { x with claims := rest }).claimSlot c k t).wakes t rd (dword (slotAddr c k))
    | _ => s
  | _, _ => s

def execClaimGrant (c : Fin 16384) (s : State) : Outcome := .next (s.inBlock 0xC0 (islSW (c.val / 256)) fun s => s.claimGrant c)

/-- SEAL (R348): the first `n` words of a claimed slot become a message at the end of the channel's queue. -/
def State.sealSlot (s : State) (t : Nat) (ra n : Fin 32) : State :=
  let word := encX 0 ra 0 0x04 n
  s.issues t word fun s =>
    if n.val = 0 || 8 < n.val then s.raise t word { code := 1 } else
    match slotAt t ((s.thread t).g ra) with
    | none => s.raise t word { code := 7 }
    | some (c, k) =>
      let x := s.chan c
      if (x.slot k).st ≠ 1 || (x.slot k).holder ≠ t then s.raise t word { code := 7 } else
      let y := x.setSlot k { x.slot k with st := 2, holder := 0, len := n, told := none }
      ((s.setChan c { y with queue := x.queue ++ [k] }).bump (R.ENG_CNT (c / 256) 4)).ends t 0 0

def execSeal (t : Fin 8192) (ra : Fin 32) (n : Fin 32) (s : State) : Outcome := .next (s.sealSlot t ra n)

/-- The oldest sealed slot given to a thread (R349). -/
def State.receiveSlot (s : State) (c k t : Nat) : State :=
  let x := s.chan c
  let y := x.setSlot k { x.slot k with st := 3, holder := t }
  s.setChan c { y with queue := x.queue.drop 1 }

/-- CRECV (R346, R349): receives the oldest sealed slot of a channel of the own sward, returns 0 under NOWAIT, or waits. -/
def State.crecv (s : State) (t : Nat) (rd ra : Fin 32) (nowait : Bool) : State :=
  let word := encX rd ra 0 0x05 (b2n nowait)
  s.issues t word fun s =>
    let c := ((s.thread t).g ra).toNat % 2 ^ 14
    let x := s.chan c
    if c / 256 ≠ swardOf t || 4 ≤ (s.slotsHeld t 3).length then s.raise t word { code := 7 } else
    match x.queue, x.recvs.isEmpty with
    | k :: _, true => (s.receiveSlot c k t).ends t rd (dword (slotAddr c k))
    | _, _ =>
      if nowait then s.ends t rd 0
      else (s.setChan c { x with recvs := x.recvs ++ [t] }).waits t (.crecv rd c)

def execCrecv (t : Fin 8192) (rd : Fin 32) (ra : Fin 32) (nowait : Bool) (s : State) : Outcome := .next (s.crecv t rd ra nowait)

/-- CRECV_GRANT (R349): the channel's oldest waiting receiver gets the oldest sealed slot. -/
def State.crecvGrant (s : State) (c : Nat) : State :=
  let x := s.chan c
  match x.recvs, x.queue with
  | t :: rest, k :: _ =>
    match (s.thread t).wait with
    | .crecv rd _ => ((s.setChan c { x with recvs := rest }).receiveSlot c k t).wakes t rd (dword (slotAddr c k))
    | _ => s
  | _, _ => s

def execCrecvGrant (c : Fin 16384) (s : State) : Outcome := .next (s.inBlock 0xC0 (islSW (c.val / 256)) fun s => s.crecvGrant c)

/-- CFREE (R349). -/
def State.cfree (s : State) (t : Nat) (ra : Fin 32) : State :=
  let word := encX 0 ra 0 0x06 0
  s.issues t word fun s =>
    match slotAt t ((s.thread t).g ra) with
    | none => s.raise t word { code := 7 }
    | some (c, k) =>
      let x := (s.chan c).slot k
      if x.st = 3 && x.holder == t then (s.freeSlot c k).ends t 0 0 else s.raise t word { code := 7 }

def execCfree (t : Fin 8192) (ra : Fin 32) (s : State) : Outcome := .next (s.cfree t ra)

/-! ## Events (R344, R345) -/

/-- EVSEND (R344). -/
def State.evsend (s : State) (t : Nat) (ra e : Fin 32) : State :=
  s.issues t (encX 0 ra 0 0x07 e) fun s =>
    let d := ((s.thread t).g ra).toNat % 2 ^ 13
    (s.sendEvent d e).ends t 0 0

def execEvsend (t : Fin 8192) (ra : Fin 32) (e : Fin 32) (s : State) : Outcome := .next (s.evsend t ra e)

/-- Pending events that a mask takes, cleared (R345). -/
def State.takeEvents (s : State) (t m : Nat) : State :=
  let x := s.thread t; s.setThread t { x with pend := x.pend - (x.pend &&& m) }

/-- WAIT (R345). -/
def State.waitEvents (s : State) (t : Nat) (rd ra : Fin 32) : State :=
  s.issues t (encX rd ra 0 0x08 0) fun s =>
    let x := s.thread t
    let m := (x.g ra).toNat % 2 ^ 32
    if m = 0 || x.pend &&& m ≠ 0 then (s.takeEvents t m).ends t rd (dword (x.pend &&& m)) else s.waits t (.event rd m)

def execWait (t : Fin 8192) (rd : Fin 32) (ra : Fin 32) (s : State) : Outcome := .next (s.waitEvents t rd ra)

/-- WAIT_WAKE (R345): some bit of the mask is pending. -/
def State.waitWake (s : State) (t : Nat) : State :=
  let x := s.thread t
  match x.wait with
  | .event rd m => if x.pend &&& m = 0 then s else (s.takeEvents t m).wakes t rd (dword (x.pend &&& m))
  | _ => s

def execWaitWake (t : Fin 8192) (s : State) : Outcome := .next (s.inBlock 0xC0 (islSW (swardOf t.val)) fun s => s.waitWake t)

/-! ## Fork, join and exit (R340 to R343) -/

/-- The forks of a sward that wait. -/
def State.forks (s : State) (w : Nat) : List Nat := tabGet (fun _ => []) s.eng.forkq w

/-- Change them. -/
def State.setForks (s : State) (w : Nat) (l : List Nat) : State :=
  s.modEng fun g => { g with forkq := tabSet (fun _ => []) g.forkq w l }

/-- A child started for a thread (R340, R341). -/
def State.startChild (s : State) (t c pc : Nat) (arg : DWord) : State :=
  (s.setThread c (startThread pc arg (some t))).bump (R.ENG_CNT (swardOf t) 0)

/-- FORK (R341). -/
def State.fork (s : State) (t : Nat) (rd ra rb : Fin 32) : State :=
  s.issues t (encX rd ra rb 0x09 0) fun s =>
    let x := s.thread t
    let w := swardOf t
    let pc := (x.g ra).toNat
    match s.forkThread t, (s.forks w).isEmpty with
    | some c, true => (s.startChild t c pc (x.g rb)).ends t rd (dword c)
    | _, _ => (s.setForks w (s.forks w ++ [t])).waits t (.fork rd pc (x.g rb) s.now)

def execFork (t : Fin 8192) (rd : Fin 32) (ra : Fin 32) (rb : Fin 32) (s : State) : Outcome := .next (s.fork t rd ra rb)

/-- FORK_GRANT (R341): the sward's oldest waiting FORK gets a thread; its wait is counted in engine cycles. -/
def State.forkGrant (s : State) (w : Nat) : State :=
  match s.forks w with
  | [] => s
  | t :: rest =>
    match (s.thread t).wait, s.forkThread t with
    | .fork rd pc arg at_, some c =>
      (((s.setForks w rest).startChild t c pc arg).bumpBy (R.ENG_CNT w 1) ((s.now - at_) * 8 / 5)).wakes t rd (dword c)
    | _, _ => s

def execForkGrant (w : Fin 64) (s : State) : Outcome := .next (s.inBlock 0xC0 (islSW w.val) fun s => s.forkGrant w)

/-- JOIN (R342). -/
def State.join (s : State) (t : Nat) (rd ra : Fin 32) : State :=
  let word := encX rd ra 0 0x0A 0
  s.issues t word fun s =>
    let c := ((s.thread t).g ra).toNat % 2 ^ 13
    if !s.isChild t c then s.raise t word { code := 1 }
    else if (s.thread c).st = 3 then (s.setThread c {}).ends t rd (s.thread c).exit
    else s.waits t (.join rd c)

def execJoin (t : Fin 8192) (rd : Fin 32) (ra : Fin 32) (s : State) : Outcome := .next (s.join t rd ra)

/-- JOIN_WAKE (R342): the child has exited. -/
def State.joinWake (s : State) (t : Nat) : State :=
  match (s.thread t).wait with
  | .join rd c => if (s.thread c).st = 3 then (s.setThread c {}).wakes t rd (s.thread c).exit else s
  | _ => s

def execJoinWake (t : Fin 8192) (s : State) : Outcome := .next (s.inBlock 0xC0 (islSW (swardOf t.val)) fun s => s.joinWake t)

/-- EXIT (R343). -/
def State.exitThread (s : State) (t : Nat) (ra : Fin 32) : State :=
  s.issues t (encX 0 ra 0 0x0B 0) fun s => s.endThread t ((s.thread t).g ra)

def execExit (t : Fin 8192) (ra : Fin 32) (s : State) : Outcome := .next (s.exitThread t ra)

/-! ## Table lookups (R329) -/

/-- The search key that a lookup area holds. -/
def State.lookupKey (s : State) (p : Place) (table : Nat) : Nat :=
  let l := s.plainRead p 32
  let w (i : Nat) := ofLe ((l.drop (4 * i)).take 4)
  if table = 0 then ofMs ((List.range 8).map w)
  else if table = 1 then ofMs ((List.range 5).map w)
  else w 1 / 2 ^ 16 * 2 ^ 48 + w 1 % 2 ^ 16 * 2 ^ 32 + w 0

/-- A control word that is refused (R329). -/
def State.lookupRefused (s : State) (ctl : Nat) : Bool :=
  decide (2 ^ 9 ≤ ctl) || ctl % 4 == 3 || (ctl % 4 == 0 && s.kdefTable (bitsOf ctl 2 6) != 0)

/-- TLOOK (R329, R447): a member that is absent answers at once as a miss. -/
def State.tlook (s : State) (t : Nat) (rd ra rb : Fin 32) : State :=
  let word := encX rd ra rb 0x02 0
  s.issues t word fun s =>
    let x := s.thread t
    let a := (x.g ra).toNat
    let ctl := (x.g rb).toNat
    let p := place t a
    if a % 64 ≠ 0 then s.raise t word { code := 2, addr := a }
    else if !p.plain then s.raise t word { code := 3, addr := a }
    else if s.lookupRefused ctl then s.ends t rd 4
    else
      let d := bitsOf ctl 2 6
      let key := s.lookupKey p (ctl % 4)
      if ctl % 4 ≠ 0 || !s.kdefRemote d then s.waits t (.tlook rd a ctl key s.now none) else
      match s.askMember (s.lgf (F.TBL_KDEFCTL_MEMBER d)) d key with
      | (some r, s) => s.waits t (.tlook rd a ctl key s.now (some r))
      | (none, s) => s.ends t rd 0

def execTlook (t : Fin 8192) (rd : Fin 32) (ra : Fin 32) (rb : Fin 32) (s : State) : Outcome := .next (s.tlook t rd ra rb)

/-- A search for a thread (R156, R163, R165, R329): on a hit the 32 result bytes and bits [63:32] of rd. A hit bit stays as it was under NOHIT. -/
def State.engSearch (s : State) (ctl key : Nat) : Option (List Byte × Nat) × State :=
  let keep := bitAt ctl 8
  let d := bitsOf ctl 2 6
  let words (l : List Nat) := fitBytes 32 (l.flatMap fun w => leBytes 4 w)
  if ctl % 4 = 0 then
    match s.hLookup key d with
    | (some l, s') =>
      let was := tabGet (fun _ => false) s.tbl.hhit l
      let s' := if keep then s'.modTbl fun t => { t with hhit := tabSet (fun _ => false) t.hhit l was } else s'
      (some (words ((List.range 6).map fun i => (s'.hEnt l).getD (9 + i) 0), locWord l), s')
    | (none, s') => (none, s')
  else if ctl % 4 = 1 then
    match s.lpmLookup key with
    | (some i, s) => let r := (s.tbl.lpm.getD i (0, 0, 0)).2.2; (some (words [r % 2 ^ 32, r / 2 ^ 32], i), s)
    | (none, s) => (none, s)
  else
    let p := d % 4
    let s := s.bump (R.TBL_MCNT p 0)
    match s.macFind p (key / 2 ^ 48) (key % 2 ^ 48) with
    | (some k, s) =>
      let s := if keep then s else s.modTbl fun t => { t with mhit := tabSet (fun _ => false) t.mhit k true }
      let tag := mTag (s.macEnt k)
      (some (words [tag, s.rdN (R.TBL_MLTARGET tag), s.rdN (R.TBL_MLTARGET tag + 4)], 0), s.bump (R.TBL_MCNT p 1))
    | (none, s) => (none, s)

/-- A lookup's answer reaches its thread: the result area is written before rd (R329). -/
def State.lookupTo (s : State) (t rd area : Nat) (r : Option (List Byte × Nat)) : State :=
  match r with
  | some (l, loc) => (s.plainWrite (place t (area + 32)) l).wakes t rd (dword (1 + loc * 2 ^ 32))
  | none => s.wakes t rd 0

/-- TLOOK_ANSWER (R329). -/
def State.tlookAnswer (s : State) (t : Nat) : State :=
  match (s.thread t).wait with
  | .tlook rd area ctl key at_ none =>
    if at_ + 615 ≤ s.now then s else
    let (r, s) := s.engSearch ctl key
    s.lookupTo t rd area r
  | _ => s

def execTlookAnswer (t : Fin 8192) (s : State) : Outcome := .next (s.inBlock 0xC0 (islSW (swardOf t.val)) fun s => s.tlookAnswer t)

/-- TLOOK_TIMEOUT (R170, R329): no answer within 614.4 ns. -/
def State.tlookTimeout (s : State) (t : Nat) : State :=
  match (s.thread t).wait with
  | .tlook rd _ _ _ at_ far =>
    if s.now < at_ + 615 then s else
    let s := if far.isSome then (s.bump (R.TBL_CNT 9)).reportAs 0x8006 2 0x8000 0xF000 [] else s
    s.wakes t rd 2
  | _ => s

def execTlookTimeout (t : Fin 8192) (s : State) : Outcome := .next (s.inBlock 0xC0 (islSW (swardOf t.val)) fun s => s.tlookTimeout t)

/-! ## Buffers (R415, R417) -/

/-- A buffer taken for a thread: its holding group is that of the sward (R415). -/
def State.engOwns (s : State) (h w : Nat) : State := s.setBuf h { s.buf h with eng := some (s.gf (F.BPM_SWGRP_GROUP w)) }

/-- BALLOC (R415). -/
def State.balloc (s : State) (t : Nat) (rd ra : Fin 32) : State :=
  let word := encX rd ra 0 0x0D 0
  s.issues t word fun s =>
    let n := ((s.thread t).g ra).toNat
    let w := swardOf t
    if n = 0 || 65536 < n then s.raise t word { code := 6 } else
    match s.alloc n (1044 + w) false true (0xC000 + w) 0 with
    | (.refused, s) => s.ends t rd 0
    | (.empty, s) => s.waits t (.balloc rd n s.now)
    | (.got h, s) => (s.engOwns h w).ends t rd (dword h)

def execBalloc (t : Fin 8192) (rd : Fin 32) (ra : Fin 32) (s : State) : Outcome := .next (s.balloc t rd ra)

/-- BALLOC_GRANT (R415): a buffer has become free for a waiting BALLOC; its charge is checked as it takes it. -/
def State.ballocGrant (s : State) (t : Nat) : State :=
  match (s.thread t).wait with
  | .balloc rd n _ =>
    let w := swardOf t
    let p := poolFor n
    if !s.chargeOk (1044 + w) (poolSize p) then (s.quotaRefused (0xC000 + w) 0).wakes t rd 0 else
    match s.findBuf (s.partsFor p false) with
    | none => s
    | some (key, s) =>
      let (h, s) := s.takeBuf key (1044 + w) n
      (s.engOwns h w).wakes t rd (dword h)
  | _ => s

def execBallocGrant (t : Fin 8192) (s : State) : Outcome := .next (s.inBlock 0xC0 (islSW (swardOf t.val)) fun s => s.ballocGrant t)

/-- BALLOC_TIMEOUT (R415): ALLOCTMO µs have passed. -/
def State.ballocTimeout (s : State) (t : Nat) : State :=
  match (s.thread t).wait with
  | .balloc rd _ at_ => if at_ + 1000 * max 1 (s.gf F.BPM_CFG_ALLOCTMO) ≤ s.now then s.wakes t rd 0 else s
  | _ => s

def execBallocTimeout (t : Fin 8192) (s : State) : Outcome := .next (s.inBlock 0xC0 (islSW (swardOf t.val)) fun s => s.ballocTimeout t)

/-- The packet that a buffer's handle stands for in the hands of the engines, if it was punted or copied there, whether it is a copy and whether its
hold was revoked. -/
def State.punted (s : State) (h : Nat) : Option (Pkt × Bool × Bool) := tabGet (fun _ => none) s.cls.punts (h % 2 ^ 24)

/-- A punted packet is no longer held for its bank (R145, R146). -/
def State.unhold (s : State) (h : Nat) : State :=
  let s' := s.modCls fun x => { x with punts := tabSet (fun _ => none) x.punts (h % 2 ^ 24) none }
  match s.punted h with
  | some (k, false, false) => s'.sf (heldFld k.bank) (s.gf (heldFld k.bank) - 1)
  | _ => s'

/-- BFREE (R417, R418). -/
def State.bfree (s : State) (t : Nat) (ra : Fin 32) : State :=
  let word := encX 0 ra 0 0x0E 0
  s.issues t word fun s =>
    let h := ((s.thread t).g ra).toNat
    if s.handleOkEng h (swardOf t) then ((s.unhold h).unrefEng h).ends t 0 0 else s.raise t word { code := 6 }

def execBfree (t : Fin 8192) (ra : Fin 32) (s : State) : Outcome := .next (s.bfree t ra)

/-! ## The return of packets (R353) -/

/-- LENGTH of a control word. -/
def ctlLength (ctl : Nat) : Nat := bitsOf ctl 16 14

/-- A control word that breaks the limits of R353. -/
def ctlBad (pret : Bool) (ctl : Nat) : Bool :=
  decide (2 ^ 30 ≤ ctl) || bitsOf ctl 8 8 != 0 || (pret && bitsOf ctl 6 2 != 0) ||
    (if ctlLength ctl = 0 then !pret else decide (ctlLength ctl < 14) || decide (16380 < ctlLength ctl))

/-- The length that PRET gives a packet: LENGTH, or the frame length it has. -/
def pretLen (k : Pkt) (ctl : Nat) : Nat := if ctlLength ctl = 0 then k.bytes.length else ctlLength ctl

/-- The return queue of a pipeline has room (R353). -/
def State.retRoom (s : State) (p : Nat) : Bool := decide ((s.pipe p).ret.length < 64)

/-- The threads that wait for room in it. -/
def State.retWaiters (s : State) (p : Nat) : List Nat := tabGet (fun _ => []) s.eng.retq p

/-- Change them. -/
def State.setRetWaiters (s : State) (p : Nat) (l : List Nat) : State :=
  s.modEng fun g => { g with retq := tabSet (fun _ => []) g.retq p l }

/-- The engine reference becomes the packet's, whose frame is `n` bytes from offset 128 on (R416, R417). -/
def State.takeBack (s : State) (h n : Nat) : State := s.setBuf h { s.buf h with eng := none, vlen := 128 + n }

/-- A packet enters its pipeline's return queue. -/
def State.enterRet (s : State) (k : Pkt) : State := s.modPipe k.pipe fun x => { x with ret := x.ret ++ [k] }

/-- A punted packet handed back by sward `w` (R143, R146, R353): a copy's buffer is freed; a packet whose hold was revoked, or whose passes are used up, is
dropped; any other starts its next pass. -/
def State.giveBack (s : State) (w h ctl : Nat) (k : Pkt) (copy revoked : Bool) : State :=
  let s := s.unhold h
  if copy then (s.unrefEng h).bump (R.ENG_CNT w 12) else
  let n := pretLen k ctl
  let f := s.bufRead h 128 n
  let k := { k with bytes := f, buf := some h, profile := ctl % 64 }
  let s := (s.bump (R.ENG_CNT w 10)).takeBack h n
  if revoked then ((s.clsCount k.pipe 14).reportAs 0x7103 0 0x7100 (0xC000 + w) []).dropPkt k 0xB
  else if 3 ≤ k.pass then ((s.clsCount k.pipe 6).report 0x7104 0 0 []).dropPkt k 0xB
  else (s.sf (inflight k.bank) (s.gf (inflight k.bank) + 1)).enterRet { k with pass := k.pass + 1 }

/-- PRET (R353, R417). -/
def State.pret (s : State) (t : Nat) (ra rb : Fin 32) : State :=
  let word := encX 0 ra rb 0x0F 0
  s.issues t word fun s =>
    let x := s.thread t
    let h := (x.g ra).toNat
    let ctl := (x.g rb).toNat
    if ctlBad true ctl then s.raise t word { code := 1 } else
    if !s.handleOkEng h (swardOf t) then s.raise t word { code := 6 } else
    match s.punted h with
    | none => s.raise t word { code := 6 }
    | some (k, copy, revoked) =>
      if poolSize (poolOf h) < 128 + pretLen k ctl then s.raise t word { code := 6 }
      else if s.retRoom k.pipe && (s.retWaiters k.pipe).isEmpty then (s.giveBack (swardOf t) h ctl k copy revoked).ends t 0 0
      else (s.setRetWaiters k.pipe (s.retWaiters k.pipe ++ [t])).waits t (.pret h ctl)

def execPret (t : Fin 8192) (ra : Fin 32) (rb : Fin 32) (s : State) : Outcome := .next (s.pret t ra rb)

/-- A new packet from an engine (R264, R353): it enters pipeline PIPE at pass 0, without a stamp. -/
def State.sendNew (s : State) (w h ctl : Nat) : State :=
  let n := ctlLength ctl
  let k : Pkt := { bytes := s.bufRead h 128 n, buf := some h, pipe := bitsOf ctl 6 2, profile := ctl % 64 }
  ((((s.unhold h).bump (R.ENG_CNT w 11)).takeBack h n)).enterRet k

/-- PSEND (R353, R417). -/
def State.psend (s : State) (t : Nat) (ra rb : Fin 32) : State :=
  let word := encX 0 ra rb 0x10 0
  s.issues t word fun s =>
    let x := s.thread t
    let h := (x.g ra).toNat
    let ctl := (x.g rb).toNat
    let p := bitsOf ctl 6 2
    if ctlBad false ctl then s.raise t word { code := 1 }
    else if !s.handleOkEng h (swardOf t) || decide (poolSize (poolOf h) < 128 + ctlLength ctl) then s.raise t word { code := 6 }
    else if s.retRoom p && (s.retWaiters p).isEmpty then (s.sendNew (swardOf t) h ctl).ends t 0 0
    else (s.setRetWaiters p (s.retWaiters p ++ [t])).waits t (.psend h ctl)

def execPsend (t : Fin 8192) (ra : Fin 32) (rb : Fin 32) (s : State) : Outcome := .next (s.psend t ra rb)

/-- The operation of a thread whose turn at a return queue has come; a handle that has gone bad meanwhile is dropped (R414). -/
def State.retDo (s : State) (t : Nat) : State :=
  let w := swardOf t
  match (s.thread t).wait with
  | .pret h ctl =>
    match s.handleOkEng h w, s.punted h with
    | true, some (k, copy, revoked) => s.giveBack w h ctl k copy revoked
    | _, _ => s.handleBad (0xC000 + w)
  | .psend h ctl => if s.handleOkEng h w then s.sendNew w h ctl else s.handleBad (0xC000 + w)
  | _ => s

/-- RETURN_QUEUE_ACCEPT (R353): a return queue with room takes from the thread that has waited longest. -/
def State.retAccept (s : State) (p : Nat) : State :=
  match s.retWaiters p with
  | [] => s
  | t :: rest => if s.retRoom p then ((s.setRetWaiters p rest).retDo t).wakes t 0 0 else s

def execReturnQueueAccept (p : Fin 4) (s : State) : Outcome := .next (s.inBlock 0x71 (islPP p.val) fun s => s.retAccept p)

end Sys2Proof.Machine
end

