-- ==== Sys2Proof/Machine/Mov.lean ====
section
/-! DEFINITION. The Bracken movers: channels and their commits, requests, bursts and records (R422 to R434). -/

namespace Sys2Proof.Machine

/-- Change the movers' state. -/
def State.modMov (s : State) (f : MovSt → MovSt) : State := { s with mov := f s.mov }

/-- The requests of a channel, oldest first. -/
def State.burstsOf (s : State) (c : Nat) : List BurstSt := s.mov.bursts.filter fun b => b.chan == c

/-- The lines in use and a channel's lines and BUSY as their registers report them (R433). -/
def State.movLines (s : State) (c : Nat) : State :=
  let l := s.burstsOf c
  ((s.sf F.MOV_LINES_INUSE s.mov.bursts.length).sf (F.MOV_CHSTAT_LINES c) l.length).sb (F.MOV_CHSTAT_BUSY c) (l.any fun b => b.started)

/-! ## Requests (R424, R425) -/

/-- Fields of a request's words. -/
def reqSrc (q : List Nat) : Nat := bitsOf (q.getD 0 0) 0 2
def reqDst (q : List Nat) : Nat := bitsOf (q.getD 0 0) 2 2
def reqBarrier (q : List Nat) : Bool := bitAt (q.getD 0 0) 4
def reqEvt (q : List Nat) : Bool := bitAt (q.getD 0 0) 5
def reqRec (q : List Nat) : Bool := bitAt (q.getD 0 0) 6
def reqLen (q : List Nat) : Nat := q.getD 1 0
def reqSaddr (q : List Nat) : Nat := q.getD 2 0 + q.getD 3 0 * 2 ^ 32
def reqDaddr (q : List Nat) : Nat := q.getD 4 0 + q.getD 5 0 * 2 ^ 32
def reqSoff (q : List Nat) : Nat := q.getD 6 0 % 2 ^ 16
def reqDoff (q : List Nat) : Nat := q.getD 6 0 / 2 ^ 16

/-- Host and device window sizes and bases in force. -/
def State.hostSize (s : State) (c : Nat) : Nat := 2 ^ s.lgf (F.MOV_CHHLOG_HLOG2SIZE c)
def State.devSize (s : State) (c : Nat) : Nat := 2 ^ s.lgf (F.MOV_CHDLOG_DLOG2SIZE c)
def State.hostBase (s : State) (c : Nat) : Nat := s.lrd64 (R.MOV_CHHBASE c)
def State.devBase (s : State) (c : Nat) : Nat := s.lrd64 (R.MOV_CHDBASE c) % 2 ^ 35

/-- A side of `n` bytes lies within its window by the set in force, and crosses no 4 KiB boundary where it must not (R425). -/
def State.sideFits (s : State) (c space a off n : Nat) : Bool :=
  if space = 0 then decide (a + n ≤ s.hostSize c) && decide (a % 4096 + n ≤ 4096)
  else if space = 1 then decide (a + n ≤ s.devSize c) && decide (a % 4096 + n ≤ 4096)
  else if space = 2 then decide (off + n ≤ poolSize (poolOf a))
  else decide (a + n ≤ 0xC0000)

/-- A side that the channel's set or the handle checks allow (R425). -/
def State.sideOk (s : State) (w c space a off n : Nat) (dst : Bool) : Bool :=
  (space == 2 || off == 0) && s.sideFits c space a off n &&
  (if space = 0 then s.lgb (F.MOV_CH_HOSTEN c) && (if dst then s.lgb (F.MOV_CH_HWR c) else s.lgb (F.MOV_CH_HRD c))
   else if space = 1 then (if dst then s.lgb (F.MOV_CH_DWR c) else s.lgb (F.MOV_CH_DRD c))
   else if space = 2 then s.handleOkEng a w && (!dst || decide ((s.buf a).refs ≤ 1))
   else true)

/-- The handles that a request names. -/
def reqBufs (q : List Nat) : List Nat :=
  (if reqSrc q = 2 then [reqSaddr q] else []) ++ (if reqDst q = 2 then [reqDaddr q] else [])

/-- Acceptance codes of R425 for a request of a thread of sward `w`: 0 is ACCEPTED. -/
def State.moveCode (s : State) (w c : Nat) (q : List Nat) : Nat :=
  let n := reqLen q
  if 224 ≤ c || !s.lgb (F.MOV_CH_EN c) || s.lgf (F.MOV_CH_GROUP c) != s.gf (F.BPM_SWGRP_GROUP w) then 1
  else if 2 ^ 7 ≤ q.getD 0 0 || n = 0 || 4096 < n || (q.drop 8).any (· != 0) || (reqRec q && !s.lgb (F.MOV_CH_RECEN c)) ||
    !s.sideOk w c (reqSrc q) (reqSaddr q) (reqSoff q) n false || !s.sideOk w c (reqDst q) (reqDaddr q) (reqDoff q) n true then 2
  else if (reqBufs q).any fun h => decide (63 < (s.buf h).refs + ((reqBufs q).filter fun g => g % 2 ^ 24 == h % 2 ^ 24).length) then 3
  else 0

/-- A channel may take one more line (R425). -/
def State.lineFree (s : State) (c : Nat) : Bool :=
  decide ((s.burstsOf c).length < s.lgf (F.MOV_CH_MAXLINES c)) && decide (s.mov.bursts.length < 128) && !s.devFatal

/-- A request takes a line, which one being open, and a reference to each buffer it names (R425). -/
def State.takeLine (s : State) (t c : Nat) (q : List Nat) : State :=
  let (l, s) := s.pick 128 fun i => s.mov.bursts.all fun b => b.line != i
  let s := (reqBufs q).foldl (fun s h => s.addRef h) s
  (s.modMov fun x => { x with bursts := x.bursts ++ [{ line := l.getD 0, chan := c, thread := t, req := q }] }).movLines c

/-- The threads whose MOVE waits on a channel. -/
def State.movers (s : State) (c : Nat) : List Nat := tabGet (fun _ => []) s.mov.waiting c

/-- Change them. -/
def State.setMovers (s : State) (c : Nat) (l : List Nat) : State :=
  s.modMov fun x => { x with waiting := tabSet (fun _ => []) x.waiting c l }

/-- MOVE (R424, R425). -/
def State.move (s : State) (t : Nat) (rd ra rb : Fin 32) : State :=
  let word := encX rd ra rb 0x0C 0
  s.issues t word fun s =>
    let x := s.thread t
    let a := (x.g ra).toNat
    let c := (x.g rb).toNat
    let p := place t a
    if 256 ≤ c then s.raise t word { code := 1 }
    else if a % 64 ≠ 0 then s.raise t word { code := 2, addr := a }
    else if !p.plain then s.raise t word { code := 3, addr := a }
    else
      let l := s.plainRead p 64
      let q := (List.range 16).map fun i => ofLe ((l.drop (4 * i)).take 4)
      let code := s.moveCode (swardOf t) c q
      if code ≠ 0 then s.ends t rd (dword code)
      else if s.lineFree c && (s.movers c).isEmpty then (s.takeLine t c q).ends t rd 0
      else (s.setMovers c (s.movers c ++ [t])).waits t (.move rd c q)

def execMove (t : Fin 8192) (rd : Fin 32) (ra : Fin 32) (rb : Fin 32) (s : State) : Outcome := .next (s.move t rd ra rb)

/-- MOVE_ACCEPT (R29, R425): a line goes to a waiting channel by Clover rotation, and there to the oldest MOVE; its acceptance is judged as things
now stand. -/
def State.moveAccept (s : State) : State :=
  let (win, v) := cloverPick s.mov.clover ((List.range 224).map fun c => (c, c, b2n (!(s.movers c).isEmpty && s.lineFree c)))
  match win with
  | none => s
  | some c =>
    let s := s.modMov fun x => { x with clover := v }
    match s.movers c with
    | [] => s
    | t :: rest =>
      let s := s.setMovers c rest
      match (s.thread t).wait with
      | .move rd _ q =>
        let code := s.moveCode (swardOf t) c q
        (if code = 0 then s.takeLine t c q else s).wakes t rd (dword code)
      | _ => s

def execMoveAccept (s : State) : Outcome := .next (s.inBlock 0x40 islSYS fun s => s.moveAccept)

/-! ## Completion (R418, R428, R430, R431) -/

/-- The record of R430. -/
def burstRecord (b : BurstSt) (st : Stamp) (status : Nat) : List Byte :=
  fitBytes 64 (stampBytes st 0x30 ++ [byte status, byte b.line] ++ leBytes 2 (reqLen b.req) ++ leBytes 4 (b.req.getD 7 0) ++ leBytes 2 b.thread)

/-- Whom a failed burst blames (R431): HP and the function for a failed host read, a function that cannot issue and a reset of one, else BPM. -/
def State.burstBlame (s : State) (b : BurstSt) (status : Nat) : State :=
  if status = 5 ∨ status = 0x0D ∧ b.aborted ∨ status = 3 ∧ reqSrc b.req = 0 then s.reportAs 0x4001 0 0x4000 (fnBlame b.host.1 b.host.2) (fnDetail b.host.1 b.host.2)
  else s.reportAs 0x4001 0 0x4000 0x5000 []

/-- A burst is over with a status (R430): its stamp, then its references, its record, its event and its line. -/
def State.burstEnd (s : State) (b : BurstSt) (status : Nat) : State :=
  let (st, s) := s.stamp islSYS (0x4000 + b.chan)
  let s := (reqBufs b.req).foldl (fun s h => s.unref h) s
  let s := s.bump (R.MOV_CNT b.chan 0)
  let s := if status = 0 then s.bumpBy (R.MOV_CNT b.chan 1) (reqLen b.req) else (s.bump (R.MOV_CNT b.chan 2)).burstBlame b status
  let s := if reqRec b.req then
      match s.post (b.rec_ / 256) (b.rec_ % 256) (burstRecord b st status) with
      | some s => s
      | none => (s.bump (R.MOV_CNT b.chan 3)).report 0x4002 0 0 []
    else s
  let s := if reqEvt b.req then s.sendEvent b.thread 30 else s
  (s.modMov fun x => { x with bursts := x.bursts.filter fun c => c.line != b.line }).movLines b.chan

/-- The bytes of a burst reach its destination (R428). A mover's write leaves VLEN as it is (R416, log entry 43). -/
def State.burstWrite (s : State) (b : BurstSt) (l : List Byte) : State :=
  match reqDst b.req with
  | 0 => s.fnWrite b.host.1 b.host.2 b.dst l
  | 1 => s.hbmWrite b.dst l
  | 2 => s.bufWrite b.dst (reqDoff b.req) l
  | _ => s.plainWrite (.data b.dst) l

/-- BURST_COMPLETE (R430, R431): `data` is what a HOST read brought, none where it failed. -/
def State.burstComplete (s : State) (line : Nat) (data : Option (List Byte)) : State :=
  match s.mov.bursts.find? fun b => b.line == line && b.started with
  | none => s
  | some b =>
    if b.aborted then s.burstEnd b 0x0D
    else if reqSrc b.req = 0 then
      match data with
      | none => s.burstEnd b 3
      | some l => (s.burstWrite b (fitBytes (reqLen b.req) l)).burstEnd b 0
    else (s.burstWrite b b.data).burstEnd b 0

def execBurstComplete (line : Fin 128) (data : Option (List Byte)) (s : State) : Outcome := .next (s.inBlock 0x40 islSYS fun s => s.burstComplete line data)

/-! ## Channel sets and commits (R423) -/

/-- ERRKIND of a shadow set that a commit refuses, 0 where it is valid. -/
def State.movBad (s : State) (c : Nat) : Nat :=
  let hl := s.gf (F.MOV_CHHLOG_HLOG2SIZE c)
  let dl := s.gf (F.MOV_CHDLOG_DLOG2SIZE c)
  let db := s.rd64 (R.MOV_CHDBASE c) % 2 ^ 35
  if 224 ≤ c then 5
  else if !s.gb (F.MOV_CH_EN c) then 0
  else if s.gb (F.MOV_CH_HOSTEN c) && (decide (hl < 12) || decide (48 < hl) || s.rd64 (R.MOV_CHHBASE c) % 2 ^ hl != 0) then 1
  else if dl < 12 || 35 < dl || db % 2 ^ dl != 0 || 2 ^ 35 < db + 2 ^ dl then 2
  else if 513 < s.gf (F.MOV_CH_HFN c) then 3
  else if s.gf (F.MOV_CH_MAXLINES c) = 0 then 4
  else 0

/-- The channel's shadow set takes effect; when that clears EN, its requests that have not started complete with ABORTED_BY_RESET. -/
def State.movApply (s : State) (c : Nat) : State :=
  let dest := s.lgf (F.MOV_CH_RSWARD c) * 256 + s.lgf (F.MOV_CH_RCHAN c)
  let s := (s.goLive (R.MOV_CH c) 9).sb F.MOV_COMMIT_PENDING false
  let s := s.modMov fun x => { x with commit := none }
  if s.lgb (F.MOV_CH_EN c) then s
  else ((s.burstsOf c).filter fun b => !b.started).foldl (fun s b => s.burstEnd { b with rec_ := dest } 0x0D) s

/-- A write of CH with COMMIT = 1 (R9, R423): refused, in force at once on an idle channel, or pending. -/
def State.movCommit (s : State) (c : Nat) : State :=
  let s := s.sf F.MOV_COMMIT_CH c
  if s.gb F.MOV_COMMIT_PENDING then s else
  let e := s.movBad c
  if e ≠ 0 then ((s.sb F.MOV_COMMIT_ERR true).sf F.MOV_COMMIT_ERRKIND e).report 0x4003 0 0 []
  else if (s.burstsOf c).isEmpty then s.movApply c
  else (s.sb F.MOV_COMMIT_PENDING true).modMov fun x => { x with commit := some c }

def execMovCommit (m : Master) (c : Fin 256) (s : State) : Outcome := .next (s.asWriter m R.MOV_COMMIT fun s => s.movCommit c)

/-! ## Bursts (R426, R427, R429) -/

/-- The request of a channel whose burst starts next, if nothing holds it back (R426, R427). -/
def State.nextBurst (s : State) (c : Nat) : Option BurstSt :=
  match s.burstsOf c with
  | [] => none
  | b :: rest =>
    match (b :: rest).find? fun b => !b.started with
    | none => none
    | some n => if s.devFatal || (reqBarrier n.req && b.started) then none else some n

/-- MOV_COMMIT_APPLY (R423): a pending commit takes effect where its channel is idle or its next burst is about to start. -/
def State.movCommitApply (s : State) : State :=
  match s.mov.commit with
  | none => s
  | some c => if (s.burstsOf c).isEmpty || (s.nextBurst c).isSome then s.movApply c else s

def execMovCommitApply (s : State) : Outcome := .next (s.inBlock 0x40 islSYS fun s => s.movCommitApply)

/-- The absolute address of a side: in host memory, in HBM, the handle, or in the data part of the sward memory. -/
def State.sideAddr (s : State) (c t space a : Nat) : Nat :=
  if space = 0 then s.hostBase c + a else if space = 1 then s.devBase c + a else if space = 2 then a else swardOf t * 2 ^ 20 + a

/-- The bytes that a burst reads inside the device. -/
def State.burstRead (s : State) (b : BurstSt) : List Byte :=
  match reqSrc b.req with
  | 0 => []
  | 1 => s.hbmRead b.src (reqLen b.req)
  | 2 => s.bufRead b.src (reqSoff b.req) (reqLen b.req)
  | _ => s.plainRead (.data b.src) (reqLen b.req)

/-- The read requests of a HOST source (R230, R426). -/
def State.burstAsk (s : State) (b : BurstSt) : State :=
  if reqSrc b.req = 0 then
    (readSplit (s.fn b.host.1 b.host.2).mrrs b.src (reqLen b.req)).foldl (fun s e => s.emit (.hostRead b.host.1 b.host.2 0 e.1 e.2)) s
  else s

/-- A burst with the set in force as it starts. -/
def State.burstSet (s : State) (b : BurstSt) : BurstSt :=
  let c := b.chan
  { b with
    started := true
    src := s.sideAddr c b.thread (reqSrc b.req) (reqSaddr b.req)
    dst := s.sideAddr c b.thread (reqDst b.req) (reqDaddr b.req)
    host := (s.lgf (F.MOV_CH_HPORT c), s.lgf (F.MOV_CH_HFN c))
    rec_ := s.lgf (F.MOV_CH_RSWARD c) * 256 + s.lgf (F.MOV_CH_RCHAN c) }

/-- Why a burst fails as it starts, 0 where it does not (R429, R431): a handle gone bad; a HOST side whose function cannot issue; or a range outside
the windows now in force (log entry 44). -/
def State.startFail (s : State) (b : BurstSt) : Nat :=
  let q := b.req
  let f := s.fn b.host.1 b.host.2
  if (reqBufs q).any fun h => !s.handleOk h then 1
  else if (reqSrc q = 0 || reqDst q = 0) && (!f.bme || f.d3 || s.inReset b.host.1 b.host.2) then 5
  else if !s.sideFits b.chan (reqSrc q) (reqSaddr q) (reqSoff q) (reqLen q) || !s.sideFits b.chan (reqDst q) (reqDaddr q) (reqDoff q) (reqLen q) then 3
  else 0

/-- The channel's next burst starts. -/
def State.burstGo (s : State) (c : Nat) : State :=
  match s.nextBurst c with
  | none => s
  | some n =>
    let b := s.burstSet n
    let e := s.startFail b
    if e ≠ 0 then s.burstEnd b e else
    let b := { b with data := s.burstRead b }
    ((s.modMov fun x => { x with bursts := x.bursts.map fun o => if o.line = b.line then b else o }).movLines c).burstAsk b

/-- BURST_START (R423, R426, R427, R429): a pending commit of the channel takes effect first. -/
def State.burstStart (s : State) (c : Nat) : State :=
  (if s.mov.commit = some c && (s.nextBurst c).isSome then s.movApply c else s).burstGo c

def execBurstStart (c : Fin 224) (s : State) : Outcome := .next (s.inBlock 0x40 islSYS fun s => s.burstStart c)

end Sys2Proof.Machine
end

