-- ==== Sys2Proof/Machine/MacTx.lean ====
section
/-! DEFINITION. The transmit side of a MAC: fills, stamps and completions, launch frames, and a port's stop (R69 to R72, R96 to R98, R105,
R106, R195, R196, R206). -/

namespace Sys2Proof.Machine

/-! ## Fills (R69, R71, R72, R206) -/

/-- A UDP checksum recomputed in place for a header at `u` of a datagram `p`. -/
def udpSum (f : List Byte) (p : IpAt) (u : Nat) : List Byte :=
  let n := p.fin - u
  let f := patch f (u + 6) [0, 0]
  let v := 65535 - fold16 (pseudoSum f (if p.v6 then 5 else 4) p.off 17 n + sum16 (cut f u n))
  patch f (u + 6) (beBytes 2 (if v = 0 then 65535 else v))

/-- A correctionField with `d` added, in 1/65,536 ns: held at the greatest value, which itself is passed on (R72). -/
def addCorrection (v : Nat) (d : Int) : Nat :=
  let m : Int := 0x7FFFFFFFFFFFFFFF
  if v = 0x7FFFFFFFFFFFFFFF then v else ofSigned 64 (min m (max (-(2 ^ 63)) (signedOf 64 v + d)))

/-- The correction a forwarded message takes at its egress from port `n` with stamp `t` (R71); none for more than 1 ms or more than one step. -/
def State.residence (s : State) (n : Nat) (x : PtpMsg) (ty : Nat) (t : Stamp) : Option Int :=
  let e := (s.gf F.TKU_STATE_EPOCH + 2 ^ F.TKU_STATE_EPOCH.width - x.epoch) % 2 ^ F.TKU_STATE_EPOCH.width
  let r : Int := (t.time : Int) - x.stamp.time - (if e = 1 then s.tku.lastStep else 0)
  let asym (k : Nat) : Int := 256 * signedOf 32 (s.rdN (R.TKU_ASYM k))
  let extra : Int :=
    if ty = 0 then (if s.gf (F.TKU_PTPCFG_TC n) = 2 then ((256 * s.rdN (R.TKU_PDELAY x.port) : Nat) : Int) else 0) + asym x.port
    else if ty = 1 || ty = 2 then - asym n else 0
  if 1 < e || decide (1000000 * 65536 < r) then none else some (r + extra)

/-- A frame with the UDP checksum above a PTP message made right again. -/
def fixPtpUdp (f : List Byte) (a : Nat) : List Byte :=
  match protectPoint f with
  | some p => if p.off < a then udpSum f p (p.off + p.len) else f
  | none => f

/-- A PTP message at `a` stamped in its own fields (R69): whole ns in originTimestamp, and the rest added to correctionField. -/
def oneStepFill (f : List Byte) (a : Nat) (t : Stamp) : List Byte :=
  let f := patch f (a + 34) (beBytes 6 (t.time / secondUnits % 2 ^ 48) ++ beBytes 4 (t.time / 65536 % 1000000000))
  fixPtpUdp (patch f (a + 8) (beBytes 8 (addCorrection (beAt f (a + 8) 8) ((t.time % 65536 : Nat) : Int)))) a

/-- A PTP message at `a` whose correctionField takes `d` (R71, R72). -/
def correct (f : List Byte) (a : Nat) (d : Option Int) : List Byte :=
  let v := match d with | some d => addCorrection (beAt f (a + 8) 8) d | none => 0x7FFFFFFFFFFFFFFF
  fixPtpUdp (patch f (a + 8) (beBytes 8 v)) a

/-- What becomes of a frame that Skylark sends on port `n` at stamp `t`: the frame, and the residence time reported to Skylark (R69 to R71, R105). -/
def State.ptpFill (s : State) (n : Nat) (x : SkyFrame) (msg : Option PtpMsg) (f : List Byte) (macsec : Bool) (t : Stamp) : List Byte × Option Int :=
  match ptpAt 7 f with
  | none => (f, none)
  | some a =>
    let ty := byteAt f a % 16
    let one := s.gb (F.TKU_PTPCFG_ONESTEP n) && !macsec
    let fwd := if s.gf (F.TKU_PTPCFG_TC n) = 0 || 3 < ty then none else msg
    match fwd with
    | some y =>
      let r := s.residence n y ty t
      if one || (r.isNone && !macsec) then (correct f a r, r) else (f, r)
    | none => if x.oneStep && one && (ty = 0 || ty = 3) then (oneStepFill f a t, none) else (f, none)

/-- Where a frame holds a spray option that the MAC fills, with its UDP header and datagram (R206). -/
def State.sprayAt (s : State) (f : List Byte) : Option (IpAt × Nat) :=
  match protectPoint f with
  | none => none
  | some p =>
    let u := p.off + p.len
    if p.len = (if p.v6 then 40 else 20) && p.proto f = 17 && !p.fragment f && beAt f (u + 2) 2 = s.gf F.ORS_CFG_UDPPORT &&
      decide (u + 20 ≤ p.fin) && byteAt f (u + 17) / 64 = 1 then some (p, u) else none

/-- A frame filled with its transmit stamp (R206). -/
def State.sprayFill (s : State) (f : List Byte) (t : Stamp) : List Byte :=
  match s.sprayAt f with
  | none => f
  | some (p, u) =>
    let g := patch f (u + 8) (beBytes 8 (shortOf t.time) ++ [byte t.bound])
    if !p.v6 && beAt f (u + 6) 2 = 0 then g else udpSum g p u

/-! ## Sending (R96, R97, R106) -/

/-- A frame of `f` bytes without FCS has been sent whole (R106). -/
def State.sentCount (s : State) (n : Nat) (f : List Byte) : State :=
  (((s.macCount n 64 (f.length + 4)).macCount n 65 1).macCount n (66 + castOf f) 1).macCount n (81 + sizeBin (f.length + 4)) 1

/-- A transmitted frame completes its send entry or its work request (R264, R391). -/
def State.sentOn (s : State) (n : Nat) (k : Pkt) (t : Stamp) : State :=
  let lt := match k.launch with
    | some l => let d := signedOf 64 (shortOf t.time + 2 ^ 64 - l % 2 ^ 64); decide (-1024 ≤ d) && decide (d ≤ 1024)
    | none => false
  match k.home with
  | some (m, tag) => s.stkTxdone m tag 0 (some ⟨t.time, t.bound, t.domain, t.seq⟩)
  | none =>
  match k.send, k.xref with
  | some r, _ => s.sendDone r 0 (some (t, n, lt)) k.bytes.length
  | none, some (i, w) =>
    let x : XptSt := tabGet (fun _ => {}) s.sec.xpts i
    let x := { x with reqs := x.reqs.map fun r => if r.id + 1 = w then { r with stamp := t } else r }
    (s.modSec fun c => { c with xpts := tabSet (fun _ => {}) c.xpts i x }).udDone k t
  | none, none => s

/-- A frame leaves port `n` whole, filled, stamped and counted; `sky` is Skylark's frame with the message it forwards. -/
def State.transmit (s : State) (n : Nat) (k : Pkt) (sky : Option (SkyFrame × Option PtpMsg)) : State :=
  let t := (s.txStamp n).1
  let fill := bitAt (s.gf F.ORS_TXFILL_FILL) n
  let (f, res) := match sky with | some (x, msg) => s.ptpFill n x msg k.bytes k.macsec t | none => (k.bytes, none)
  let f := if fill && !k.macsec then s.sprayFill f t else f
  match s.rewritePkt k f with
  | (none, s) => s
  | (some k, s) =>
    let s := if fill && k.macsec then s.orsCount 12 else s
    let s := (s.txStamp n).2.sentCount n k.bytes
    let s := (s.freePkt k).sentOn n k t
    let s := if k.skylark then s.emit (.skylark "tx" [n, shortOf t.time, t.bound, t.domain, t.seq, match res with | some r => ofSigned 64 r | none => 0]) else s
    s.emit (.frame n (k.bytes ++ leBytes 4 (fcsOf k.bytes)))

/-- A held frame's launch time lies more than 4 ns in the past (R97). -/
def State.tooLate (s : State) (k : Pkt) : Bool :=
  match k.launch with
  | some l => decide (s.untilLaunch l < -1024)
  | none => false

/-- A frame at the MAC starts (R96, R97). -/
def State.startFrame (s : State) (n : Nat) (k : Pkt) (sky : Option (SkyFrame × Option PtpMsg)) : State :=
  if s.gf (F.MAC_PORTCFG_MAXLEN n) < wireLen k then (s.macCount n 70 1).dropPkt k 4
  else if s.tooLate k then s.launchMissed n k none
  else s.transmit n k sky

/-- The oldest frame of the transmit buffer starts. -/
def State.startFront (s : State) (n : Nat) : State :=
  match (s.mac n).txBuf with
  | [] => s
  | k :: rest => (s.setMac n fun c => { c with txBuf := rest }).startFrame n k none

/-- A frame that Skylark sends starts; the message it forwards leaves the PTP receive queue. -/
def State.startSky (s : State) (n : Nat) (x : SkyFrame) : State :=
  let msg := x.fwd.bind fun i => s.tku.ptpQueue[i]?
  let s := match x.fwd with | some i => s.setTku fun t => { t with ptpQueue := t.ptpQueue.eraseIdx i } | none => s
  let f := if x.bytes.length < 60 then fitBytes 60 x.bytes else x.bytes
  match s.macsecTx { bytes := f, skylark := true, oneStep := x.oneStep } n with
  | (some k, s) => s.startFrame n k (some (x, msg))
  | (none, s) => s

/-- FRAME_TRANSMIT (R96): a port whose link is up sends Skylark's frame, or the oldest frame of its transmit buffer. -/
def execFrameTransmit (n : Fin 16) (sky : Option SkyFrame) (s : State) : Outcome :=
  .next (s.inBlock 0x60 (islNQ (n.val / 4)) fun s => if !s.canSend n then s else
    match sky with
    | some x => s.startSky n x
    | none => s.startFront n)

/-! ## Launch frames (R195, R196) -/

/-- How far the reference plane is from a launch time when the frame starts now, in 1/256 ns (R74, R195). -/
def State.launchGap (s : State) (n : Nat) (l : Nat) : Int := s.untilLaunch l - s.rdN (R.TKU_CALTX n)

/-- A launch frame is not sent at its launch time (R196). -/
def State.launchStopped (s : State) (n q d : Nat) (k : Pkt) : Bool :=
  let l := k.launch.getD 0
  let fin := tabGet (fun _ => (0 : Int)) s.tmg.ltEnd n
  !s.gateFits n (q % 8) d || s.pauseHeld n (q % 8) || decide ((s.tku.dt / 256 : Nat) + s.untilLaunch l + 1024 < fin) ||
    decide (s.launchGap n l < -1024)

/-- A calendar frame is handed to the MAC at its launch time (R195). -/
def State.launchSend (s : State) (n q d : Nat) (k : Pkt) : State :=
  let s := ((s.chargePath n (wireLen k) (s.tmqPath q)).popHead q).tmgCount n 6
  let s := s.modTmg fun t => { t with ltEnd := tabSet (fun _ => (0 : Int)) t.ltEnd n ((s.tku.dt / 256 + 256 * d : Nat) : Int),
                                      busyTo := tabSet (fun _ => 0) t.busyTo n (s.now + d) }
  let s := s.setMac n fun c => { c with txBuf := k :: c.txBuf }
  (if s.canSend n then s.startFront n else s).heads q

/-- LAUNCH_INSTANT (R196): the earliest frame of a port's calendar has reached its launch time. -/
def State.launchInstant (s : State) (n : Nat) : State :=
  match s.earliest n with
  | none => s
  | some (_, q) =>
    match (s.tmq q).frames with
    | [] => s
    | (k, _) :: _ =>
      let d := s.txNs n (wireLen k)
      if 0 < s.launchGap n (k.launch.getD 0) then s
      else if s.launchStopped n q d k then ((s.popHead q).launchMissed n k none).heads q
      else s.launchSend n q d k

def execLaunchInstant (n : Fin 16) (s : State) : Outcome := .next (s.inBlock 0x60 (islNQ (n.val / 4)) fun s => s.launchInstant n)

/-! ## A port's stop (R98) -/

/-- A frame of the transmit buffer is discarded. -/
def State.discardTx (s : State) (n : Nat) (k : Pkt) : State := (s.macCount n 71 1).dropPkt k 0xD

/-- A write of 0 to MAC_PORTCFG.EN: STOPPED follows within 20 µs. -/
def State.portStop (s : State) (n : Nat) : State :=
  if !s.gb (F.MAC_PORTCFG_EN n) then s else
  let l := (s.mac n).txBuf
  l.foldl (fun s k => s.discardTx n k) ((s.sb (F.MAC_PORTCFG_EN n) false).setMac n fun c => { c with stopAt := some s.now, txBuf := [] })

def execPortStop (m : Master) (n : Fin 16) (s : State) : Outcome := .next (s.asWriter m (R.MAC_PORTCFG n.val) fun s => s.portStop n.val)

end Sys2Proof.Machine
end

