-- ==== Sys2Proof/Machine/Stk.lean ====
section
/-! DEFINITION. Stacking over the Dasko link: links, membership, time, remote lookups and forwarded frames (R435 to R448). -/

namespace Sys2Proof.Machine

/-! ## Links (R435, R436, R438, R439) -/

/-- This device's serial number. -/
def State.serial (s : State) : Nat := s.rd64 R.TOP_SERIAL

/-- What this member's HELLO says on a link. -/
def State.helloOf (s : State) (l : Nat) : StkHello :=
  { serial := s.serial, prio := s.gf F.STK_CFG_PRIO, elect := s.gb F.STK_CFG_IDMODE, strap := s.gf F.CFS_STAT_STACKID, port := l,
    view := s.gf F.STK_STATUS_VIEW }

/-- A time of the reference has passed since an instant, if there was one. -/
def State.since (s : State) (t : Option Nat) (ns : Nat) : Bool := match t with | some t => decide (t + ns ≤ s.now) | none => true

/-- HELLO_SEND (R438): every 1 µs on each link that STK_CFG.EN enables. On a link that is up it is a message like any other; before that it opens the
sequence. -/
def State.helloSend (s : State) (l : Nat) : State :=
  if !s.gb F.STK_CFG_EN || !s.since (s.link l).helloSent 1000 then s else
  let s := s.modLink l fun x => { x with helloSent := some s.now }
  let m := s.ownMsg 0 false (.hello (s.helloOf l))
  if s.linkIsUp l then s.ctlSend l m else s.daskoOut l { m with lack := (s.link l).rxSeq }

def execHelloSend (l : Fin 2) (s : State) : Outcome := .next (s.inBlock 0xF0 islSTK fun s => s.helloSend l)

/-- A link goes down (R436): what was not acknowledged is lost. -/
def State.dropLink (s : State) (l : Nat) : State :=
  let s := s.modLink l fun x => { x with helloAt := none, peer := none, txSeq := 0, rxSeq := 0, unacked := [], pdTime := none }
  if s.linkIsUp l then (s.sf F.STK_STATUS_LINKUP (putBits (s.gf F.STK_STATUS_LINKUP) l 1 0)).report 0xF002 2 l [] else s

/-- Messages that a LACK covers are no longer kept (R439). -/
def State.acked (s : State) (l lack : Nat) : State :=
  s.modLink l fun x => { x with unacked := x.unacked.filter fun e => decide (signedOf 16 (lack + 65536 - e.1.lseq % 65536) < 0) }

/-- A message is the next of its link (R439). -/
def State.inOrder (s : State) (l : Nat) (m : StkMsg) : Bool := m.lseq == ((s.link l).rxSeq + 1) % 65536

/-- A message received in order is acknowledged from now on, and its own LACK is read (R439). -/
def State.received (s : State) (l : Nat) (m : StkMsg) : State :=
  ((s.modLink l fun x => { x with rxSeq := m.lseq }).acked l m.lack).stkCount l 1

/-- Another member claims this member's strap ID and has the lower serial number (R441): this one is refused. -/
def State.strapConflict (s : State) (serial strap : Nat) : State :=
  if s.gb F.STK_CFG_IDMODE || strap ≠ s.gf F.CFS_STAT_STACKID || s.serial ≤ serial || s.stk.refused then s
  else (((s.modStk fun x => { x with refused := true }).sb F.STK_STATUS_IDVALID false).sb F.STK_STATUS_MASTER false).report 0xF005 2 0 []

/-- What a valid HELLO does (R435, R436, R440, R441). -/
def State.helloTake (s : State) (l : Nat) (h : StkHello) : State :=
  if h.port = l then (s.dropLink l).stkViol l else
  let s := if (s.link l).peer = some h then s else s.modStk fun x => { x with stableSince := s.now }
  (s.modLink l fun x => { x with helloAt := some s.now, peer := some h }).strapConflict h.serial h.strap

/-- HELLO_RECEIVE (R436, R439): on a link that is up it must come in order. -/
def State.helloReceive (s : State) (l : Nat) (m : StkMsg) (crcOk : Bool) : State :=
  match m.body with
  | .hello h =>
    if !s.gb F.STK_CFG_EN then s
    else if !crcOk || (s.linkIsUp l && !s.inOrder l m) then s.stkCount l 2
    else (if s.linkIsUp l then s.received l m else s).helloTake l h
  | _ => s

def execHelloReceive (l : Fin 2) (msg : StkMsg) (crcOk : Bool) (s : State) : Outcome := .next (s.inBlock 0xF0 islSTK fun s => s.helloReceive l msg crcOk)

/-- This member takes its strap ID (R441); member 0 becomes master where its neighbour knows of no stack yet. -/
def State.takeStrap (s : State) (peerView : Nat) : State :=
  if s.gb F.STK_CFG_IDMODE || s.gb F.STK_STATUS_IDVALID || s.stk.refused then s else
  let id := s.gf F.CFS_STAT_STACKID
  let s := (s.sf F.STK_STATUS_MYID id).sb F.STK_STATUS_IDVALID true
  if id ≠ 0 || peerView ≠ 0 then s else
  let s := ((s.sb F.STK_STATUS_MASTER true).sf F.STK_STATUS_MASTERID 0).sf F.STK_STATUS_VIEW 1
  (s.sf F.STK_STATUS_MGEN (s.gf F.STK_STATUS_MGEN + 1)).modStk fun x => { x with ids := [(s.serial, 0)] }

/-- STK_LINK_UP (R435, R436): all lanes have held for 1 ms, and a valid HELLO from the right port has come. -/
def State.stkLinkUp (s : State) (l : Nat) : State :=
  match (s.link l).peer with
  | none => s
  | some h =>
    if !s.gb F.STK_CFG_EN || s.linkIsUp l || !s.pllGood (11 + l) || s.since (s.link l).helloAt 20000 then s else
    let s := s.modLink l fun x => { x with txSeq := 0, rxSeq := 0, unacked := [] }
    let s := (s.sf F.STK_STATUS_LINKUP (putBits (s.gf F.STK_STATUS_LINKUP) l 1 1)).report 0xF001 0 l []
    let s := s.modStk fun x => { x with firstUp := some (x.firstUp.getD s.now) }
    s.takeStrap h.view

def execStkLinkUp (l : Fin 2) (s : State) : Outcome := .next (s.inBlock 0xF0 islSTK fun s => s.stkLinkUp l)

/-- STK_LINK_DOWN (R436): alignment lost for 10 µs, or no valid HELLO for 20 µs. -/
def execStkLinkDown (l : Fin 2) (alignLost : Bool) (s : State) : Outcome :=
  .next (s.inBlock 0xF0 islSTK fun s => if s.linkIsUp l && (alignLost || s.since (s.link l).helloAt 20000) then s.dropLink l else s)

/-- LINK_REPLAY (R439): the oldest message has not been acknowledged within 4 µs; it and every one after it are sent again. -/
def State.linkReplay (s : State) (l : Nat) : State :=
  match (s.link l).unacked with
  | [] => s
  | (m, t) :: rest =>
    if !s.linkIsUp l || s.now < t + 4000 then s else
    let s := ((m, t) :: rest).foldl (fun s e => s.daskoOut l { e.1 with lack := (s.link l).rxSeq }) s
    (s.modLink l fun x => { x with unacked := x.unacked.map fun e => (e.1, s.now) }).stkCount l 3

def execLinkReplay (l : Fin 2) (s : State) : Outcome := .next (s.inBlock 0xF0 islSTK fun s => s.linkReplay l)

/-! ## Control messages (R439, R440) -/

/-- The stack forwards and acts on nothing while isolated or refused (R441, R442). -/
def State.mute (s : State) : Bool := s.gb F.STK_STATUS_ISOLATED || s.stk.refused

/-- A broadcast goes on round the ring (R440). -/
def State.passOn (s : State) (l : Nat) (m : StkMsg) (body : StkBody) : State :=
  let h := m.hops + 1
  if s.linkIsUp (1 - l) && decide (h + 1 < s.viewSize) && !s.gb F.STK_STATUS_ISOLATED then s.ctlSend (1 - l) { m with hops := h, body } else s

/-- An accepted message awaits its effect, with the stamp of its receipt; only TIME takes one of the link's domain (R52, R444). -/
def State.intoInbox (s : State) (l : Nat) (m : StkMsg) : State :=
  let (t, s) := match m.body with
    | .time _ _ _ _ _ => s.stamp islSTK (0xF000 + l)
    | _ => ({ noStamp with time := s.counter islSTK }, s)
  s.modStk fun x => { x with inbox := x.inbox ++ [⟨l, m.hops + 1, t, m⟩] }

/-- A message for another member goes on along its route (R440). -/
def State.relay (s : State) (m : StkMsg) : State :=
  match s.route m.dst with
  | none => s
  | some l =>
    let s := match m.body with | .lookupReq _ _ _ => s.stkCount l 8 | .lookupRsp _ _ => s.stkCount l 8 | _ => s
    s.ctlSend l { m with hops := m.hops + 1 }

/-- What becomes of a message received in order (R440, R444). -/
def State.dispatchMsg (s : State) (l : Nat) (m : StkMsg) : State :=
  match m.body with
  | .pdelayReq => s.ctlSend l (s.ownMsg 0 false (.pdelayResp 0))
  | .pdelayResp _ => s.intoInbox l m
  | b =>
    if s.stk.refused then s
    else if s.gb F.STK_STATUS_IDVALID && decide (signedOf 8 (m.mgen + 256 - s.gf F.STK_STATUS_MGEN) < 0) then s.stkViol l
    else if m.bcast then
      let s := match b with | .time _ _ _ _ _ => s | _ => s.passOn l m b
      s.intoInbox l m
    else if m.dst = s.gf F.STK_STATUS_MYID then s.intoInbox l m
    else if s.mute then s else s.relay m

/-- CONTROL_MESSAGE_RECEIVE (R439, R440): a message that fails its CRC32C or comes out of order is dropped and counted, a malformed one is a
violation and not acknowledged, and any other is answered, passed on or kept for its effect. -/
def State.ctlReceive (s : State) (l : Nat) (m : StkMsg) (crcOk : Bool) : State :=
  if !s.linkIsUp l then s else
  match m.body with
  | .hello _ => s
  | .data _ => s
  | .bad => if crcOk then s.stkViol l else s.stkCount l 2
  | _ => if !crcOk || !s.inOrder l m then s.stkCount l 2 else (s.received l m).dispatchMsg l m

def execControlMessageReceive (l : Fin 2) (msg : StkMsg) (crcOk : Bool) (s : State) : Outcome := .next (s.inBlock 0xF0 islSTK fun s => s.ctlReceive l msg crcOk)

/-- The oldest message of a kind that awaits its effect, taken. -/
def State.takeMsg (s : State) (p : StkBody → Bool) : Option InMsg × State :=
  match s.stk.inbox.findIdx? fun m => p m.msg.body with
  | none => (none, s)
  | some i => (s.stk.inbox[i]?, s.modStk fun x => { x with inbox := x.inbox.eraseIdx i })

/-! ## Link delay (R444) -/

/-- PDELAY_REQ: every 1 ms on each link. -/
def State.pdelayReq (s : State) (l : Nat) : State :=
  if !s.linkIsUp l || !s.since (s.link l).pdSent 1000000 then s else
  (s.modLink l fun x => { x with pdSent := some s.now, pdTime := some (s.counter islSTK) }).ctlSend l (s.ownMsg 0 false .pdelayReq)

def execPdelayReq (l : Fin 2) (s : State) : Outcome := .next (s.inBlock 0xF0 islSTK fun s => s.pdelayReq l)

/-- PDELAY_RESP: half of the round trip less the neighbour's turnaround. -/
def State.pdelayResp (s : State) (i : InMsg) (turnaround : Nat) : State :=
  match (s.link i.link).pdTime with
  | none => s
  | some t1 => (s.wrN (R.STK_PDELAY i.link) ((i.stamp.time - t1 - turnaround) / 512)).modLink i.link fun x => { x with pdTime := none }

def execPdelayResp (s : State) : Outcome :=
  .next (s.inBlock 0xF0 islSTK fun s => match s.takeMsg fun b => match b with | .pdelayResp _ => true | _ => false with
    | (some i, s) => (match i.msg.body with | .pdelayResp t => s.pdelayResp i t | _ => s)
    | (none, s) => s)

/-! ## Membership (R441 to R443) -/

/-- Members leave the view: the frames handed to them complete with ABORTED_BY_RESET, and the master logs each (R446, R448). -/
def State.membersLost (s : State) (lost : List Nat) : State :=
  lost.foldl (fun s m =>
    let gone := s.stk.away.filter fun e => e.2.1 == m
    let s := s.modStk fun x => { x with away := x.away.filter fun e => e.2.1 != m }
    let s := gone.foldl (fun s e => s.sentAs e.2.2 0xD 0) s
    if s.gb F.STK_STATUS_MASTER then s.report 0xF003 2 0 [] else s) s

/-- The members that a new view leaves out. -/
def leftOut (old new : Nat) : List Nat := (membersOf old).filter fun m => !bitAt new m

/-- ASSIGN broadcast by the master (R438, R441). -/
def State.assignOut (s : State) : State :=
  (s.ctlAll fun _ s => (.assign (s.gf F.STK_STATUS_VIEW) s.stk.ids, s)).modStk fun x => { x with assignAt := some s.now }

/-- TIME broadcast by the master, with a stamp of each link's domain (R444). -/
def State.timeOut (s : State) : State :=
  (s.ctlAll fun l s =>
    let (t, s) := s.stamp islSTK (0xF000 + l)
    (.time t.time 0 s.pubCode s.tkuState (s.gf F.TKU_STATE_EPOCH), s)).modStk fun x => { x with timeAt := some s.now }

/-- A view in force: its members that left are dealt with, and MGEN moves on when it changes (R441). -/
def State.setView (s : State) (v : Nat) : State :=
  let old := s.gf F.STK_STATUS_VIEW
  if v = old then s
  else ((s.sf F.STK_STATUS_VIEW v).sf F.STK_STATUS_MGEN (s.gf F.STK_STATUS_MGEN + 1)).membersLost (leftOut old v)

/-- This member becomes master with a view (R442). -/
def State.becomeMaster (s : State) (v : Nat) : State :=
  let old := s.gf F.STK_STATUS_VIEW
  let s := s.srcChange 0 (s.gf F.TKU_CTRL_SRCPORT)
  let s := ((s.sb F.STK_STATUS_MASTER true).sf F.STK_STATUS_MASTERID (s.gf F.STK_STATUS_MYID)).sb F.STK_STATUS_ISOLATED false
  let s := (s.sf F.STK_STATUS_VIEW v).sf F.STK_STATUS_MGEN (s.gf F.STK_STATUS_MGEN + 1)
  let s := s.modStk fun x => { x with
    ids := if x.ids.isEmpty then [(s.serial, s.gf F.STK_STATUS_MYID)] else x.ids.filter fun e => bitAt v e.2 }
  (((s.report 0xF004 2 0 []).membersLost (leftOut old v)).assignOut).timeOut

/-- The lowest ID of 0 to 3 that no member holds. -/
def freeId (ids : List (Nat × Nat)) : Option Nat := (List.range 4).find? fun i => ids.all fun e => e.2 != i

/-- The IDs with one member more, as serial number and strap ID (R441): its strap ID, the lower serial number winning it, or in elect mode the lowest
free ID. -/
def State.admitMember (s : State) (ids : List (Nat × Nat)) (m : Nat × Nat) : List (Nat × Nat) :=
  if ids.any fun e => e.1 == m.1 then ids
  else if s.gb F.STK_CFG_IDMODE then (match freeId ids with | some i => ids ++ [(m.1, i)] | none => ids)
  else
    match ids.find? fun e => e.2 == m.2 % 4 with
    | none => ids ++ [(m.1, m.2 % 4)]
    | some e => if e.1 ≤ m.1 || e.1 = s.serial then ids else (ids.filter fun x => x.1 != e.1) ++ [(m.1, m.2 % 4)]

/-- ASSIGN_SEND (R438, R441): `present` lists the other members that the ring holds, as serial number and strap ID. The master publishes a changed
membership at once, and else every 1 ms. -/
def State.assignSend (s : State) (present : List (Nat × Nat)) : State :=
  if !s.gb F.STK_STATUS_MASTER then s else
  let kept := s.stk.ids.filter fun e => e.1 == s.serial || present.any fun m => m.1 == e.1
  let ids := present.foldl (fun ids m => s.admitMember ids m) kept
  let v := ids.foldl (fun v e => v ||| 2 ^ e.2) (2 ^ s.gf F.STK_STATUS_MYID)
  let changed := v ≠ s.gf F.STK_STATUS_VIEW
  let s := (s.modStk fun x => { x with ids }).setView v
  if changed || s.since s.stk.assignAt 1000000 then s.assignOut else s

def execAssignSend (present : List (Nat × Nat)) (s : State) : Outcome := .next (s.inBlock 0xF0 islSTK fun s => s.assignSend present)

/-- A received ASSIGN is taken (R440 to R442): a newer membership, the master's own, or the first of all. -/
def State.assignTake (s : State) (i : InMsg) (view : Nat) (ids : List (Nat × Nat)) : State :=
  let m := i.msg
  let newer := decide (0 < signedOf 8 (m.mgen + 256 - s.gf F.STK_STATUS_MGEN))
  if s.gb F.STK_STATUS_IDVALID && !newer && m.src ≠ s.gf F.STK_STATUS_MASTERID then s.stkViol i.link else
  let old := s.gf F.STK_STATUS_VIEW
  let was := old != 0
  let s := ((s.sf F.STK_STATUS_VIEW view).sf F.STK_STATUS_MGEN m.mgen).sf F.STK_STATUS_MASTERID m.src
  let s := s.modStk fun x => { x with ids, masterAt := s.now }
  match ids.find? fun e => e.1 == s.serial with
  | none =>
    let s := (s.sb F.STK_STATUS_IDVALID false).sb F.STK_STATUS_MASTER false
    (match ids.find? fun e => e.2 == s.gf F.CFS_STAT_STACKID with
     | some e => s.strapConflict e.1 e.2
     | none => s)
  | some (_, id) =>
    let s := ((s.sf F.STK_STATUS_MYID id).sb F.STK_STATUS_IDVALID true).sb F.STK_STATUS_MASTER false
    let s := (s.sb F.STK_STATUS_ISOLATED false).membersLost (leftOut old view)
    if was || s.gf F.TKU_CTRL_SRC ≠ 3 then s else s.srcChange 3 i.link

/-- ASSIGN (R441, R442). -/
def execAssign (s : State) : Outcome :=
  .next (s.inBlock 0xF0 islSTK fun s => match s.takeMsg fun b => match b with | .assign _ _ => true | _ => false with
    | (some i, s) => (match i.msg.body with | .assign v ids => s.assignTake i v ids | _ => s)
    | (none, s) => s)

/-- A write of 1 to STK_CTL.HANDOVER (R443): the lowest other ID of the view is named. -/
def State.handoverWrite (s : State) : State :=
  match (membersOf (s.gf F.STK_STATUS_VIEW)).find? fun m => m != s.gf F.STK_STATUS_MYID with
  | none => s
  | some m =>
    if !s.gb F.STK_STATUS_MASTER then s else
    let s := s.ctlAll fun _ s => (.handover m, s)
    let s := ((s.srcChange 3 (min 1 (s.gf F.TKU_CTRL_SRCPORT))).sb F.STK_STATUS_MASTER false).sf F.STK_STATUS_MASTERID m
    s.modStk fun x => { x with masterAt := s.now }

def execHandoverWrite (m : Master) (s : State) : Outcome := .next (s.asWriter m R.STK_CTL State.handoverWrite)

/-- HANDOVER (R443): the member it names becomes master without waiting. -/
def execHandover (s : State) : Outcome :=
  .next (s.inBlock 0xF0 islSTK fun s => match s.takeMsg fun b => match b with | .handover _ => true | _ => false with
    | (some i, s) =>
      (match i.msg.body with
       | .handover h =>
         if i.msg.src ≠ s.gf F.STK_STATUS_MASTERID then s.stkViol i.link
         else if h = s.gf F.STK_STATUS_MYID then s.becomeMaster (s.gf F.STK_STATUS_VIEW) else s
       | _ => s)
    | (none, s) => s)

/-- SUCCESSION_TIMEOUT (R442): nothing has come from the master for this member's time; `reach` is the members it can reach. -/
def State.succession (s : State) (reach : Nat) : State :=
  let me := s.gf F.STK_STATUS_MYID
  let old := s.gf F.STK_STATUS_MASTERID
  let view := s.gf F.STK_STATUS_VIEW
  let others := (membersOf view).filter fun m => m != old
  let lower := (others.filter fun m => decide (m < me)).length
  if !s.gb F.STK_STATUS_IDVALID || s.gb F.STK_STATUS_MASTER || view = 0 || s.mute ||
    s.now < s.stk.masterAt + s.gf F.STK_CFG_SUCCTMO * 1000000 + 2000000 * lower then s else
  let r := (membersOf view).filter fun m => m == me || bitAt reach m
  let n := (membersOf view).length
  if n < 2 * r.length || (2 * r.length = n && r.contains (others.headD 0)) then s.becomeMaster (r.foldl (fun v m => v ||| 2 ^ m) 0)
  else (s.sb F.STK_STATUS_ISOLATED true).report 0xF007 2 0 []

def execSuccessionTimeout (reach : BitVec 4) (s : State) : Outcome := .next (s.inBlock 0xF0 islSTK fun s => s.succession reach.toNat)

/-- MASTER_WAIT_TIMEOUT (R441, R442): in strap mode no member 0 has appeared within 100 ms of the first link. -/
def State.masterWait (s : State) (reach : Nat) : State :=
  let me := s.gf F.STK_STATUS_MYID
  let lower := ((membersOf reach).filter fun m => decide (m < me)).length
  if s.gb F.STK_CFG_IDMODE || !s.gb F.STK_STATUS_IDVALID || s.gf F.STK_STATUS_VIEW ≠ 0 || bitAt reach 0 || s.stk.refused || s.stk.firstUp.isNone ||
    !s.since s.stk.firstUp (100000000 + 2000000 * lower) then s
  else s.becomeMaster (reach ||| 2 ^ me)

def execMasterWaitTimeout (reach : BitVec 4) (s : State) : Outcome := .next (s.inBlock 0xF0 islSTK fun s => s.masterWait reach.toNat)

/-- ELECTION (R441): in elect mode, with every HELLO stable for 10 ms. `others` lists the other members in hop order along DL0, as serial number and
PRIO. The winner takes ID 0 and numbers the others in that order; a loser waits for its ASSIGN. -/
def State.election (s : State) (others : List (Nat × Nat)) : State :=
  let pr := s.gf F.STK_CFG_PRIO
  if !s.gb F.STK_CFG_IDMODE || s.gb F.STK_STATUS_IDVALID || s.stk.firstUp.isNone || s.now < s.stk.stableSince + 10000000 then s
  else if others.any fun e => decide (pr < e.2) || (e.2 == pr && decide (e.1 < s.serial)) then s
  else
    let ids := (s.serial, 0) :: ((others.take 3).mapIdx fun i e => (e.1, i + 1))
    let s := (((s.sf F.STK_STATUS_MYID 0).sb F.STK_STATUS_IDVALID true).sb F.STK_STATUS_MASTER true).sf F.STK_STATUS_MASTERID 0
    ((s.modStk fun x => { x with ids }).setView (2 ^ ids.length - 1)).assignOut

def execElection (others : List (Nat × Nat)) (s : State) : Outcome := .next (s.inBlock 0xF0 islSTK fun s => s.election others)

/-! ## Time (R444, R445) -/

/-- TIME_SEND: every 125 µs. -/
def execTimeSend (s : State) : Outcome :=
  .next (s.inBlock 0xF0 islSTK fun s => if s.gb F.STK_STATUS_MASTER && s.since s.stk.timeAt 125000 then s.timeOut else s)

/-- The servo of a member with SRC = 3 (R60, R445): SET in FREERUN, STEP beyond 1,000 ns, and else a steer whose amount is open (log entry 47). -/
def State.stackServo (s : State) (offset : Int) (master r h code : Nat) : State :=
  let s := s.wr64 R.TKU_OFFSET (ofSigned 64 offset)
  if s.tkuState = 0 then
    (if s.gb F.TKU_ADJCMD_BUSY then s else s.adjSchedule true (master + (s.tku.dt - r : Int) + 512 * 65536)) else
  let q := { s.servoRegs (s.rdN R.STK_SRVUNC) with srcacc := boundUnits code, asymunc := s.rdN R.TKU_STKUNC * h }
  let s := (s.wr R.TKU_SRVUNC (s.rd R.STK_SRVUNC)).servoUpdate q
  let s := if offset.natAbs > 1000 * 65536 then (if s.gb F.TKU_ADJCMD_BUSY then s else (s.breach (-offset)).adjSchedule false (-offset))
    else let (k, s) := s.fresh; s.wrN R.TKU_FREQ (Config.steer k)
  let n := if offset.natAbs ≤ s.rdN R.TKU_LOCKTHR * 256 then s.stk.inLock + 1 else 0
  let s := s.modStk fun x => { x with inLock := n }
  if 16 ≤ n && s.tkuState = 1 then s.lockReq else s

/-- A TIME that this member accepts (R440, R444, R445). -/
def State.timeTake (s : State) (i : InMsg) (stamp : Nat) (corr : Int) (bound state : Nat) : State :=
  let delay := s.rdN (R.STK_PDELAY i.link) * 256
  let s := s.modStk fun x => { x with masterAt := s.now }
  let dup := match s.stk.lastTime with | some (t, h) => t == stamp && decide (h ≤ i.hops) | none => false
  if dup || state = 0 || bound = 0xFF then s else
  let s := (s.modStk fun x => { x with lastTime := some (stamp, i.hops) }).setTku fun t => { t with stackMsgAt := s.now, hops := i.hops }
  if s.gf F.TKU_CTRL_SRC ≠ 3 then s else
  let master := ((stamp : Int) + corr + delay).toNat
  s.stackServo (i.stamp.time - (master : Int)) master i.stamp.time i.hops bound

/-- TIME (R440, R444, R445): applied, and passed on with this member's residence time and link delay added to CORR. -/
def State.timeMsg (s : State) (i : InMsg) (stamp : Nat) (corr : Int) (bound state epoch : Nat) : State :=
  if i.msg.src ≠ s.gf F.STK_STATUS_MASTERID || s.gb F.STK_STATUS_MASTER then s.stkViol i.link else
  let corr' := corr + ((s.counter islSTK : Int) - i.stamp.time) + s.rdN (R.STK_PDELAY i.link) * 256
  (s.passOn i.link i.msg (.time stamp corr' bound state epoch)).timeTake i stamp corr bound state

def execTime (s : State) : Outcome :=
  .next (s.inBlock 0xF0 islSTK fun s => match s.takeMsg fun b => match b with | .time _ _ _ _ _ => true | _ => false with
    | (some i, s) => (match i.msg.body with | .time a c b st e => s.timeMsg i a c b st e | _ => s)
    | (none, s) => s)

/-! ## Remote lookups (R170, R447) -/

/-- A lookup asked by another member is searched here and answered with words 9 to 13 of the winning entry. -/
def State.lookupFor (s : State) (src tag kdef key : Nat) : State :=
  match s.hLookup key kdef with
  | (some l, s) => (s.ctlTo src (.lookupRsp tag (some ((List.range 5).map fun k => (s.hEnt l).getD (9 + k) 0)))).2
  | (none, s) => (s.ctlTo src (.lookupRsp tag none)).2

/-- LOOKUP_REQ. -/
def execLookupReq (s : State) : Outcome :=
  .next (s.inBlock 0xF0 islSTK fun s => match s.takeMsg fun b => match b with | .lookupReq _ _ _ => true | _ => false with
    | (some i, s) => (match i.msg.body with | .lookupReq t d k => s.lookupFor i.msg.src t d k | _ => s)
    | (none, s) => s)

/-- A lookup of a pass that a response answers. -/
def LookupSt.isFor (l : LookupSt) (tag : Nat) : Bool := l.answer.isNone && (match l.remote with | some (_, t) => t == tag | none => false)

/-- A thread's lookup that a response answers. -/
def ThreadSt.isFor (x : ThreadSt) (tag : Nat) : Bool := match x.wait with | .tlook _ _ _ _ _ (some (_, t)) => t == tag | _ => false

/-- A response reaches the thread whose lookup it answers; word 14 and the location word are open (log entry 46). -/
def State.rspThread (s : State) (t : Nat) (hit : Option (List Nat)) : State :=
  match (s.thread t).wait with
  | .tlook rd area _ _ at_ _ =>
    if at_ + 615 ≤ s.now then s else
    match hit with
    | none => s.lookupTo t rd area none
    | some w =>
      let (a, s) := s.fresh
      let (b, s) := s.fresh
      let l := ((List.range 5).map fun k => w.getD k 0) ++ [Config.remoteWord a % 2 ^ 32]
      s.lookupTo t rd area (some (fitBytes 32 (l.flatMap fun x => leBytes 4 x), Config.remoteWord b % 2 ^ 32))
  | _ => s

/-- A response reaches the pass or the thread that asked; one that nobody awaits any more is discarded. -/
def State.lookupRsp (s : State) (tag : Nat) (hit : Option (List Nat)) : State :=
  match (List.range 4).find? fun p => match (s.pipe p).pass with | some w => w.lookups.any fun l => l.isFor tag && !s.lookupLate l | none => false with
  | some p =>
    (match (s.pipe p).pass with
     | some w => s.answer w (fun l => l.isFor tag && !s.lookupLate l) (hit.map fun w => hResult (List.replicate 9 0 ++ w))
     | none => s)
  | none =>
    match s.eng.threads.find? fun e => e.2.isFor tag with
    | some e => s.rspThread e.1 hit
    | none => s

/-- LOOKUP_RSP. -/
def execLookupRsp (s : State) : Outcome :=
  .next (s.inBlock 0xF0 islSTK fun s => match s.takeMsg fun b => match b with | .lookupRsp _ _ => true | _ => false with
    | (some i, s) => (match i.msg.body with | .lookupRsp t h => s.lookupRsp t h | _ => s)
    | (none, s) => s)

/-! ## Forwarded frames (R446, R448) -/

/-- TXDONE (R446): a frame handed to another member completes as that member says. -/
def State.txdone (s : State) (tag status : Nat) (tx : Option StkStamp) : State :=
  match s.stk.away.find? fun e => e.1 == tag with
  | none => s
  | some e =>
    let s := s.modStk fun x => { x with away := x.away.filter fun e => e.1 != tag }
    match tx with
    | some t => s.sentOn (t.domain - 0x6010) e.2.2 ⟨t.time, t.bound, t.domain, t.seq⟩
    | none => s.sentAs e.2.2 status (if status = 0 then e.2.2.bytes.length else 0)

def execTxdone (s : State) : Outcome :=
  .next (s.inBlock 0xF0 islSTK fun s => match s.takeMsg fun b => match b with | .txdone _ _ _ => true | _ => false with
    | (some i, s) => (match i.msg.body with | .txdone t st x => s.txdone t st x | _ => s)
    | (none, s) => s)

/-- A DATA frame for this member reaches its queue as if its own pass had named it (R448); its buffer is charged inside the device (log entry 48). -/
def State.dataHere (s : State) (l src : Nat) (d : StkData) : State :=
  let k : Pkt := { bytes := d.frame, cls := d.cls, yellow := d.yellow, rx := ⟨d.rx.time, d.rx.bound, d.rx.domain, d.rx.seq⟩, prec := d.prec,
                   status := d.status, member := some src, home := d.tag.map fun t => (src, t) }
  let held := if d.toHost then (s.q d.queue).st != 0 && (s.q d.queue).typ == 1 else decide (d.queue < 131072)
  let s := if held then s else s.stkViol l
  match s.alloc (128 + d.frame.length) 1108 true false 0 0 with
  | (.got h, s) => s.orsExamine { k with buf := some h } (if d.toHost then .queue d.queue else .tmq d.queue)
  | (_, s) => s.dropPkt k 6

/-- DATA (R438, R440, R448): its FCS checked, delivered here or passed on along its route without a pass. -/
def State.dataMsg (s : State) (l : Nat) (m : StkMsg) (d : StkData) (fcsOk : Bool) : State :=
  if !s.linkIsUp l || s.mute then s
  else if !fcsOk then s.stkCount l 2
  else if decide (signedOf 8 (m.mgen + 256 - s.gf F.STK_STATUS_MGEN) < 0) then s.stkViol l
  else if m.dst = s.gf F.STK_STATUS_MYID then (s.stkCount l 5).dataHere l m.src d
  else
    let fail (s : State) (o : Nat) : State := match d.tag with | some t => (s.dataDrop o).stkTxdone m.src t 6 none | none => s.dataDrop o
    match s.route m.dst with
    | none => fail s l
    | some o =>
      match s.dataSend o { m with hops := m.hops + 1 } (52 + d.frame.length) with
      | (true, s) => s
      | (false, s) => fail s o

def execData (l : Fin 2) (msg : StkMsg) (fcsOk : Bool) (s : State) : Outcome :=
  .next (s.inBlock 0xF0 islSTK fun s => match msg.body with | .data d => s.dataMsg l msg d fcsOk | _ => s)

end Sys2Proof.Machine
end

