-- ==== Sys2Proof/Machine/Cgu.lean ====
section
/-! DEFINITION. Clocks (R477 to R488): the islands' sources, their switches, PLLs, loss of the reference, and gating. -/

namespace Sys2Proof.Machine

/-- Change the clocks' own state. -/
def State.modCgu (s : State) (f : CguSt → CguSt) : State := { s with cgu := f s.cgu }

/-! ## Which island runs from what (R478 to R480) -/

/-- The islands that hold a block's work (R16; HB0 and HB1 follow MEM). -/
def islandsOf (b : Nat) : List Nat :=
  match b with
  | 0x05 | 0x61 | 0xF8 | 0xFC => [islAON]
  | 0x10 => [islHPI 0]
  | 0x11 => [islHPI 1]
  | 0x60 => (List.range 4).map islNQ
  | 0x70 | 0x71 => (List.range 4).map islPP
  | 0x80 => islSHD :: (List.range 4).map islPP
  | 0x88 | 0x90 | 0xA0 | 0xB0 => [islSHD]
  | 0xC0 => (List.range 64).map islSW
  | 0xE0 => [islSYS, islHB 0, islHB 1]
  | 0xF0 => [islSTK]
  | _ => [islSYS]

/-- The PLL that feeds an island, by its bit of CGU_PLLSTAT (R478). -/
def pllOf (i : Nat) : Nat :=
  if i = 0 then 0 else if i ≤ 7 || i = 79 then 1 else if i ≤ 12 then 2 else if i ≤ 76 then 3 else 4

/-- The island runs. -/
def State.runs (s : State) (i : Nat) : Bool := s.gb (F.CGU_ISL_RUNNING i)

/-- A source change of an island is in progress. -/
def State.switching (s : State) (i : Nat) : Option SwitchSt := tabGet (fun _ => none) s.cgu.sw i

/-- The source that an island should run from: its PLL with SRC = 0, and the reference with SRC = 1 or while that PLL has no lock; for AON, the
supervision oscillator while the reference has failed or PLL_AON has no lock (R479, R483, R485). -/
def State.srcOf (s : State) (i : Nat) : Nat :=
  if s.gb (F.CGU_ISL_SRC i) || !s.pllGood (pllOf i) || (i == 0 && !s.gb F.CGU_REFSTAT_REFGOOD) then 1 else 0

/-- An island is to run (R480): AON always; any other while the reference is good, STOPREQ = 0 and a block in it is enabled, SYS whatever is enabled. -/
def State.wantsRun (s : State) (i : Nat) : Bool :=
  i == 0 || (s.gb F.CGU_REFSTAT_REFGOOD && !s.gb (F.CGU_ISL_STOPREQ i) &&
    (i == 1 || (List.range 256).any fun b => s.enabled b && (islandsOf b).contains i))

/-- A PLL feeds something that runs (R478). -/
def State.pllUsed (s : State) (k : Nat) : Bool :=
  if k ≤ 4 then (List.range 80).any fun i => pllOf i == k &&
    ((s.runs i && !s.gb (F.CGU_ISL_CURSRC i)) || (match s.switching i with | some w => w.src == 0 | none => false))
  else if k ≤ 8 then s.runs (islNQ (k - 5)) else if k ≤ 10 then s.runs (islHPI (k - 9)) else s.runs islSTK

/-- CGU_PLLSTAT (R478): a PLL that feeds no running island is powered down, and one that is powered with a good reference is locked (log entry 49). -/
def State.pllRefresh (s : State) : State :=
  s.sf F.CGU_PLLSTAT_LOCK (((List.range 13).map fun k =>
    if s.gb F.CGU_REFSTAT_REFGOOD && s.pllGood k && s.pllUsed k then 2 ^ k else 0).sum)

/-- An island's clock stops: its state and its counter are held, and it is unaligned (R23, R480). -/
def State.stopIsland (s : State) (i : Nat) : State :=
  if s.runs i then
    (s.setIsland i { s.island i with held := some (s.counter i), aligned := false }).sb (F.CGU_ISL_RUNNING i) false
  else s

/-- An island's clock runs again from a source; its counter waits for the next bus message (R23). -/
def State.startIsland (s : State) (i src : Nat) : State :=
  let s := s.setIsland i { s.island i with held := some ((s.island i).held.getD 0), aligned := false }
  (s.sf (F.CGU_ISL_CURSRC i) src).sb (F.CGU_ISL_RUNNING i) true

/-- An island that is to run and does not starts (R480). -/
def State.bringUp (s : State) (i : Nat) : State :=
  if s.wantsRun i && !s.runs i && (s.switching i).isNone then s.startIsland i (s.srcOf i) else s

/-- An island that is not to run stops. -/
def State.bringDown (s : State) (i : Nat) : State := if s.wantsRun i then s else s.stopIsland i

/-! ## Source switches (R481, R482) -/

/-- Step 1 of R481: the island is asked to stop. `alive` says whether its old clock still runs. -/
def State.beginSwitch (s : State) (i src : Nat) (alive : Bool) : State :=
  (s.stopIsland i).modCgu fun c => { c with sw := tabSet (fun _ => none) c.sw i (some ⟨src, s.now, alive, false⟩) }

/-- An island that runs from another source than it should is switched (R479, R481). -/
def State.reSource (s : State) (i : Nat) (alive : Bool) : State :=
  if s.runs i && (s.switching i).isNone && s.gf (F.CGU_ISL_CURSRC i) != s.srcOf i then s.beginSwitch i (s.srcOf i) alive else s

/-- A write of SRC (R479, R481): AON's is read-only. -/
def State.writeSrc (s : State) (i : Nat) (v : Bool) : State :=
  if i = 0 then s else (s.sb (F.CGU_ISL_SRC i) v).reSource i true

/-- CLOCK_SWITCH (R481). -/
def execClockSwitch (m : Master) (i : Fin 80) (src : Fin 2) (s : State) : Outcome :=
  .next (s.asWriter m (R.CGU_ISL i) fun s => s.writeSrc i (src == 1))

/-- No acknowledgement within 64 supervision cycles of 10 ns (R482): the gate closes asynchronously. -/
def State.switchForced (s : State) (i : Nat) : State :=
  match s.switching i with
  | some w =>
    if !w.alive && !w.forced && decide (w.at_ + 640 ≤ s.now) then
      let s := ((s.sb (F.CGU_ISL_LOSS_UNKNOWN i) true).sf (F.CGU_ISL_LOSTCYC i) 0xFFFF).satInc32 (R.CGU_SWITCHES i)
      (s.report 0x0107 1 i []).modCgu fun c => { c with sw := tabSet (fun _ => none) c.sw i (some { w with forced := true, at_ := s.now }) }
    else s
  | none => s

/-- CGU_SWITCH_FORCED (R482). -/
def execCguSwitchForced (i : Fin 80) (s : State) : Outcome := .next (s.switchForced i)

/-- Four cycles of the new clock, in ns (R481): a PLL's, the reference's, or the supervision oscillator's. -/
def fourCycles (i src : Nat) : Nat := if src = 0 then 4 else if i = 0 then 40 else 26

/-- A switch may finish: the old clock has stopped, and four cycles of the new one have passed. -/
def State.restartDue (s : State) (i : Nat) (w : SwitchSt) : Bool := (w.alive || w.forced) && decide (w.at_ + fourCycles i w.src ≤ s.now)

/-- Step 3 of R481: the gate opens. `lost` counts the supervision cycles between the old clock's last edge and the new one's first; a forced switch has said
what it lost already (R482). A source changed meanwhile is taken next. -/
def State.switchRestart (s : State) (i lost : Nat) : State :=
  match s.switching i with
  | some w =>
    if s.restartDue i w then
      let s := s.modCgu fun c => { c with sw := tabSet (fun _ => none) c.sw i none }
      let s := if w.forced then s else
        ((s.sf (F.CGU_ISL_LOSTCYC i) (min lost 0xFFFE)).satInc32 (R.CGU_SWITCHES i)).report 0x0106 0 i []
      let s := if i = 0 then s.sf F.CGU_REFSTAT_SUPVONLY w.src else s
      let s := s.sf (F.CGU_ISL_CURSRC i) w.src
      let s := if s.wantsRun i then s.startIsland i w.src else s
      (s.reSource i true).pllRefresh
    else s
  | none => s

/-- SWITCH_RESTART (R481). -/
def execSwitchRestart (i : Fin 80) (lost : Nat) (s : State) : Outcome := .next (s.switchRestart i lost)

/-! ## STOPREQ (R480) -/

/-- STOPREQ may be written 1: the sward has stopped, or the quad is unused or counts as stopped (R87). -/
def State.mayStop (s : State) (i : Nat) : Bool :=
  if 13 ≤ i && i ≤ 76 then s.gb (F.ENG_SWCTL_STOPPED (i - 13))
  else if 4 ≤ i && i ≤ 7 then s.quadMode (i - 4) == 0 || s.quadStopped (i - 4)
  else false

/-- STOPREQ written 0: the island runs again, and a sward with RUN = 1 issues. -/
def State.stopRelease (s : State) (i : Nat) : State :=
  let s := (s.sb (F.CGU_ISL_STOPREQ i) false).bringUp i
  if 13 ≤ i && i ≤ 76 && s.gb (F.ENG_SWCTL_RUN (i - 13)) then (s.sb (F.ENG_SWCTL_STOPPED (i - 13)) false).pllRefresh else s.pllRefresh

/-- A write of STOPREQ (R480). -/
def State.stopReq (s : State) (m : Master) (i : Nat) (stop : Bool) : State :=
  if stop then
    if s.mayStop i then ((s.sb (F.CGU_ISL_STOPREQ i) true).stopIsland i).pllRefresh else s.cfgViol m (R.CGU_ISL i)
  else if s.gb (F.CGU_ISL_STOPREQ i) then s.stopRelease i else s

/-- ISLAND_STOP_REQUEST (R480). -/
def execIslandStopRequest (m : Master) (i : Fin 80) (stop : Bool) (s : State) : Outcome :=
  .next (s.asWriter m (R.CGU_ISL i) fun s => s.stopReq m i stop)

/-! ## PLLs (R483) -/

/-- Set or clear what is known of a PLL that has lost lock. -/
def State.setPll (s : State) (k : Nat) (v : Option PllSt) : State :=
  s.modCgu fun c => { c with plls := tabSet (fun _ => none) c.plls k v }

/-- The ports whose lanes a quad's PLL clocks: its own, and the first port of a pair that it is the second half of. -/
def State.quadPorts (s : State) (q : Nat) : List Nat :=
  (List.range 4).map (4 * q + ·) ++ (if q % 2 = 1 && s.quadMode (q - 1) == 5 then [4 * (q - 1)] else [])

/-- The links that a SerDes PLL clocks go down (R483). -/
def State.pllLinksDown (s : State) (k : Nat) : State :=
  if k ≤ 8 then (s.quadPorts (k - 5)).foldl (fun s n => if s.gb (F.MAC_STATUS_LINK n) then s.linkDown n false else s) s
  else if k ≤ 10 then (if s.gb (F.HP_STATUS_LINKUP (k - 9)) then s.hostLinkDown (k - 9) else s)
  else s.dropLink (k - 11)

/-- A PLL loses lock (R483): its islands switch to the reference, AON to the supervision oscillator, and a SerDes PLL's links go down. -/
def State.pllUnlock (s : State) (k : Nat) (alive : Bool) : State :=
  if bitAt (s.gf F.CGU_PLLSTAT_LOCK) k then
    let s := ((s.setPll k (some { at_ := s.now })).pllRefresh).report 0x0104 2 0 []
    if k ≤ 4 then (List.range 80).foldl (fun s i => if pllOf i == k then s.reSource i alive else s) s else s.pllLinksDown k
  else s

/-- CGU_PLL_UNLOCK (R483): PLL `k`, in the order of CGU_PLLSTAT; `alive` says whether its output still runs. -/
def execCguPllUnlock (k : Fin 13) (alive : Bool) (s : State) : Outcome := .next (s.pllUnlock k alive)

/-- PLL_RETRY (R483): every 1 ms while the reference is good. -/
def execPllRetry (k : Fin 13) (s : State) : Outcome :=
  .next (match tabGet (fun _ => none) s.cgu.plls k with
    | some p => if s.gb F.CGU_REFSTAT_REFGOOD && decide (p.at_ + 1000000 ≤ s.now) then s.setPll k (some ⟨s.now, true⟩) else s
    | none => s)

/-- The islands of a PLL that has locked again return to it (R483). -/
def State.pllRelock (s : State) (k : Nat) : State :=
  let s := (s.setPll k none).report 0x0105 0 0 []
  (((List.range 80).foldl (fun s i => if pllOf i == k then s.reSource i true else s) s)).pllRefresh

/-- CGU_PLL_RELOCK (R483): lock has held for 100 µs since the retry. -/
def execCguPllRelock (k : Fin 13) (s : State) : Outcome :=
  .next (match tabGet (fun _ => none) s.cgu.plls k with
    | some p => if p.retry && s.gb F.CGU_REFSTAT_REFGOOD && decide (p.at_ + 100000 ≤ s.now) then s.pllRelock k else s
    | none => s)

/-! ## Loss of the reference (R485, R486) -/

/-- The safe outputs forced (R485): SerDes transmitters in electrical idle, PPSO low, and the GPIO at their safe levels, by CGU_GPIOSAFE. -/
def State.safeOutputs (s : State) : State :=
  let s := ((s.emit (.pin "SERDES_IDLE" true)).emit (.pin "PPSO" false)).setTku fun k => { k with ppsoHigh := false }
  s.emit (.gpio (some (s.rdN R.CGU_GPIOSAFE)))

/-- The safe outputs released (R486). -/
def State.safeRelease (s : State) : State := (s.emit (.pin "SERDES_IDLE" false)).emit (.gpio none)

/-- Every island but AON is stopped asynchronously (R485). -/
def State.forceStop (s : State) : State :=
  (List.range 79).foldl (fun s k =>
    let i := k + 1
    let s := s.modCgu fun c => { c with sw := tabSet (fun _ => none) c.sw i none }
    if s.runs i then (s.stopIsland i).sb (F.CGU_ISL_LOSS_UNKNOWN i) true else s) s

/-- The reference fails (R485). -/
def State.refFail (s : State) : State :=
  if !s.gb F.CGU_REFSTAT_REFGOOD then s else
  let s := ((s.sb F.CGU_REFSTAT_REFGOOD false).satInc F.CGU_REFSTAT_FAILCNT).safeOutputs
  let s := if s.tkuState = 0 then s else s.tkuEnter 0
  let s := s.forceStop.reSource 0 false
  let s := (s.modCgu fun c => { c with prev := s.gf F.RST_STATE_PSTATE }).sf F.RST_STATE_PSTATE 2
  (s.report 0x0101 2 0 []).pllRefresh

/-- CGU_REF_FAIL (R484, R485). -/
def execCguRefFail (s : State) : Outcome := .next s.refFail

/-- The reference is stable again (R486); `n` is the learnt count of R484. Each host port that had its link takes a link-down reset. -/
def State.refRecover (s : State) (n : Word) : State :=
  if s.gb F.CGU_REFSTAT_REFGOOD || s.gf F.RST_STATE_PSTATE != 2 then s else
  let s := ((s.sb F.CGU_REFSTAT_REFGOOD true).wr R.CGU_REFCOUNT n).reSource 0 true
  let s := (List.range 80).foldl (fun s i => s.bringUp i) s
  let s := (s.safeRelease.report 0x0102 0 0 []).sf F.RST_STATE_PSTATE s.cgu.prev
  ((List.range 2).foldl (fun s p => if s.gb (F.HP_STATUS_LINKUP p) then s.hostLinkDown p else s) s).pllRefresh

/-- REF_RECOVER (R486). -/
def execRefRecover (n : Word) (s : State) : Outcome := .next (s.refRecover n)

/-! ## Gating (R487, R488) -/

/-- In Safe-Talk only HP0 and HP1 may be enabled (R510). -/
def State.safeTalk (s : State) : Bool := s.gf F.RST_STATE_PSTATE == 3

/-- A write of 1 to CGU_CLKEN[b].EN (R487, R496, R510). -/
def State.blockEnable (s : State) (m : Master) (b : Nat) : State :=
  let off := R.CGU_CLKEN b
  if !assignedBlock b then s.cfgViol m off
  else if alwaysClocked b || s.gb (F.CGU_CLKEN_EN b) then s
  else if s.safeTalk && b != 0x10 && b != 0x11 then s.cfgViol m off
  else s.sb (F.CGU_CLKEN_EN b) true

/-- BLOCK_ENABLE (R487). -/
def execBlockEnable (m : Master) (b : BitVec 8) (s : State) : Outcome :=
  .next (s.asWriter m (R.CGU_CLKEN b.toNat) fun s => s.blockEnable m b.toNat)

/-- The islands of an enabled block start, and ACTIVE reads 1 when every one that is not asked to stop runs (R480, R487). -/
def State.blockActive (s : State) (b : Nat) : State :=
  if s.enabled b && !alwaysClocked b && !s.gb (F.CGU_CLKEN_ACTIVE b) then
    let s := (islandsOf b).foldl (fun s i => s.bringUp i) s
    (s.sb (F.CGU_CLKEN_ACTIVE b) ((islandsOf b).all fun i => s.runs i || s.gb (F.CGU_ISL_STOPREQ i))).pllRefresh
  else s

/-- BLOCK_ACTIVE (R487): within 250 µs of the write of EN. -/
def execBlockActive (b : BitVec 8) (s : State) : Outcome := .next (s.blockActive b.toNat)

end Sys2Proof.Machine
end

