-- ==== Sys2Proof/Machine/Rst.lean ====
section
/-! DEFINITION. Resets, temperature and the age meter (R487, R489 to R497, R547, R556). -/

namespace Sys2Proof.Machine

/-- Change the resets' own state. -/
def State.modRst (s : State) (f : RstSt → RstSt) : State := { s with rst := f s.rst }

/-! ## Block resets (R490, R491) -/

/-- Offsets lie in `n` bytes from `a`. -/
def within (o a n : Nat) : Bool := decide (a ≤ o) && decide (o < a + n)

/-- The registers of a MAC quad. -/
def macRegs (q o : Nat) : Bool :=
  o == R.MAC_QUADMODE q || within o (R.MAC_LANECFG (4 * q)) 16 || within o (0x6001000 + 0x400 * q) 0x400 || within o (0x6010000 + 0x1000 * q) 0x1000

/-- The registers of a sward. -/
def engRegs (w o : Nat) : Bool :=
  within o (0xC000000 + 0x100 * w) 0x100 || within o (0xC008000 + 0x1000 * w) 0x1000 || within o (0xC050000 + 0x200 * w) 0x200 ||
    within o (0xC060000 + 0x400 * w) 0x400 || within o (0xC070000 + 0x400 * w) 0x400 || within o (0xC080000 + 0x100 * w) 0x100

/-- The registers that a predicate picks go back to their reset values. No register has the access code RWS, so none is kept (R4, R490). -/
def State.clearWhere (s : State) (f : Nat → Bool) : State :=
  { s with regs := s.regs.filter fun e => !f e.1, live := s.live.filter fun e => !f e.1 }

/-- The registers of a whole block go back to their reset values. -/
def State.clearBlock (s : State) (b : Nat) : State := s.clearWhere fun o => blockOf o == b

/-- An island realigns (R23, R490). -/
def State.unalign (s : State) (i : Nat) : State :=
  s.setIsland i { s.island i with held := some (s.counter i), aligned := false }

/-- The packets inside a MAC are dropped; a sent one completes with ABORTED_BY_RESET (R490). The link goes down without MAC_LINK_DOWN (R491). -/
def State.macDrop (s : State) (n : Nat) : State :=
  let c := s.mac n
  let s := (c.rxBuf ++ c.txBuf).foldl (fun s k => s.dropPkt k 0xD) s
  let s := if s.gb (F.MAC_STATUS_LINK n) then s.ptpLinkLost n else s
  { s with macs := tabSet (fun _ => {}) s.macs n {} }

/-- The quads that a reset of quad `q` covers (R491): both of a MODE 5 pair. -/
def State.quadsReset (s : State) (q : Nat) : List Nat :=
  if s.quadMode q = 5 then [q - q % 2, q - q % 2 + 1] else [q]

/-- A MAC quad is reset (R491). -/
def State.resetQuads (s : State) (qs : List Nat) : State :=
  qs.foldl (fun s q =>
    let s := (List.range 4).foldl (fun s k => s.macDrop (4 * q + k)) s
    ((s.clearWhere (macRegs q)).setMode q 0).unalign (islNQ q)) s

/-- A packet that an engine of sward `w` holds is dropped as revoked (R146, R491); a copy only frees its buffer. -/
def State.dropHeld (s : State) (w h : Nat) (k : Pkt) (copy : Bool) : State :=
  let s := s.unhold h
  if copy then s.unrefEng h
  else ((((s.clsCount k.pipe 14).reportAs 0x7103 0 0x7100 (0xC000 + w) []).setBuf h { s.buf h with eng := none })).dropPkt { k with buf := some h } 0xB

/-- The engine references of a sward's group are released (R418, R491). -/
def State.releaseGroup (s : State) (w : Nat) : State :=
  let g := s.gf (F.BPM_SWGRP_GROUP w)
  (s.bufs.filter fun e => e.2.eng == some g).foldl (fun s e =>
    match s.punted e.1 with
    | some (k, copy, _) => s.dropHeld w e.1 k copy
    | none => s.unrefEng e.1) s

/-- A sward is reset (R491): its threads are FREE, its channels empty, the references of its group released, and CYCLE restarts. -/
def State.resetSward (s : State) (w : Nat) : State :=
  let s := (List.range 128).foldl (fun s k =>
    let t := w * 128 + k
    let s := s.leaves_ t
    s.modEng fun g => { g with threads := tabSet (fun _ => {}) g.threads t {} }) s
  let s := { s with chans := s.chans.filter fun e => e.1 / 256 ≠ w }
  let s := s.modEng fun g => { g with
    forkq := tabSet (fun _ => []) g.forkq w []
    changed := tabSet (fun _ => 0) g.changed w s.now
    fired := tabSet (fun _ => false) g.fired w false
    resetAt := tabSet (fun _ => 0) g.resetAt w s.now }
  ((s.releaseGroup w).clearWhere (engRegs w)).unalign (islSW w)

/-- CRY is reset (R364, R366, R491): every association FREE, a new device key drawn. -/
def State.resetCry (s : State) : State :=
  (s.modSec fun x => { x with sas := [], draws := x.draws + 1 }).clearBlock 0xA0

/-- XPT is reset (R491): every context FREE, its queues STOPPING with reason 9, and the packets inside dropped. -/
def State.resetXpt (s : State) : State :=
  let s := s.sec.xpts.foldl (fun s e =>
    let stop (s : State) (q : Option Nat) : State := match q with | some g => s.stopQueue g 9 | none => s
    stop (stop s e.2.sq) e.2.rq) s
  let s := s.sec.xptIn.foldl (fun s e => s.dropPkt e.2 0xD) s
  (s.modSec fun x => { x with xpts := [], xptIn := [] }).clearBlock 0xB0

/-- ORS is reset (R491): held packets are released at once in list order, and every context closes. -/
def State.resetOrs (s : State) : State :=
  (s.releaseAll.modSec fun x => { x with flows := [], storeFullAt := none }).clearBlock 0x88

/-- STK is reset (R491): both links go down and the member leaves the view. -/
def State.resetStk (s : State) : State :=
  let s := ((s.dropLink 0).dropLink 1).membersLost [0, 1, 2, 3]
  (((s.modStk fun _ => {}).clearBlock 0xF0)).unalign islSTK

/-- A GO of RST_BLK (R491): ignored while BUSY; a refused request changes nothing. `n` is the number of instances, `islands` those in scope and `ns` the time it takes. -/
def State.blkReset (s : State) (b inst n : Nat) (islands : List Nat) (ns : Nat) (f : State → State) : State :=
  let s := (s.sf F.RST_BLK_BLOCK b).sf F.RST_BLK_INST inst
  if s.gb F.RST_BLK_BUSY then s
  else if n ≤ inst then s.sf F.RST_BLK_STATUS 2
  else (f (((s.sf F.RST_BLK_STATUS 0).sb F.RST_BLK_BUSY true).report 0x0202 0 0 [])).modRst fun r => { r with busy := some (b, islands, s.now + ns) }

/-- The block reset of each row of R491's table. -/
def State.blkMac (s : State) (q : Nat) : State :=
  let qs := s.quadsReset q
  s.blkReset 0x60 q 4 (qs.map islNQ) 200000 fun s => s.resetQuads qs
def State.blkEng (s : State) (w : Nat) : State := s.blkReset 0xC0 w 64 [islSW w] 20000 fun s => s.resetSward w
def State.blkCry (s : State) (i : Nat) : State := s.blkReset 0xA0 i 1 [islSHD] 2000000 State.resetCry
def State.blkXpt (s : State) (i : Nat) : State := s.blkReset 0xB0 i 1 [islSHD] 2000000 State.resetXpt
def State.blkOrs (s : State) (i : Nat) : State := s.blkReset 0x88 i 1 [islSHD] 100000 State.resetOrs
def State.blkStk (s : State) (i : Nat) : State := s.blkReset 0xF0 i 1 [islSTK] 100000 State.resetStk

/-- A GO with any BLOCK (R491): STATUS 1 for a block that the table does not name. -/
def State.blkGo (s : State) : State :=
  let i := s.gf F.RST_BLK_INST
  match s.gf F.RST_BLK_BLOCK with
  | 0x60 => s.blkMac i
  | 0xC0 => s.blkEng i
  | 0xA0 => s.blkCry i
  | 0xB0 => s.blkXpt i
  | 0x88 => s.blkOrs i
  | 0xF0 => s.blkStk i
  | _ => if s.gb F.RST_BLK_BUSY then s else s.sf F.RST_BLK_STATUS 1

def execBlockResetMac (m : Master) (inst : BitVec 6) (s : State) : Outcome := .next (s.asWriter m R.RST_BLK fun s => s.blkMac inst.toNat)
def execBlockResetEng (m : Master) (inst : BitVec 6) (s : State) : Outcome := .next (s.asWriter m R.RST_BLK fun s => s.blkEng inst.toNat)
def execBlockResetCry (m : Master) (inst : BitVec 6) (s : State) : Outcome := .next (s.asWriter m R.RST_BLK fun s => s.blkCry inst.toNat)
def execBlockResetXpt (m : Master) (inst : BitVec 6) (s : State) : Outcome := .next (s.asWriter m R.RST_BLK fun s => s.blkXpt inst.toNat)
def execBlockResetOrs (m : Master) (inst : BitVec 6) (s : State) : Outcome := .next (s.asWriter m R.RST_BLK fun s => s.blkOrs inst.toNat)
def execBlockResetStk (m : Master) (inst : BitVec 6) (s : State) : Outcome := .next (s.asWriter m R.RST_BLK fun s => s.blkStk inst.toNat)

/-- A declared unit lies within the scope of a block reset. -/
def unitIn (b : Nat) (islands : List Nat) (u : Nat) : Bool :=
  u / 256 == b &&
    (if b = 0x60 then islands.contains (islNQ (u % 256 / 4)) else if b = 0xC0 then islands.contains (islSW (u % 256)) else true)

/-- A block reset completes (R461, R491): BUSY clears, and the declarations of units in its scope end. -/
def State.blkDone (s : State) (b : Nat) (islands : List Nat) : State :=
  let s := (s.sb F.RST_BLK_BUSY false).modRst fun r => { r with busy := none }
  (List.range 64).foldl (fun s i =>
    if s.gb (F.FLT_FAULTED_VALID i) && unitIn b islands (s.gf (F.FLT_FAULTED_UNIT i)) then s.undeclare i else s) s

/-- BLOCK_RESET_DONE (R491). -/
def execBlockResetDone (s : State) : Outcome :=
  .next (match s.rst.busy with
    | some (b, l, t) => if t ≤ s.now then s.blkDone b l else s
    | none => s)

/-! ## Gating (R487) -/

/-- A resettable block is reset in every instance, and gated; its islands stop where no other block wants them. -/
def State.gate (s : State) (b : Nat) (f : State → State) : State :=
  let s := ((f s).sb (F.CGU_CLKEN_EN b) false).sb (F.CGU_CLKEN_ACTIVE b) false
  ((islandsOf b).foldl (fun s i => s.bringDown i) s).pllRefresh

/-- The reset of every instance of a block of R491's table, each logged; none for any other block. -/
def State.resetAll (b : Nat) : Option (State → State) :=
  let log (n : Nat) (f : State → State) (s : State) : State := f ((List.range n).foldl (fun s _ => s.report 0x0202 0 0 []) s)
  match b with
  | 0x60 => some (log 4 fun s => s.resetQuads [0, 1, 2, 3])
  | 0xC0 => some (log 64 fun s => (List.range 64).foldl (fun s w => s.resetSward w) s)
  | 0xA0 => some (log 1 State.resetCry)
  | 0xB0 => some (log 1 State.resetXpt)
  | 0x88 => some (log 1 State.resetOrs)
  | 0xF0 => some (log 1 State.resetStk)
  | _ => none

/-- A write of 0 to CGU_CLKEN[b].EN (R487): dropped and logged for a block that no block reset covers; of no effect where EN reads 0 or is read-only. -/
def State.blockGate (s : State) (m : Master) (b : Nat) : State :=
  if alwaysClocked b || !s.enabled b then s
  else match State.resetAll b with
    | some f => s.gate b f
    | none => s.cfgViol m (R.CGU_CLKEN b)

/-- BLOCK_GATE (R487). -/
def execBlockGate (m : Master) (b : BitVec 8) (s : State) : Outcome :=
  .next (s.asWriter m (R.CGU_CLKEN b.toNat) fun s => s.blockGate m b.toNat)

/-! ## Warm, management and power-on resets (R489, R492, R493) -/

/-- The cause of a warm reset (R493): the CFGHOST PF0, Skylark, or the test controller. An engine thread requests none. -/
def warmCause : Option Master → Nat
  | some (.host _ _) => 1
  | some _ => 2
  | none => 3

/-- A register that a warm reset keeps (R465, R473, R489, R496): those of TKU, FLT, MGE, MGT and CFS, what comes from eFuse and flash, what CGU counts since PORN
or reports of the reference and the PLLs, and the highest temperatures. The islands' sources are dealt with apart. -/
def warmKeeps (o : Nat) : Bool :=
  [0x03, 0x05, 0x61, 0xF8, 0xFC].contains (blockOf o) || o == R.TOP_REV || within o R.TOP_SERIAL 8 || o == R.EVR_KEEPSTAT || o == R.EVR_KEEPACK ||
    o == R.CGU_REFSTAT || o == R.CGU_REFCOUNT || o == R.CGU_PLLSTAT || within o (R.RST_TEMP 0) 32 || (within o (R.CGU_ISL 0) 0x280 && o % 8 == 4)

/-- An island's source, and whether it runs, after a warm reset: only AON and SYS do. -/
def State.warmIsland (old s : State) (i : Nat) : State :=
  let s := ((s.sf (F.CGU_ISL_SRC i) (old.gf (F.CGU_ISL_SRC i))).sf (F.CGU_ISL_CURSRC i) (old.gf (F.CGU_ISL_CURSRC i)))
  s.sb (F.CGU_ISL_RUNNING i) (decide (i ≤ 1) && old.runs i)

/-- A host port as PERST resets it (R241). -/
def State.perstReset (s : State) (p : Nat) : State := (s.linkStatusDown p).resetStart p (.port false)

/-- The machine behind the reset (R489): everything at its reset value but what the table keeps, with Skylark's latches, the records not yet written and the
generations that the queues' indices hold (R250); the ports' resets end with it, and CRY draws a new device key (R366). HBM holds what it held (log entry 50). -/
def State.warmState (s : State) : State :=
  { pending := s.pending, out := s.out, now := s.now, free := s.free, seqs := s.seqs, hbm := s.hbm, flash := s.flash, fuse := s.fuse
    regs := s.regs.filter fun e => warmKeeps e.1
    live := s.live.filter fun e => blockOf e.1 == 3
    latches := s.latches.filter fun l => l.m == .skylark
    heldLow := s.heldLow.filter fun l => l.m == .skylark
    islands := s.islands.map fun e => if e.1 = 0 then e else (e.1, { e.2 with held := some (s.counter e.1), aligned := false })
    tku := s.tku, flt := s.flt, cgu := s.cgu, mge := s.mge
    evr := { fltIn := s.evr.fltIn, tkuIn := s.evr.tkuIn, buckets := s.evr.buckets, staging := s.evr.staging, bootRec := s.evr.bootRec,
             keepFullLogged := s.evr.keepFullLogged, keepMissAt := s.evr.keepMissAt }
    fns := s.fns.map fun e => (e.1, { fngen := e.2.fngen })
    queues := s.queues.map fun e => (e.1, { gen := e.2.gen, nextItem := e.2.nextItem })
    rst := { s.rst with busy := none, hot := none, bootRec := some (s.bootStamp, true, false) }
    mgt := { s.mgt with boot := 1, cfsWait := none }
    sec := { draws := s.sec.draws + 1 }
    cfs := { held := s.cfs.held } }

/-- Entries that hold what an unlisted key reads as are left out of a table. -/
def tabTidy {α : Type} [DecidableEq α] (d : Nat → α) (t : Tab α) : Tab α := t.filter fun e => e.2 ≠ d e.1

/-- The tables of the state behind a reset in canonical form. -/
def State.tidy (s : State) : State :=
  { s with fns := tabTidy (fun _ => {}) s.fns, queues := tabTidy (fun _ => {}) s.queues }

/-- A warm reset (R473, R489, R493): logged, both host ports reset as by PERST, and the machine behind it; DEVFATAL clears, and Skylark boots from the ROM. Without
a good reference the device stays in SAFE_REF, and goes on from BOOT when the reference is good (log entry 50). -/
def State.warmReset (s : State) (cause : Nat) : State :=
  if s.gf F.RST_STATE_PSTATE = 4 then s else
  let old := ((s.report 0x0201 0 0 []).perstReset 0).perstReset 1
  let s := old.cfsEnd.warmState.tidy
  let s := (List.range 80).foldl (fun s i => State.warmIsland old s i) s
  let s := (List.range 2).foldl (fun s p => s.sb (F.HP_STATUS_PERST p) (old.gb (F.HP_STATUS_PERST p))) s
  let s := if s.gb F.CGU_REFSTAT_REFGOOD then s else (s.modCgu fun c => { c with prev := 0 }).sf F.RST_STATE_PSTATE 2
  (((s.sb F.FLT_STATUS_DEVFATAL false).faultPin.sf F.MGT_STATUS_AGENT 0).sf F.RST_STATE_CAUSE cause).pllRefresh

/-- WARM_RESET (R489, R497): by a write of RST_CTL.WARM, or by the test controller. -/
def execWarmReset (m : Option Master) (s : State) : Outcome :=
  .next (match m with
    | some k => s.asWriter k R.RST_CTL fun s => s.warmReset (warmCause (some k))
    | none => s.warmReset 3)

/-- A management reset (R489, R506, R521): MGT and Skylark's memory are cleared, its session ends, and Skylark boots from the slot booted before. One that falls
before the boot is over starts the boot again (log entry 51). -/
def State.mgtReset (s : State) : State :=
  let s := if s.gf F.CFS_CMD_OWNER = 1 then s.cfsEnd else s
  let s := (s.clearBlock 0xF8).modMgt fun g => { boot := if s.gf F.RST_STATE_PSTATE = 0 then 1 else 2, board := g.board }
  let s := { s with latches := s.latches.filter (fun (l : Latch) => l.m != Master.skylark), heldLow := s.heldLow.filter (fun (l : Latch) => l.m != Master.skylark),
                    flt := { s.flt with skylarkIrq := [] } }
  (s.setTku fun k => { k with ptpQueue := [] }).sb F.TOP_MASTERS_MGTUP false

/-- A write of 1 to RST_CTL.MGTRST (R497): from the CFGHOST PF0 only. -/
def State.mgtRst (s : State) : Master → State
  | .host _ _ => s.mgtReset
  | _ => s

/-- MANAGEMENT_RESET (R489, R497). -/
def execManagementReset (m : Master) (s : State) : Outcome := .next (s.asWriter m R.RST_CTL fun s => s.mgtRst m)

/-- The management watchdog has expired (R497): TMO ms without a KICK, 0 taken as 1. -/
def State.wdogDue (s : State) : Bool :=
  s.gb F.RST_MGTWDOG_EN && decide (s.rst.kick + 1000000 * max 1 (s.gf F.RST_MGTWDOG_TMO) ≤ s.now)

/-- RST_MGT_WDOG (R497, R498). -/
def execRstMgtWdog (s : State) : Outcome :=
  .next (if s.wdogDue then ((s.modRst fun r => { r with kick := s.now }).report 0x0205 2 0 []).mgtReset else s)

/-- A KICK (R497): accepted from Skylark only. -/
def State.wdogKick (s : State) : Master → State
  | .skylark => s.modRst fun r => { r with kick := s.now }
  | _ => s

/-- MGT_WDOG_KICK (R497). -/
def execMgtWdogKick (m : Master) (s : State) : Outcome := .next (s.asWriter m R.RST_MGTWDOG fun s => s.wdogKick m)

/-- eFuse is loaded (R74, R492): the revision, the serial number, TKU_ISLDLY, and TKU_CALRX and TKU_CALTX for mode 0. -/
def State.loadFuses (s : State) : State :=
  let s := (s.sf F.TOP_REV_REVID s.fuse.rev).wr64 R.TOP_SERIAL s.fuse.serial
  let s := (List.range 80).foldl (fun s i => s.wrN (R.TKU_ISLDLY i) (tabGet (fun _ => 0) s.fuse.isldly i)) s
  (List.range 16).foldl (fun s n => s.loadCal n 0) s

/-- The next keep record number that flash gives (log entry 52): records still staged are lost. -/
def State.keepNext (s : State) : Nat := match s.evr.staging with | (k, _) :: _ => k | [] => s.rdN R.EVR_KEEPSTAT

/-- The power-on count (R465): one more than the newest boot or carry record's, or 1. -/
def State.powerCount (s : State) : Nat := match s.evr.bootRec with | some (_, d) => d.getD 2 0 + 1 | none => 1

/-- The machine right after power-on reset, with flash, eFuse and what they hold. -/
def State.powerState (s : State) : State :=
  let z : State := { pending := s.pending, out := s.out, free := s.free, flash := s.flash, fuse := s.fuse
                     evr := { bootRec := s.evr.bootRec }, rst := { count := s.powerCount }, sec := { draws := s.sec.draws + 1 } }
  ((z.wrN R.EVR_KEEPSTAT s.keepNext).wrN R.EVR_KEEPACK (s.rdN R.EVR_KEEPACK)).loadFuses

/-- The reference is stable (R484, R492): PLL_AON and PLL_SYS lock, AON and SYS run, and the boot record takes its stamp. -/
def State.powerUp (s : State) (noHist : Bool) (n : Word) : State :=
  let s := ((s.sb F.CGU_REFSTAT_REFGOOD true).wr R.CGU_REFCOUNT n).sb F.CGU_REFSTAT_SUPVONLY false
  let s := (s.sf (F.CGU_ISL_CURSRC 0) 0).pllRefresh
  { s with now := 2691000 }.modRst fun r => { r with bootRec := some (s.bootStamp, false, noHist), kick := 2691000 }

/-- Power-on reset (R465, R489, R492, R499): BOOTSEL and STACKID are latched. `stable` is the learnt count of a reference that becomes stable; without one the
device is left in SAFE_REF. -/
def State.powerOn (s : State) (bootsel stackid : Nat) (stable : Option Word) : State :=
  let z := (s.powerState.sf F.CFS_STAT_BOOTSEL bootsel).sf F.CFS_STAT_STACKID stackid
  match stable with
  | some n => z.powerUp s.evr.bootRec.isNone n
  | none => (((z.stopIsland 1).modCgu fun c => { c with prev := 0 }).sf F.RST_STATE_PSTATE 2).modRst fun r =>
      { r with bootRec := some (z.bootStamp, false, s.evr.bootRec.isNone) }

/-- POWER_ON_RESET (R492, R547). -/
def execPowerOnReset (bootsel : BitVec 2) (stackid : BitVec 2) (stable : Option Word) (s : State) : Outcome :=
  .next (s.powerOn bootsel.toNat stackid.toNat stable)

/-- PORN_FALL (R547): CFS suspends its flash operation, which is not taken up again before the reset that follows (log entry 53). -/
def execPornFall (s : State) : Outcome := .next (s.modCfs fun c => { c with held := true })

/-! ## Temperature (R495) -/

/-- A reading into RST_TEMP, with the highest since PORN. -/
def State.tempTake (s : State) (k : Nat) (t : BitVec 16) : State :=
  let s := s.sf (F.RST_TEMP_TEMP k) t.toNat
  if signedOf 16 (s.gf (F.RST_TEMP_MAX k)) < t.toInt then s.sf (F.RST_TEMP_MAX k) t.toNat else s

/-- The highest of the readings, in 1/16 °C. -/
def hotOf : List (BitVec 16) → Int
  | [] => 0
  | [t] => t.toInt
  | t :: l => max t.toInt (hotOf l)

/-- Throttling starts at WARN and ends below WARN - 5 °C (R495). -/
def State.throttle (s : State) (h : Int) : State :=
  let w : Int := 16 * s.gf F.RST_THERM_WARN
  if s.gb F.RST_THERM_THROTTLING then (if h < w - 80 then s.sb F.RST_THERM_THROTTLING false else s)
  else if w ≤ h then (s.sb F.RST_THERM_THROTTLING true).report 0x0203 2 0 [] else s

/-- Eight sensors are read (R495). -/
def State.thermalSample (s : State) (temps : List (BitVec 16)) : State :=
  if decide (temps.length ≠ 8) || decide (s.now < s.rst.sampled + 10000) then s else
  let h := hotOf temps
  let s := (List.range 8).foldl (fun s k => s.tempTake k (temps.getD k 0)) s
  let s := s.modRst fun r => { r with
    sampled := s.now
    hottest := some (max h (r.hottest.getD h))
    hot := if 16 * (s.gf F.RST_THERM_TRIP : Int) ≤ h then some (r.hot.getD s.now) else none }
  s.throttle h

/-- THERMAL_SAMPLE (R495): eight readings in 1/16 °C, every 10 µs. -/
def execThermalSample (temps : List (BitVec 16)) (s : State) : Outcome := .next (s.thermalSample temps)

/-- The device trips (R495): THERMTRIP_N low, the safe outputs, every island but AON held in reset. -/
def State.thermTrip (s : State) : State :=
  let s := (s.emit (.pin "THERMTRIP_N" false)).safeOutputs
  (((s.report 0x0204 4 0 []).forceStop).sf F.RST_STATE_PSTATE 4).pllRefresh

/-- A reading at or above TRIP has stood for 10 µs. -/
def State.tripDue (s : State) : Bool :=
  s.gf F.RST_STATE_PSTATE != 4 && (match s.rst.hot with | some t => decide (t + 10000 ≤ s.now) | none => false)

/-- RST_THERMTRIP (R495). -/
def execRstThermtrip (s : State) : Outcome := .next (if s.tripDue then s.thermTrip else s)

/-! ## The age meter (R556) -/

/-- The greatest `r` below 2^(i+1), with bits from `i` down, whose 160th power does not exceed `n`. -/
def root160 (n : Nat) : Nat → Nat → Nat
  | 0, r => if (r + 1) ^ 160 ≤ n then r + 1 else r
  | i + 1, r => root160 n i (if (r + 2 ^ (i + 1)) ^ 160 ≤ n then r + 2 ^ (i + 1) else r)

/-- 2^((T - 95) / 10) minutes in 2^-32 minute, rounded down, for T in 1/16 °C (log entry 54). -/
def equivMinute (t : Int) : Nat := root160 (2 ^ (t - 1520 + 5120).toNat) 48 0

/-- Whole periods of 32 hours leave a count and blow fuses of its tally of 8,192. `unit` is a minute. -/
def tallied (count unit tally : Nat) : Nat × Nat := (count % (1920 * unit), min 8192 (tally + count / (1920 * unit)))

/-- A minute of the age meter (R556). -/
def State.ageMinute (s : State) : State :=
  if s.now < s.rst.minuteAt + 60000000000 then s else
  let (p, tp) := tallied (s.rst.powered + 1) 1 s.fuse.tallyP
  let (e, te) := tallied (s.rst.equiv + equivMinute (s.rst.hottest.getD 0)) (2 ^ 32) s.fuse.tallyE
  { s with fuse := { s.fuse with tallyP := tp, tallyE := te } }.modRst fun r =>
    { r with powered := p, equiv := e, hottest := none, minuteAt := s.now }

/-- AGE_MINUTE (R556). -/
def execAgeMinute (s : State) : Outcome := .next s.ageMinute

end Sys2Proof.Machine
end

