-- ==== Sys2Proof/Machine/Boot.lean ====
section
/-! DEFINITION. The boot ROM: slots, firmware images, the choice of a slot, Safe-Talk, and the management settings (R499 to R511, R520). -/

namespace Sys2Proof.Machine

/-! ## Slots (R500 to R504) -/

/-- The flash offset of a slot. -/
def slotBase (k : Nat) : Nat := 0x1E00000 * k

/-- A little-endian field of a slot. -/
def State.slotLe (s : State) (k off n : Nat) : Nat := ofLe (s.flashRead (slotBase k + off) n)

/-- A section: its type, the slot offset of its payload, and its length (R502). -/
structure Sect where
  typ : Nat
  off : Nat
  len : Nat
  deriving DecidableEq, Repr

/-- A TYPE that R502 defines for the device or a customer. -/
def knownSect (t : Nat) : Bool := [0x0001, 0x0002, 0x0010, 0x0011, 0x0012, 0x0013, 0x0014].contains t || decide (0x8000 ≤ t)

/-- Bytes are all 0. -/
def zeros (l : List Byte) : Bool := l.all (· == 0)

/-- The sections of a body of bytes read through `rd`, `n` of them from `off` to `fin`; none when one is at fault (R502, R504). -/
def sections (rd : Nat → Nat → List Byte) (fin : Nat) : Nat → Nat → Option (List Sect)
  | 0, _ => some []
  | n + 1, off =>
    let h := rd off 16
    let t := ofLe (h.take 2)
    let len := ofLe ((h.drop 4).take 4)
    let next := off + 16 + (len + 15) / 16 * 16
    if fin < off + 16 || fin < next || !zeros ((h.drop 2).take 2) || !zeros (h.drop 8) || !knownSect t then none
    else (sections rd fin n next).map fun l => ⟨t, off + 16, len⟩ :: l

/-- The sections of a slot whose header and section headers pass (R504); none is HEADER. `hd` are the header's bytes and `rd` reads the slot. -/
def checkHeader (hd : List Byte) (rd : Nat → Nat → List Byte) : Option (List Sect) :=
  let le (o n : Nat) : Nat := ofLe ((hd.drop o).take n)
  let len := le 12 4
  if le 0 4 ≠ 0x53467280 || le 4 2 ≠ 1 || !zeros ((hd.drop 6).take 2) || len % 64 ≠ 0 || len < 64 || 31457152 < len || le 16 4 < 1 || 1024 < le 16 4 ||
      !zeros (hd.drop 20) then none
  else match sections rd (64 + len) (le 16 4) 64 with
    | some l => if (l.filter fun x => x.typ == 1).length = 1 then some l else none
    | none => none

/-- A firmware image is valid (R503). -/
def State.imageOk (s : State) (img : List Byte) : Bool :=
  let le (o n : Nat) : Nat := ofLe ((img.drop o).take n)
  let key := (img.drop 16).take 96
  let be (o : Nat) : Nat := ofBe ((img.drop o).take 48)
  decide (256 ≤ img.length) && le 0 4 == 0x46577280 && le 4 4 % 64 == 0 && le 4 4 == img.length - 256 && !zeros s.fuse.pkhash &&
    sha384 key == s.fuse.pkhash && decide (s.fuse.minsvn ≤ le 12 1) && zeros ((img.drop 13).take 3) && zeros ((img.drop 208).take 48) &&
    ecdsaOk (be 16, be 64) (be 112) (be 160) (sha384 (img.take 112 ++ (img.drop 208).take 48 ++ img.drop 256))

/-- The bytes of a section in flash. -/
def State.sectBytes (s : State) (k : Nat) (x : Sect) : List Byte := s.flashRead (slotBase k + x.off) x.len

/-- Every image among the sections is valid. -/
def State.imagesOk (s : State) (rd : Sect → List Byte) (l : List Sect) : Bool := (l.filter fun x => x.typ ≤ 2).all fun x => s.imageOk (rd x)

/-- The sections of a slot in flash, none if it fails HEADER. -/
def State.slotSects (s : State) (k : Nat) : Option (List Sect) :=
  checkHeader (s.flashRead (slotBase k) 64) fun o n => s.flashRead (slotBase k + o) n

/-- The trailer's CRC matches (R501). -/
def State.slotCrcOk (s : State) (k : Nat) : Bool :=
  let n := 64 + s.slotLe k 12 4
  s.slotLe k n 4 == crc32c (s.flashRead (slotBase k) n)

/-- The state of a slot (R504): 1 HEADER, 2 CRC, 3 SIG, 4 VALID. -/
def State.slotState (s : State) (k : Nat) : Nat :=
  match s.slotSects k with
  | none => 1
  | some l => if !s.slotCrcOk k then 2 else if !s.imagesOk (s.sectBytes k) l then 3 else 4

/-- SEQ of a slot. -/
def State.slotSeq (s : State) (k : Nat) : Nat := s.slotLe k 8 4

/-- SEQ `x` is later than SEQ `y` (R505). -/
def later (x y : Nat) : Bool := decide (0 < signedOf 32 (x + 2 ^ 32 - y % 2 ^ 32)) && (x + 2 ^ 32 - y % 2 ^ 32) % 2 ^ 32 != 2 ^ 31

/-! ## The choice of a slot (R505) -/

/-- The slots in the order of preference. -/
def State.slotOrder (s : State) (bootsel : Nat) : List Nat :=
  let l := if later (s.slotSeq 1) (s.slotSeq 0) then [1, 0] else [0, 1]
  if bootsel = 0 then l else l.reverse

/-- A slot's state put into CFS_STAT; one that fails is logged (R504). -/
def State.noteSlot (s : State) (k st : Nat) : State :=
  let s := s.sf (if k = 0 then F.CFS_STAT_STATEA else F.CFS_STAT_STATEB) st
  if st = 4 then s else s.report 0xFC01 0 0 [k + st * 256]

/-- The slots that pass HEADER are checked in order until one is VALID. -/
def State.chooseSlot (s : State) : List Nat → Option Nat × State
  | [] => (none, s)
  | k :: l =>
    let st := s.slotState k
    if st = 1 then State.chooseSlot s l
    else if st = 4 then (some k, s.noteSlot k 4)
    else State.chooseSlot (s.noteSlot k st) l

/-- Both headers are read: a slot that fails HEADER is noted, and CFS_SEQA and CFS_SEQB are set (R505, R516). -/
def State.readHeaders (s : State) : State :=
  [0, 1].foldl (fun s k =>
    let r := if k = 0 then R.CFS_SEQA else R.CFS_SEQB
    if (s.slotSects k).isSome then s.wrN r (s.slotSeq k) else (s.noteSlot k 1).wrN r 0) s

/-! ## Tests (R508, R509) -/

/-- The tests that a test needs. -/
def testNeeds (t : Nat) : List Nat :=
  match t with
  | 2 => [0, 1] | 3 => [2] | 4 => [3] | 5 => [4] | 6 => [4] | 7 => [4] | 8 => [5] | 9 => [6, 7] | 10 => [5] | 11 => [4] | 12 => [4] | 13 => [4]
  | 14 => [4] | _ => []

/-- The result of a test: 0 not run, 1 pass, 2 fail. -/
def State.testRes (s : State) (t : Nat) : Nat := bitsOf (s.rdN R.CFS_TESTRES) (2 * t) 2

/-- A test passes, or fails with its first failing unit and their number, which is logged and blames that unit. -/
def State.testDone (s : State) (t : Nat) (fail : Option (Nat × Nat)) : State :=
  match fail with
  | none => s.wrN R.CFS_TESTRES (putBits (s.rdN R.CFS_TESTRES) (2 * t) 2 1)
  | some (u, n) =>
    let s := s.wrN R.CFS_TESTRES (putBits (s.rdN R.CFS_TESTRES) (2 * t) 2 2)
    ((s.sf (F.CFS_TESTDET_UNIT t) u).sf (F.CFS_TESTDET_COUNT t) (min n 0xFFFF)).reportAs 0xFC02 2 0xFC00 u []

/-- Run a test if those it needs have passed; `fails` lists (test, first failing unit, failing units). -/
def State.runTest (s : State) (fails : List (Nat × Nat × Nat)) (t : Nat) : State :=
  if (testNeeds t).all fun n => s.testRes n == 1 then s.testDone t ((fails.find? fun e => e.1 == t).map fun e => e.2) else s

/-- Some test has failed. -/
def State.anyFailed (s : State) : Bool := (List.range 16).any fun t => s.testRes t == 2

/-! ## The management settings (R520) -/

/-- The section's bytes are 96 with the reserved ones 0. -/
def mgmtOk (l : List Byte) : Bool :=
  l.length == 96 && zeros ((l.drop 6).take 2) && zeros ((l.drop 13).take 3) && zeros ((l.drop 26).take 6) &&
    (List.range 8).all fun k => zeros ((l.drop (32 + 8 * k + 5)).take 3)

/-- Settings that pass are taken. -/
def State.mgmtTake (s : State) (l : List Byte) : State :=
  let b (o n : Nat) : Nat := beAt l o n
  let s := s.wr64 R.MGE_ADDR (b 0 6)
  let s := (s.sf F.MGT_SMBCFG_ADDR (b 22 1)).sf F.MGT_SMBCFG_SPEED (min 2 (b 23 1 % 4))
  let s := (s.sf F.MGT_SMBCFG_ALERTSEV (min 4 (b 23 1 / 4 % 8))).wrN R.MGT_BIND (b 24 1 % 16)
  s.modMgt fun g => { g with
    ip := b 8 4, plen := min 30 (b 12 1), gateway := b 16 4, port := if b 20 2 = 0 then 8148 else b 20 2, phy := b 25 1 % 32
    allow := ((List.range 8).map fun k => (b (32 + 8 * k) 4, b (36 + 8 * k) 1)).filter fun e => e.2 ≠ 0 }

/-- The fallbacks, logged. -/
def State.mgmtFallback (s : State) : State :=
  let n := s.rdN R.TOP_SERIAL
  let lim (x : Nat) : Nat := max 1 (min 254 (x % 256))
  let s := (s.wr64 R.MGE_ADDR (0x0200 * 2 ^ 32 + n)).modMgt fun g => { g with
    ip := 0xA9FE0000 + 256 * lim (n / 256) + lim n, plen := 16, gateway := 0, port := 8148, phy := 0, allow := [(0xA9FE0000, 16)] }
  s.report 0xF805 0 0 []

/-- The MGMT section of a slot. -/
def State.mgmtOf (s : State) (k : Nat) : Option (List Byte) :=
  match s.slotSects k with
  | some l => (l.find? fun x => x.typ == 0x14).map (s.sectBytes k)
  | none => none

/-- The agent takes its settings from a slot, or falls back. -/
def State.mgmtFrom (s : State) (k : Option Nat) : State :=
  match k.bind s.mgmtOf with
  | some l => if mgmtOk l then s.mgmtTake l else s.mgmtFallback
  | none => s.mgmtFallback

/-- The slot that the ROM agent takes settings from: the first, in the order of preference, that passes CRC. -/
def State.romSlot (s : State) : Option Nat :=
  (s.slotOrder 0).find? fun k => (s.slotSects k).isSome && s.slotCrcOk k

/-- An agent starts serving (R530, R531): 1 the ROM's, 2 firmware's. -/
def State.agentUp (s : State) (a : Nat) : State := (s.sf F.MGT_STATUS_AGENT a).report 0xF801 0 0 [a]

/-! ## Safe-Talk (R510) -/

/-- A block is gated without a reset of its own. -/
def State.gateOnly (s : State) (b : Nat) : State :=
  if s.gb (F.CGU_CLKEN_EN b) then
    let s := (s.sb (F.CGU_CLKEN_EN b) false).sb (F.CGU_CLKEN_ACTIVE b) false
    (islandsOf b).foldl (fun s i => s.bringDown i) s
  else s

/-- The device enters Safe-Talk: only the host ports and the always-clocked blocks stay enabled, the lanes idle, HOLD clears on both ports. -/
def State.enterSafeTalk (s : State) : State :=
  let s := (s.sf F.RST_STATE_PSTATE 3).report 0xFC03 4 0 []
  let s := (List.range 256).foldl (fun s b => if assignedBlock b && !alwaysClocked b && b != 0x10 && b != 0x11 then s.gateOnly b else s) s
  let s := [0x10, 0x11].foldl (fun s b => (s.sb (F.CGU_CLKEN_EN b) true).blockActive b) s
  ((s.emit (.pin "SERDES_IDLE" true)).sb (F.HP_LINKCFG_HOLD 0) false).sb (F.HP_LINKCFG_HOLD 1) false |>.pllRefresh

/-- Safe-Talk with the ROM agent: no firmware runs. -/
def State.romTalk (s : State) : State :=
  (((s.enterSafeTalk).mgmtFrom s.romSlot).agentUp 1).modMgt fun g => { g with boot := 0 }

/-! ## The ROM (R499, R505 to R509) -/

/-- The boot record, held until now, is written with the slot booted (R506). -/
def State.writeBoot (s : State) (slot : Nat) : State :=
  match s.rst.bootRec with
  | some (st, warm, noHist) => (s.modRst fun r => { r with bootRec := none }).bootRecord st warm noHist slot
  | none => s

/-- The ROM has chosen: tests 2 and 3 take their results. A slot that passed CRC and failed SIG fails test 3, when none is booted (log entry 56). -/
def State.romChosen (s : State) (slot : Option Nat) : State :=
  let sig := [0, 1].any fun k => s.gf (if k = 0 then F.CFS_STAT_STATEA else F.CFS_STAT_STATEB) == 3
  match slot with
  | some k => ((((s.testDone 2 none).testDone 3 none).sf F.CFS_STAT_BOOTED k).writeBoot k).modMgt fun g => { g with boot := 3 }
  | none =>
    let s := if sig then (s.testDone 2 none).testDone 3 (some (0xFC00, 1)) else s.testDone 2 (some (0xFC00, 1))
    (s.writeBoot 0xFF).romTalk

/-- The ROM after a power-on or warm reset: tests 0 and 1, the choice, and the firmware or Safe-Talk. -/
def State.romStart (s : State) (fails : List (Nat × Nat × Nat)) : State :=
  let s := ((s.wrN R.CFS_TESTRES 0).sf F.CFS_STAT_BOOTED 3).sf F.CFS_STAT_STATEA 0
  let s := (s.sf F.CFS_STAT_STATEB 0)
  let s := (s.runTest fails 0).runTest fails 1
  if s.testRes 0 ≠ 1 || s.testRes 1 ≠ 1 then (s.writeBoot 0xFF).romTalk
  else if 2 ≤ s.gf F.CFS_STAT_BOOTSEL then s.romChosen none
  else
    let s := s.readHeaders
    let (k, s) := s.chooseSlot (s.slotOrder (s.gf F.CFS_STAT_BOOTSEL))
    s.romChosen k

/-- Skylark firmware of the booted slot still verifies (R506). -/
def State.bootedOk (s : State) : Bool :=
  let k := s.gf F.CFS_STAT_BOOTED
  k ≤ 1 && (match s.slotSects k with
    | some l => (l.filter fun x => x.typ == 1).all fun x => s.imageOk (s.sectBytes k x)
    | none => false)

/-- The ROM after a management reset: no self-test, no section applied (R506). -/
def State.romAgain (s : State) : State :=
  let s := s.modMgt fun g => { g with boot := 0 }
  if s.bootedOk then ((s.mgmtFrom (some (s.gf F.CFS_STAT_BOOTED))).agentUp 2).sb F.TOP_MASTERS_MGTUP true
  else (s.mgmtFrom s.romSlot).agentUp 1

/-- ROM_BOOT (R505 to R509): once SYS runs. `fails` lists the tests that the hardware fails. -/
def execRomBoot (fails : List (Nat × Nat × Nat)) (s : State) : Outcome :=
  .next (if !s.runs 1 then s
    else if s.mgt.boot = 1 && s.gf F.RST_STATE_PSTATE == 0 then s.romStart fails
    else if s.mgt.boot = 2 then s.romAgain
    else s)

end Sys2Proof.Machine
end

