-- ==== Sys2Proof/Machine/Cfs.lean ====
section
/-! DEFINITION. The configuration store's sessions and commands (R511 to R517). -/

namespace Sys2Proof.Machine

/-- Who issues a command, as CFS_CMD.OWNER numbers it (R516): Skylark, a PF0, or a recovery function. -/
def State.cfsIssuer (s : State) : Master → Nat
  | .host p _ => if s.gf F.RST_STATE_PSTATE = 3 then 4 + p.val else 2 + p.val
  | _ => 1

/-- A command ends with a status (R514): BUSY clears, and vector 0 is sent for a recovery function (R511). -/
def State.cfsFinish (s : State) (code st : Nat) : State :=
  let s := ((s.sf F.CFS_CMD_STATUS st).sb F.CFS_CMD_BUSY false).modCfs fun c => { c with op := none }
  if 4 ≤ code then s.sendMsix (code - 4) 0 0 else s

/-- A command goes on with flash or eFuse: BUSY reads 1 until it is done (R515). -/
def State.cfsStart (s : State) (op code : Nat) : State :=
  (s.sb F.CFS_CMD_BUSY true).modCfs fun c => { c with op := some (op, code) }

/-- The issuer owns the session: the master, and for a management command its binding and source (R512, R526). -/
def State.cfsOwns (s : State) (code : Nat) (client : Option (Nat × Nat)) : Bool := s.gf F.CFS_CMD_OWNER == code && s.cfs.client == client

/-- No other master owns a session. -/
def State.cfsFree (s : State) (code : Nat) (client : Option (Nat × Nat)) : Bool := s.gf F.CFS_CMD_OWNER == 0 || s.cfsOwns code client

/-- The target slot (R513). -/
def State.targetSlot (s : State) : Nat :=
  match s.gf F.CFS_STAT_BOOTED with
  | 0 => 1
  | 1 => 0
  | _ => if s.slotState 0 ≠ 4 then 0 else if s.slotState 1 ≠ 4 then 1 else if later (s.slotSeq 0) (s.slotSeq 1) then 1 else 0

/-- OPEN (R513). -/
def State.cfsOpen (s : State) (code : Nat) (client : Option (Nat × Nat)) : State :=
  let n := s.rdN R.CFS_ARG
  if !s.cfsFree code client then s.cfsFinish code 1
  else if n < 192 || 31457280 < n || n % 64 ≠ 0 then s.cfsFinish code 2
  else
    let t := s.targetSlot
    ((s.sf F.CFS_CMD_OWNER code).modCfs fun c => { c with client, len := n, next := 0, hdr := [], target := t }).cfsStart 1 code

/-- WRITE (R513). -/
def State.cfsWrite (s : State) (code : Nat) (client : Option (Nat × Nat)) : State :=
  let a := s.rdN R.CFS_ARG2
  let n := a % 2 ^ 15
  if !s.cfsOwns code client then s.cfsFinish code 1
  else if s.rdN R.CFS_ARG ≠ s.cfs.next || a ≠ n || n < 64 || 16384 < n || n % 64 ≠ 0 || s.cfs.len < s.cfs.next + n then s.cfsFinish code 2
  else s.cfsStart 2 code

/-- A refused CLOSE ends the session and is logged (R514). -/
def State.closeRefused (s : State) (code st : Nat) : State := ((s.cfsFinish code st).cfsEnd).report 0xFC05 0 0 []

/-- CLOSE (R513). -/
def State.cfsClose (s : State) (code : Nat) (client : Option (Nat × Nat)) : State :=
  if !s.cfsOwns code client then s.cfsFinish code 1
  else if s.cfs.next ≠ s.cfs.len then s.closeRefused code 2
  else s.cfsStart 3 code

/-- ABORT (R512, R526): by the owner, or by Skylark. -/
def State.cfsAbort (s : State) (code : Nat) : State :=
  let o := s.gf F.CFS_CMD_OWNER
  if o = 0 || (o ≠ code && code ≠ 1) then s.cfsFinish code 1 else (s.cfsFinish code 0).cfsEnd

/-- Bytes into CFS_WBUF from its start; a last word that they fill in part keeps its other bytes. -/
def State.toWbuf (s : State) (l : List Byte) : State :=
  let n := l.length
  let tail := (leBytes 4 (s.rdN (R.CFS_WBUF (n / 4)))).drop (n % 4)
  s.wrWords (R.CFS_WBUF 0) (wordsOf (if n % 4 = 0 then l else l ++ tail))

/-- The first bytes of CFS_WBUF. -/
def State.wbuf (s : State) (n : Nat) : List Byte := ((List.range ((n + 3) / 4)).flatMap fun w => leBytes 4 (s.rdN (R.CFS_WBUF w))).take n

/-- READ (R513). -/
def State.cfsRead (s : State) (code : Nat) (client : Option (Nat × Nat)) : State :=
  let a := s.rdN R.CFS_ARG2
  let n := a % 2 ^ 15
  let o := s.rdN R.CFS_ARG
  if !s.cfsFree code client then s.cfsFinish code 1
  else if bitsOf a 15 16 ≠ 0 || 16384 < n || 31457280 < o + n then s.cfsFinish code 2
  else (s.toWbuf (s.flashRead (slotBase (a / 2 ^ 31) + o) n)).cfsFinish code 0

/-- BURNSVN (R513, R514): Skylark only. -/
def State.cfsBurn (s : State) (code : Nat) (client : Option (Nat × Nat)) : State :=
  if code ≠ 1 then s.cfsFinish code 8
  else if !s.cfsFree code client then s.cfsFinish code 1
  else s.cfsStart 6 code

/-- A GO with an OP (R513, R514): ignored while BUSY. -/
def State.cfsGo (s : State) (code : Nat) (client : Option (Nat × Nat)) (op : Nat) : State :=
  let s := s.sf F.CFS_CMD_OP op
  if s.gb F.CFS_CMD_BUSY then s else
  match op with
  | 1 => s.cfsOpen code client
  | 2 => s.cfsWrite code client
  | 3 => s.cfsClose code client
  | 4 => s.cfsAbort code
  | 5 => s.cfsRead code client
  | 6 => s.cfsBurn code client
  | _ => s.cfsFinish code 8

/-- A master's write of CFS_CMD with GO. -/
def State.cfsCmd (s : State) (m : Master) (op : Nat) : State := s.asWriter m R.CFS_CMD fun s => s.cfsGo (s.cfsIssuer m) none op

def execCfsOpen (m : Master) (s : State) : Outcome := .next (s.cfsCmd m 1)
def execCfsWrite (m : Master) (s : State) : Outcome := .next (s.cfsCmd m 2)
def execCfsClose (m : Master) (s : State) : Outcome := .next (s.cfsCmd m 3)
def execCfsAbort (m : Master) (s : State) : Outcome := .next (s.cfsCmd m 4)
def execCfsRead (m : Master) (s : State) : Outcome := .next (s.cfsCmd m 5)
def execBurnsvn (m : Master) (s : State) : Outcome := .next (s.cfsCmd m 6)

/-! ## Completion (R514, R515) -/

/-- A flash failure (R514). -/
def State.flashFault (s : State) (code : Nat) : State := (s.report 0xFC06 2 0 []).cfsFinish code 7

/-- The sectors that an OPEN covers are erased. -/
def State.openDone (s : State) (code : Nat) : State :=
  (s.flashErase (slotBase s.cfs.target) ((s.cfs.len + 65535) / 65536 * 65536)).cfsFinish code 0

/-- The bytes of a WRITE are programmed; the header's are held (R513). -/
def State.writeDone (s : State) (code : Nat) : State :=
  let n := s.rdN R.CFS_ARG2 % 2 ^ 15
  let l := s.wbuf n
  let o := s.cfs.next
  let s := if o = 0 then (s.flashWrite (slotBase s.cfs.target + 64) (l.drop 64)).modCfs fun c => { c with hdr := l.take 64 }
    else s.flashWrite (slotBase s.cfs.target + o) l
  (s.modCfs fun c => { c with next := o + n }).cfsFinish code 0

/-- The bytes of the slot being written, with its held header. -/
def State.newSlot (s : State) (o n : Nat) : List Byte :=
  if o + n ≤ 64 then (s.cfs.hdr.drop o).take n
  else if 64 ≤ o then s.flashRead (slotBase s.cfs.target + o) n
  else s.cfs.hdr.drop o ++ s.flashRead (slotBase s.cfs.target + 64) (o + n - 64)

/-- The status of a CLOSE (R504, R513): 4 HEADER, 3 CRC, 6 SIGNATURE, 5 SEQ, or 0. -/
def State.closeStatus (s : State) : Nat :=
  let n := s.cfs.len - 64
  match checkHeader s.cfs.hdr s.newSlot with
  | none => 4
  | some l =>
    if ofLe ((s.cfs.hdr.drop 12).take 4) + 128 ≠ s.cfs.len then 4
    else if ofLe (s.newSlot n 4) ≠ crc32c (s.newSlot 0 n) then 3
    else if !s.imagesOk (fun x => s.newSlot x.off x.len) l then 6
    else if s.slotState (1 - s.cfs.target) = 4 && !later (ofLe ((s.cfs.hdr.drop 8).take 4)) (s.slotSeq (1 - s.cfs.target)) then 5
    else 0

/-- A CLOSE has been judged: the header is programmed last, or the slot is refused. -/
def State.closeDone (s : State) (code : Nat) : State :=
  match s.closeStatus with
  | 0 => (((s.flashWrite (slotBase s.cfs.target) s.cfs.hdr).cfsFinish code 0).cfsEnd).report 0xFC04 0 0 []
  | st => s.closeRefused code st

/-- The security version of the booted firmware. -/
def State.bootedSvn (s : State) : Nat :=
  let k := s.gf F.CFS_STAT_BOOTED
  match (if k ≤ 1 then s.slotSects k else none) with
  | some l => match l.find? fun x => x.typ == 1 with
    | some x => s.slotLe k (x.off + 12) 1
    | none => 0
  | none => 0

/-- BURNSVN is done: MINSVN is raised, never lowered. -/
def State.burnDone (s : State) (code : Nat) : State :=
  { s with fuse := { s.fuse with minsvn := max s.fuse.minsvn s.bootedSvn } }.cfsFinish code 0

/-- The flash operation of a command fails: an OPEN opens nothing, and a CLOSE ends the session (R514). -/
def State.opFailed (s : State) (op code : Nat) : State :=
  if op = 1 then (s.flashFault code).cfsEnd else if op = 3 then ((s.flashFault code).cfsEnd).report 0xFC05 0 0 [] else s.flashFault code

/-- The command in progress finishes; `ok` says whether flash and eFuse took it. Nothing finishes once PORN has fallen (R547). -/
def State.cfsDone (s : State) (ok : Bool) : State :=
  match s.cfs.op, s.cfs.held with
  | some (op, code), false =>
    if !ok then s.opFailed op code else
    match op with
    | 1 => s.openDone code
    | 2 => s.writeDone code
    | 3 => s.closeDone code
    | _ => s.burnDone code
  | _, _ => s

/-! ## WARMREQ (R511) -/

/-- A write of 1 to CFS_CTL.WARMREQ: a warm reset by Skylark in Safe-Talk, dropped and logged otherwise. -/
def State.warmReq (s : State) (m : Master) : State := if s.safeTalk then s.warmReset 2 else s.cfgViol m R.CFS_CTL

/-- WARMREQ (R511). -/
def execWarmreq (m : Master) (s : State) : Outcome := .next (s.asWriter m R.CFS_CTL fun s => s.warmReq m)

end Sys2Proof.Machine
end

