-- ==== Sys2Proof/Machine/EngAlu.lean ====
section
/-! DEFINITION. The Abapin instructions that touch no memory: arithmetic, branches, jumps, traps, STAMP and CSRR (R316, R317, R327, R328, R330). -/

namespace Sys2Proof.Machine

/-! ## Arithmetic (R316, R317) -/

/-- A register instruction: `rd` receives `f` of `ra` and `rb`. -/
def State.alu (s : State) (t : Nat) (fn : Nat) (rd ra rb : Fin 32) (f : DWord → DWord → DWord) : State :=
  s.issues t (encR 0 rd ra rb fn) fun s => let x := s.thread t; s.ends t rd (f (x.g ra) (x.g rb))

/-- An immediate instruction: `rd` receives `f` of `ra`. -/
def State.aluI (s : State) (t : Nat) (op : Nat) (rd ra : Fin 32) (imm : BitVec 16) (f : DWord → DWord) : State :=
  s.issues t (encI op rd ra imm) fun s => s.ends t rd (f ((s.thread t).g ra))

/-- 1 for true and 0 for false. -/
def flag (b : Bool) : DWord := if b then 1 else 0

/-- The number of leading zero bits (R317). -/
def clz (v : DWord) : Nat := ((List.range 64).find? fun i => v.getLsbD (63 - i)).getD 64

/-- The number of 1 bits (R317). -/
def popcount (v : DWord) : Nat := ((List.range 64).filter fun i => v.getLsbD i).length

/-- A lane of 16 bits replaced (R316). -/
def putLane (v : DWord) (k : Nat) (imm : BitVec 16) : DWord := dword (putBits v.toNat (16 * k) 16 imm.toNat)

def execAdd (t : Fin 8192) (rd : Fin 32) (ra : Fin 32) (rb : Fin 32) (s : State) : Outcome := .next (s.alu t 0x000 rd ra rb fun a b => a + b)

def execSub (t : Fin 8192) (rd : Fin 32) (ra : Fin 32) (rb : Fin 32) (s : State) : Outcome := .next (s.alu t 0x001 rd ra rb fun a b => a - b)

def execAnd (t : Fin 8192) (rd : Fin 32) (ra : Fin 32) (rb : Fin 32) (s : State) : Outcome := .next (s.alu t 0x002 rd ra rb fun a b => a &&& b)

def execOr (t : Fin 8192) (rd : Fin 32) (ra : Fin 32) (rb : Fin 32) (s : State) : Outcome := .next (s.alu t 0x003 rd ra rb fun a b => a ||| b)

def execXor (t : Fin 8192) (rd : Fin 32) (ra : Fin 32) (rb : Fin 32) (s : State) : Outcome := .next (s.alu t 0x004 rd ra rb fun a b => a ^^^ b)

def execSll (t : Fin 8192) (rd : Fin 32) (ra : Fin 32) (rb : Fin 32) (s : State) : Outcome := .next (s.alu t 0x005 rd ra rb fun a b => a <<< (b.toNat % 64))

def execSrl (t : Fin 8192) (rd : Fin 32) (ra : Fin 32) (rb : Fin 32) (s : State) : Outcome := .next (s.alu t 0x006 rd ra rb fun a b => a >>> (b.toNat % 64))

def execSra (t : Fin 8192) (rd : Fin 32) (ra : Fin 32) (rb : Fin 32) (s : State) : Outcome := .next (s.alu t 0x007 rd ra rb fun a b => a.sshiftRight (b.toNat % 64))

def execRotl (t : Fin 8192) (rd : Fin 32) (ra : Fin 32) (rb : Fin 32) (s : State) : Outcome := .next (s.alu t 0x008 rd ra rb fun a b => a.rotateLeft (b.toNat % 64))

def execMul (t : Fin 8192) (rd : Fin 32) (ra : Fin 32) (rb : Fin 32) (s : State) : Outcome := .next (s.alu t 0x009 rd ra rb fun a b => a * b)

def execMulhu (t : Fin 8192) (rd : Fin 32) (ra : Fin 32) (rb : Fin 32) (s : State) : Outcome := .next (s.alu t 0x00A rd ra rb fun a b => dword (a.toNat * b.toNat / 2 ^ 64))

def execDivu (t : Fin 8192) (rd : Fin 32) (ra : Fin 32) (rb : Fin 32) (s : State) : Outcome := .next (s.alu t 0x00B rd ra rb fun a b => if b = 0 then BitVec.allOnes 64 else a / b)

def execRemu (t : Fin 8192) (rd : Fin 32) (ra : Fin 32) (rb : Fin 32) (s : State) : Outcome := .next (s.alu t 0x00C rd ra rb fun a b => if b = 0 then a else a % b)

def execSltu (t : Fin 8192) (rd : Fin 32) (ra : Fin 32) (rb : Fin 32) (s : State) : Outcome := .next (s.alu t 0x00D rd ra rb fun a b => flag (a.ult b))

def execSlt (t : Fin 8192) (rd : Fin 32) (ra : Fin 32) (rb : Fin 32) (s : State) : Outcome := .next (s.alu t 0x00E rd ra rb fun a b => flag (a.slt b))

def execCrc32c (t : Fin 8192) (rd : Fin 32) (ra : Fin 32) (rb : Fin 32) (s : State) : Outcome := .next (s.alu t 0x00F rd ra rb fun a b => dword (crcStep (a.toNat % 2 ^ 32) (leBytes 8 b.toNat)))

def execBswap (t : Fin 8192) (rd : Fin 32) (ra : Fin 32) (s : State) : Outcome := .next (s.alu t 0x010 rd ra 0 fun a _ => dword (ofLe (leBytes 8 a.toNat).reverse))

def execClz (t : Fin 8192) (rd : Fin 32) (ra : Fin 32) (s : State) : Outcome := .next (s.alu t 0x011 rd ra 0 fun a _ => dword (clz a))

def execPopcnt (t : Fin 8192) (rd : Fin 32) (ra : Fin 32) (s : State) : Outcome := .next (s.alu t 0x012 rd ra 0 fun a _ => dword (popcount a))

def execAddi (t : Fin 8192) (rd : Fin 32) (ra : Fin 32) (imm : BitVec 16) (s : State) : Outcome := .next (s.aluI t 0x01 rd ra imm fun a => a + imm.signExtend 64)

def execAndi (t : Fin 8192) (rd : Fin 32) (ra : Fin 32) (imm : BitVec 16) (s : State) : Outcome := .next (s.aluI t 0x02 rd ra imm fun a => a &&& imm.zeroExtend 64)

def execOri (t : Fin 8192) (rd : Fin 32) (ra : Fin 32) (imm : BitVec 16) (s : State) : Outcome := .next (s.aluI t 0x03 rd ra imm fun a => a ||| imm.zeroExtend 64)

def execXori (t : Fin 8192) (rd : Fin 32) (ra : Fin 32) (imm : BitVec 16) (s : State) : Outcome := .next (s.aluI t 0x04 rd ra imm fun a => a ^^^ imm.zeroExtend 64)

def execSltui (t : Fin 8192) (rd : Fin 32) (ra : Fin 32) (imm : BitVec 16) (s : State) : Outcome := .next (s.aluI t 0x08 rd ra imm fun a => flag (a.ult (imm.signExtend 64)))

def execSlti (t : Fin 8192) (rd : Fin 32) (ra : Fin 32) (imm : BitVec 16) (s : State) : Outcome := .next (s.aluI t 0x09 rd ra imm fun a => flag (a.slt (imm.signExtend 64)))

def execPuth0 (t : Fin 8192) (rd : Fin 32) (ra : Fin 32) (imm : BitVec 16) (s : State) : Outcome := .next (s.aluI t 0x0A rd ra imm fun a => putLane a 0 imm)

def execPuth1 (t : Fin 8192) (rd : Fin 32) (ra : Fin 32) (imm : BitVec 16) (s : State) : Outcome := .next (s.aluI t 0x0B rd ra imm fun a => putLane a 1 imm)

def execPuth2 (t : Fin 8192) (rd : Fin 32) (ra : Fin 32) (imm : BitVec 16) (s : State) : Outcome := .next (s.aluI t 0x0C rd ra imm fun a => putLane a 2 imm)

def execPuth3 (t : Fin 8192) (rd : Fin 32) (ra : Fin 32) (imm : BitVec 16) (s : State) : Outcome := .next (s.aluI t 0x0D rd ra imm fun a => putLane a 3 imm)

def execSlli (t : Fin 8192) (rd : Fin 32) (ra : Fin 32) (sh : Fin 64) (s : State) : Outcome := .next (s.aluI t 0x05 rd ra (BitVec.ofNat 16 sh) fun a => a <<< sh.val)

def execSrli (t : Fin 8192) (rd : Fin 32) (ra : Fin 32) (sh : Fin 64) (s : State) : Outcome := .next (s.aluI t 0x06 rd ra (BitVec.ofNat 16 sh) fun a => a >>> sh.val)

def execSrai (t : Fin 8192) (rd : Fin 32) (ra : Fin 32) (sh : Fin 64) (s : State) : Outcome := .next (s.aluI t 0x07 rd ra (BitVec.ofNat 16 sh) fun a => a.sshiftRight sh.val)

/-! ## Branches and jumps (R316) -/

/-- A pc moved by a signed number of words, modulo 2^32. -/
def pcPlus (pc : Nat) (words : Int) : Nat := (((pc : Int) + 4 * words) % 2 ^ 32).toNat

/-- A branch: the thread goes on at the target if `f` holds of `ra` and `rb`, and else at the next instruction. -/
def State.branch (s : State) (t : Nat) (op : Nat) (ra rb : Fin 32) (off : BitVec 16) (f : DWord → DWord → Bool) : State :=
  s.issues t (encI op ra rb off) fun s =>
    let x := s.thread t
    s.setThread t (x.goes (if f (x.g ra) (x.g rb) then pcPlus x.pc off.toInt else x.pc + 4))

def execBeq (t : Fin 8192) (ra : Fin 32) (rb : Fin 32) (off : BitVec 16) (s : State) : Outcome := .next (s.branch t 0x20 ra rb off fun a b => a == b)

def execBne (t : Fin 8192) (ra : Fin 32) (rb : Fin 32) (off : BitVec 16) (s : State) : Outcome := .next (s.branch t 0x21 ra rb off fun a b => a != b)

def execBlt (t : Fin 8192) (ra : Fin 32) (rb : Fin 32) (off : BitVec 16) (s : State) : Outcome := .next (s.branch t 0x22 ra rb off fun a b => a.slt b)

def execBge (t : Fin 8192) (ra : Fin 32) (rb : Fin 32) (off : BitVec 16) (s : State) : Outcome := .next (s.branch t 0x23 ra rb off fun a b => !a.slt b)

def execBltu (t : Fin 8192) (ra : Fin 32) (rb : Fin 32) (off : BitVec 16) (s : State) : Outcome := .next (s.branch t 0x24 ra rb off fun a b => a.ult b)

def execBgeu (t : Fin 8192) (ra : Fin 32) (rb : Fin 32) (off : BitVec 16) (s : State) : Outcome := .next (s.branch t 0x25 ra rb off fun a b => !a.ult b)

/-- J (R316). -/
def State.jump (s : State) (t : Nat) (off : BitVec 26) : State :=
  s.issues t (encJ 0x28 off) fun s => let x := s.thread t; s.setThread t (x.goes (pcPlus x.pc off.toInt))

def execJ (t : Fin 8192) (off : BitVec 26) (s : State) : Outcome := .next (s.jump t off)

/-- JAL (R316): the link goes to g31. -/
def State.jumpLink (s : State) (t : Nat) (off : BitVec 26) : State :=
  s.issues t (encJ 0x29 off) fun s =>
    let x := s.thread t; s.setThread t ((x.setG 31 (dword (x.pc + 4))).goes (pcPlus x.pc off.toInt))

def execJal (t : Fin 8192) (off : BitVec 26) (s : State) : Outcome := .next (s.jumpLink t off)

/-- JALR (R316): a target with bits [1:0] or [63:32] nonzero raises PCFAULT here. -/
def State.jumpReg (s : State) (t : Nat) (rd ra : Fin 32) (imm : BitVec 16) : State :=
  let word := encI 0x2A rd ra imm
  s.issues t word fun s =>
    let x := s.thread t
    let a := (x.g ra + (imm.signExtend 64) * 4).toNat
    if a % 4 ≠ 0 || 2 ^ 32 ≤ a then s.raise t word { code := 5, addr := a }
    else s.setThread t ((x.setG rd (dword (x.pc + 4))).goes a)

def execJalr (t : Fin 8192) (rd : Fin 32) (ra : Fin 32) (imm : BitVec 16) (s : State) : Outcome := .next (s.jumpReg t rd ra imm)

/-! ## FENCE, TRAP, BRK and refused words (R323, R330, R354) -/

/-- FENCE (R323): every access of this model has taken effect when its command ends, so the thread goes on. -/
def State.fence (s : State) (t : Nat) : State :=
  s.issues t (encI 0x2C 0 0 0) fun s => let x := s.thread t; s.setThread t (x.goes (x.pc + 4))

def execFence (t : Fin 8192) (s : State) : Outcome := .next (s.fence t)

/-- TRAP and BRK raise their exceptions with imm16 (R316, R330). -/
def State.trap (s : State) (t : Nat) (op code : Nat) (imm : BitVec 16) : State :=
  s.issues t (encI op 0 0 imm) fun s => s.raise t (encI op 0 0 imm) { code, imm := imm.toNat }

def execTrap (t : Fin 8192) (imm : BitVec 16) (s : State) : Outcome := .next (s.trap t 0x2D 8 imm)

def execBrk (t : Fin 8192) (imm : BitVec 16) (s : State) : Outcome := .next (s.trap t 0x2E 9 imm)

/-- ILLEGAL (R330): the word fetched is no instruction. -/
def State.illegal (s : State) (t : Nat) (w : Word) : State :=
  if legalWord w.toNat then s else s.issues t w.toNat fun s => s.raise t w.toNat { code := 1 }

def execIllegal (t : Fin 8192) (w : Word) (s : State) : Outcome := .next (s.illegal t w)

/-- PCFAULT (R330, R331, R340): a thread about to fetch has a pc outside the code image. -/
def State.pcFault (s : State) (t : Nat) : State :=
  let pc := (s.thread t).pc
  if s.mayIssue t && !s.pcOk t pc then (s.stepUsed t).raise t 0 { code := 5 } else s

def execPcfault (t : Fin 8192) (s : State) : Outcome := .next (s.pcFault t)

/-! ## STAMP and CSRR (R327, R328) -/

/-- STAMP (R328). -/
def State.stampInstr (s : State) (t : Nat) (rd : Fin 32) : State :=
  let word := encX rd 0 0 0x00 0
  s.issues t word fun s =>
    if rd.val % 2 = 1 || rd.val = 0 then s.raise t word { code := 1 } else
    let (st, s) := s.engStamp (swardOf t)
    let x := s.thread t
    let y := (x.setG rd (dword (shortOf st.time))).setG (rd.val + 1) (dword (st.bound + st.domain * 2 ^ 16 + st.seq * 2 ^ 32))
    s.setThread t (y.goes (x.pc + 4))

def execStamp (t : Fin 8192) (rd : Fin 32) (s : State) : Outcome := .next (s.stampInstr t rd)

/-- Engine cycles of 0.625 ns since the sward's last reset (R12, R327). -/
def State.cycles (s : State) (w : Nat) : Nat := (s.now - tabGet (fun _ => 0) s.eng.resetAt w) * 8 / 5

/-- The thread register that CSRR reads (R327). -/
def State.csr (s : State) (t i : Nat) : Option DWord :=
  let x := s.thread t
  match i with
  | 0 => some (dword t)
  | 1 => some (dword (s.cycles (swardOf t)))
  | 2 => some (dword x.retired)
  | 3 => some (dword (x.pend % 2 ^ 32))
  | 4 => some x.arg
  | _ => none

/-- CSRR (R327). -/
def State.csrRead (s : State) (t : Nat) (rd i : Fin 32) : State :=
  let word := encX rd 0 0 0x01 i
  s.issues t word fun s =>
    match s.csr t i with
    | some v => s.ends t rd v
    | none => s.raise t word { code := 1 }

def execCsrr (t : Fin 8192) (rd : Fin 32) (i : Fin 32) (s : State) : Outcome := .next (s.csrRead t rd i)

end Sys2Proof.Machine
end

