-- ==== Sys2Proof/Machine/Fnm.lean ====
section
/-! DEFINITION. Tenants: their creation and end, VFs, dirty logs, quiescing, and saving and restoring (R282 to R310). -/

namespace Sys2Proof.Machine

/-! ## Commands and their arguments (R286 to R288) -/

/-- Every argument word from `k` on is 0. -/
def zeroFrom (x : CmdCtx) (k : Nat) : Bool := (List.range (16 - k)).all fun i => x.arg (k + i) == 0

/-- What refuses a command that names a tenant in word 5, in the order reserved bits, tenant, home port, state. -/
def State.tenantErr (s : State) (x : CmdCtx) (ok : List Nat) (k : Nat) : Option Nat :=
  let t := x.arg 5 % 1024
  if x.arg 5 &&& 0xFF00FC00 ≠ 0 || !zeroFrom x k then some 0x81
  else if s.gf (F.FNM_TSTAT_STATE t) = 0 || bitsOf (x.arg 5) 16 8 ≠ s.gf (F.FNM_TSTAT_TGEN t) then some 0x91
  else if s.gf (F.FNM_TSTAT_PORT t) ≠ x.port then some 0x82
  else if !ok.contains (s.gf (F.FNM_TSTAT_STATE t)) then some 0x84
  else none

/-- A command on a tenant in one of the states `ok`, its words from `k` on being 0. -/
def State.onTenant (s : State) (x : CmdCtx) (ok : List Nat) (k : Nat) (f : Nat → CmdRes) : CmdRes :=
  match s.tenantErr x ok k with
  | some e => refused s e
  | none => f (x.arg 5 % 1024)

/-- An event of FNM about a tenant of port `p`. -/
def State.fnmReport (s : State) (code : Nat) : State := s.report code 0 0 []

/-- The argument words 6 to 15 of a tenant break R288; `w` reads word 6 at 0. -/
def tenantBad (w : Nat → Nat) : Bool :=
  let base := bitsOf (w 1) 0 14
  let cnt := bitsOf (w 1) 14 15
  decide (129016 < w 0) || w 1 / 2 ^ 29 != 0 || cnt == 0 || decide (16384 < base + cnt) || decide (16793600 < w 3) || decide (2097152 < w 4) ||
    decide (1048576 < w 5) || bitsOf (w 6) 0 15 == 0 || decide (16384 < bitsOf (w 6) 0 15) || bitAt (w 6) 15 || w 6 / 2 ^ 26 != 0 ||
    decide (2000000 < w 7) || w 8 / 2 ^ 24 != 0 || w 9 / 2 ^ 9 != 0

/-- Argument words 6 to 15 of a command. -/
def tenantWords (x : CmdCtx) : List Nat := (List.range 10).map fun k => x.arg (6 + k)

/-- A tenant's queue sets as (first, count). -/
def setRange (args : List Nat) : Nat × Nat := (bitsOf (args.getD 1 0) 0 14, bitsOf (args.getD 1 0) 14 15)

/-- The four pooled quantities of a tenant (R285): pool index and amount. -/
def poolAmounts (args : List Nat) : List (Nat × Nat) := [(1, args.getD 2 0), (2, args.getD 3 0), (3, args.getD 4 0), (4, args.getD 5 0)]

/-- A change of a tenant's quotas would take a pool above its limit. -/
def State.poolOver (s : State) (p : Nat) (old new : List Nat) : Bool :=
  (poolAmounts new).any fun e =>
    let o := ((poolAmounts old).find? fun x => x.1 == e.1).elim 0 (·.2)
    let lim := s.rdN (R.FNM_POOL p e.1)
    lim != 0 && decide (o < e.2) && decide (lim < s.rdN (R.FNM_POOLUSE p e.1) - o + e.2)

/-- A change of a tenant's quotas charged to its pools. -/
def State.poolMove (s : State) (p : Nat) (old new : List Nat) : State :=
  (poolAmounts new).foldl (fun s e =>
    let o := ((poolAmounts old).find? fun x => x.1 == e.1).elim 0 (·.2)
    s.wrN (R.FNM_POOLUSE p e.1) (s.rdN (R.FNM_POOLUSE p e.1) - o + e.2)) s

/-- The index of a tenant's node at L2 (R178, R283). -/
def tenantNode (p t : Nat) : Nat := t + 1024 * p

/-- What a tenant's arguments say of its node, and of its other quotas (R288, R289). -/
def State.tenantApply (s : State) (p t : Nat) (args : List Nat) : State :=
  let g (k : Nat) : Nat := args.getD k 0
  let old := s.node 2 (tenantNode p t)
  let w0 := 1 + bitsOf (g 9) 8 1 * 2 + max 1 (bitsOf (g 9) 0 8) * 4 + bitsOf (g 6) 22 4 * 2 ^ 16
  let s := s.setNode 2 (tenantNode p t) { old with w0, w1 := g 7, w2 := g 8 }
  ((s.sf (F.TBL_OWNER_LIMIT t) (g 3)).sf (F.BPM_QUOTA_LIMIT t) (g 2)).modTenant t fun x => { x with args }

/-! ## Creation, change and end (R288 to R292) -/

/-- A tenant that is not FREE holds a set of a range. -/
def State.setsTaken (s : State) (base cnt : Nat) : Bool :=
  (List.range 1024).any fun t => s.gf (F.FNM_TSTAT_STATE t) != 0 &&
    (let (b, c) := setRange (s.tenant t).args; decide (base < b + c) && decide (b < base + cnt))

/-- A set of a range holds frames. -/
def State.setsBusy (s : State) (base cnt : Nat) : Bool :=
  s.tmg.queues.any fun e => !e.2.frames.isEmpty && decide (base ≤ e.1 / 8) && decide (e.1 / 8 < base + cnt)

/-- The sets of a range under a tenant node (R289). -/
def State.giveSets (s : State) (node base cnt : Nat) : State :=
  (List.range cnt).foldl (fun s i =>
    let d := nodeDefault (2 ^ 20 + base + i)
    s.setNode 1 (base + i) { d with w0 := d.w0 + 1 + node * 2 ^ 16 }) s

/-- CREATE_TENANT (R283, R288, R289). -/
def State.createTenant (s : State) (x : CmdCtx) : CmdRes :=
  let t := x.arg 5
  let p := x.port
  let args := tenantWords x
  let (base, cnt) := setRange args
  if 1024 ≤ t || tenantBad (fun k => args.getD k 0) then refused s 0x81
  else if s.gf (F.FNM_TSTAT_STATE t) ≠ 0 then refused s 0x90
  else if s.setsTaken base cnt || s.setsBusy base cnt then refused s 0x93
  else if s.poolOver p [] args then refused (s.poolExhausted p 0) 0x92
  else
    let s := s.modTenant t fun _ => {}
    let s := ((s.poolMove p [] args).giveSets (tenantNode p t) base cnt).tenantApply p t args
    let s := (List.range 8).foldl (fun s k => s.wr64 (R.FNM_TCNT t k) 0) s
    let s := ((s.sf (F.FNM_TSTAT_STATE t) 1).sf (F.FNM_TSTAT_PORT t) p).sf (F.FNM_TSTAT_NVF t) 0
    { status := 0, st := s.fnmReport 0x2001, r0 := t + s.gf (F.FNM_TSTAT_TGEN t) * 2 ^ 16 }

def execCreateTenant (g : Fin 131072) (s : State) : Outcome := .next (s.commandNow g 0x10 State.createTenant)

/-- MODIFY_TENANT (R288, R290). -/
def State.modifyTenant (s : State) (x : CmdCtx) : CmdRes :=
  s.onTenant x [1, 2] 16 fun t =>
    let old := (s.tenant t).args
    let args := tenantWords x
    if tenantBad (fun k => args.getD k 0) || args.getD 1 0 ≠ old.getD 1 0 || bitsOf (args.getD 6 0) 22 4 ≠ bitsOf (old.getD 6 0) 22 4 then refused s 0x81
    else if s.poolOver x.port old args then refused (s.poolExhausted x.port 0) 0x92
    else { status := 0, st := (s.poolMove x.port old args).tenantApply x.port t args }

def execModifyTenant (g : Fin 131072) (s : State) : Outcome := .next (s.commandNow g 0x12 State.modifyTenant)

/-- DESTROY_TENANT (R291). -/
def execDestroyTenant (g : Fin 131072) (s : State) : Outcome :=
  .next (s.commandNow g 0x11 fun s x => s.onTenant x [1, 2] 6 fun t =>
    if s.gf (F.FNM_TSTAT_NVF t) ≠ 0 then refused s 0x93 else { status := 0, st := (s.tenantDestroying t).fnmReport 0x2002 })

/-- A node disabled, its PARENT at its reset value (R291). -/
def NodeSt.off (v : NodeSt) : NodeSt := { v with w0 := putBits (putBits v.w0 0 1 0) 16 11 0 }

/-- Everything a tenant held is returned, and its ID becomes FREE (R285, R291, R300). -/
def State.tenantFree (s : State) (t : Nat) : State :=
  let p := s.gf (F.FNM_TSTAT_PORT t)
  let args := (s.tenant t).args
  let (base, cnt) := setRange args
  let s := ((s.dirtyClose t).flushOwner t).2
  let s := (s.sec.sas.filter fun e => e.2.st ≠ 0 && e.2.owner == t).foldl (fun s e => s.setSa e.1 {}) s
  let s := (s.sec.xpts.filter fun e => e.2.st ≠ 0 && e.2.owner == t).foldl (fun s e => s.freeXpt e.1) s
  let s := (s.tmg.queues.filter fun e => decide (base ≤ e.1 / 8) && decide (e.1 / 8 < base + cnt)).foldl (fun s e => s.flushTmq e.1) s
  let s := (List.range cnt).foldl (fun s i => s.setNode 1 (base + i) (s.node 1 (base + i)).off) s
  let s := s.setNode 2 (tenantNode p t) (s.node 2 (tenantNode p t)).off
  let s := ((s.poolMove p args [0, 0, 0, 0, 0, 0]).sf (F.BPM_QUOTA_LIMIT t) 0).modTenant t fun _ => {}
  (s.sf (F.FNM_TSTAT_STATE t) 0).sf (F.FNM_TSTAT_TGEN t) (s.gf (F.FNM_TSTAT_TGEN t) + 1)

/-- TENANT_FREED (R284, R291): the background work of a tenant in DESTROYING is done. -/
def execTenantFreed (t : Fin 1024) (s : State) : Outcome := .next (s.inBlock 0x20 islSYS fun s => if s.gf (F.FNM_TSTAT_STATE t) = 3 then s.tenantFree t else s)

/-- The response of QUERY_TENANT (R292). -/
def State.tenantResp (s : State) (t : Nat) : List Nat :=
  let x := s.tenant t
  let (open_, full) := match x.dirty with | some d => (true, d.full) | none => (false, false)
  [t + s.gf (F.FNM_TSTAT_TGEN t) * 2 ^ 16] ++ ((List.range 10).map fun k => x.args.getD k 0) ++
    [s.gf (F.FNM_TSTAT_STATE t) + s.gf (F.FNM_TSTAT_NVF t) * 2 ^ 8 + b2n open_ * 2 ^ 16 + b2n full * 2 ^ 17,
     s.tenantQueues t, s.gf (F.TBL_OWNER_COUNT t), s.saCount t, s.xptOwned t]

/-- QUERY_TENANT (R292). -/
def execQueryTenant (g : Fin 131072) (s : State) : Outcome :=
  .next (s.commandNow g 0x13 fun s x => s.onTenant x [1, 2, 3] 6 fun t =>
    if x.arg 4 % 65536 < 64 then refused s 0x81 else { status := 0, st := s, resp := bytesOfWords (s.tenantResp t) })

/-! ## VFs and their queues (R293, R294) -/

/-- The attached VFs of a tenant as (slot, function), in slot order. -/
def State.vfsOf (s : State) (t : Nat) : List (Nat × Nat) :=
  let p := s.gf (F.FNM_TSTAT_PORT t)
  let l := ((List.range 512).filter fun v => s.gb (F.FNM_VFTEN_VALID p v) && s.gf (F.FNM_VFTEN_TENANT p v) == t).map fun v => (s.gf (F.FNM_VFTEN_SLOT p v), v + 2)
  l.mergeSort fun a b => decide (a.1 ≤ b.1)

/-- A function's queues that are not FREE, its admin queues left out. -/
def State.workQueues (s : State) (p f : Nat) : List Nat := (s.queuesOf p f).filter fun g => decide (2056 ≤ g)

/-- A function's FNGEN moves on (R293, R300). -/
def State.fngenUp (s : State) (p f : Nat) : State := s.setFn p f fun c => { c with fngen := (c.fngen + 1) % 256 }

/-- Word 6 of ATTACH_VF and DETACH_VF breaks its format. -/
def vfWordBad (x : CmdCtx) : Bool := x.arg 6 &&& 0xFFF0FE00 ≠ 0

/-- ATTACH_VF (R293). -/
def State.attachVf (s : State) (x : CmdCtx) : CmdRes :=
  s.onTenant x [1, 2] 7 fun t =>
    let p := x.port
    let v := bitsOf (x.arg 6) 0 9
    let slot := bitsOf (x.arg 6) 16 4
    if vfWordBad x || !(s.hp p).vfEn || decide ((s.hp p).numVfs ≤ v) then refused s 0x81
    else if s.gb (F.FNM_VFTEN_VALID p v) || (s.vfsOf t).any (fun e => e.1 == slot) || !(s.workQueues p (v + 2)).isEmpty then refused s 0x93
    else
      let s := ((s.wrN (R.FNM_VFTEN p v) (t + slot * 2 ^ 10 + 2 ^ 14)).sf (F.FNM_TSTAT_NVF t) (s.gf (F.FNM_TSTAT_NVF t) + 1)).fngenUp p (v + 2)
      { status := 0, st := s }

def execAttachVf (g : Fin 131072) (s : State) : Outcome := .next (s.commandNow g 0x14 State.attachVf)

/-- DETACH_VF (R293): a VF that does not lie in the slot named is BAD_ARG. -/
def State.detachVf (s : State) (x : CmdCtx) : CmdRes :=
  s.onTenant x [1, 2] 7 fun t =>
    let p := x.port
    let v := bitsOf (x.arg 6) 0 9
    if vfWordBad x || !(s.vfsOf t).contains (bitsOf (x.arg 6) 16 4, v + 2) then refused s 0x81
    else if !(s.workQueues p (v + 2)).isEmpty then refused s 0x93
    else { status := 0, st := ((s.wrN (R.FNM_VFTEN p v) 0).sf (F.FNM_TSTAT_NVF t) (s.gf (F.FNM_TSTAT_NVF t) - 1)).fngenUp p (v + 2) }

def execDetachVf (g : Fin 131072) (s : State) : Outcome := .next (s.commandNow g 0x15 State.detachVf)

/-- A HALTED queue that nothing is bound to passes to FREE. -/
def State.purgeOne (s : State) (g : Nat) : State :=
  let c := s.q g
  if c.st = 3 && c.xpt.isNone && (c.typ ≠ 2 || (s.boundTo g).isEmpty) then s.freeQueue g else s

/-- PURGE_QUEUES (R294). -/
def State.purgeQueues (s : State) (x : CmdCtx) : CmdRes :=
  s.onTenant x [1, 2] 7 fun t =>
    match (s.vfsOf t).find? fun e => e.1 == x.arg 6 with
    | none => refused s 0x81
    | some (_, f) =>
      let l := s.workQueues x.port f
      let s := (l.filter fun g => (s.q g).typ ≠ 2).foldl State.purgeOne s
      let s := (l.filter fun g => (s.q g).typ = 2).foldl State.purgeOne s
      { status := 0, st := s, r0 := (s.workQueues x.port f).length }

def execPurgeQueues (g : Fin 131072) (s : State) : Outcome := .next (s.commandNow g 0x16 State.purgeQueues)

/-! ## Dirty logs (R301 to R304) -/

/-- The log's header written, but for the driver's CI (R301). -/
def State.dirtyHeader (s : State) (p : Nat) (d : DirtySt) : State :=
  (s.hostWrite p 0 d.base (leBytes 4 d.pi ++ leBytes 4 (b2n d.full))).hostWrite p 0 (d.base + 12) (leBytes 4 d.lost)

/-- DIRTY_START (R301). -/
def State.dirtyStart (s : State) (x : CmdCtx) : CmdRes :=
  s.onTenant x [1, 2] 9 fun t =>
    let w := x.arg 8
    let n := bitsOf w 0 5
    let base := x.arg 6 + x.arg 7 * 2 ^ 32
    if w &&& 0xFC00FEE0 ≠ 0 || n < 4 || 20 < n || base % 4096 ≠ 0 then refused s 0x81
    else if (s.tenant t).dirty.isSome then refused s 0x93
    else if 64 ≤ ((List.range 1024).filter fun t => s.gb (F.FNM_TSTAT_DIRTY t)).length then refused s 0x96
    else
      let d : DirtySt := { base, log2 := n, page := if bitAt w 8 then 16 else 12, vector := bitsOf w 16 10 }
      { status := 0, st := (s.modTenant t fun y => { y with dirty := some d }).sb (F.FNM_TSTAT_DIRTY t) true }

def execDirtyStart (g : Fin 131072) (s : State) : Outcome := .next (s.commandNow g 0x18 State.dirtyStart)

/-- DIRTY_STOP (R304). -/
def execDirtyStop (g : Fin 131072) (s : State) : Outcome :=
  .next (s.commandNow g 0x19 fun s x => s.onTenant x [1, 2] 6 fun t =>
    match (s.tenant t).dirty with
    | none => refused s 0x84
    | some d => { status := 0, st := (s.dirtyHeader x.port d).dirtyClose t })

/-- DIRTY_SYNC (R304). -/
def execDirtySync (g : Fin 131072) (s : State) : Outcome :=
  .next (s.commandNow g 0x1A fun s x => s.onTenant x [1, 2] 6 fun t =>
    match (s.tenant t).dirty with
    | none => refused s 0x84
    | some d =>
      { status := 0, r0 := d.pi, r1 := b2n d.full, r2 := d.lost,
        st := (s.dirtyHeader x.port d).modTenant t fun y =>
          { y with dirty := some { d with full := false, lost := 0, filter := [], told := false } } })

/-- The entries that waited for CI are written, or lost where the log is still full (R303). -/
def State.dirtyRetry (s : State) (t : Nat) : List (Nat × Nat) → State
  | [] => s
  | (page, f) :: rest =>
    let full := match (s.tenant t).dirty with | some d => d.isFull | none => true
    State.dirtyRetry (if full then s.dirtyLose t page else s.dirtyPut t page f) t rest

/-- DIRTY_CI_REREAD (R303): header word 2 has been read, `ci` being what it holds. -/
def execDirtyCiReread (t : Fin 1024) (ci : Option Word) (s : State) : Outcome :=
  .next (s.inBlock 0x20 islSYS fun s => match (s.tenant t).dirty with
    | none => s
    | some d =>
      if d.wait.isEmpty then s else
      let v := match ci with | some w => w.toNat % 2 ^ (d.log2 + 1) | none => d.ci
      (s.modTenant t fun y => { y with dirty := some { d with ci := v, wait := [] } }).dirtyRetry t d.wait)

/-! ## Quiesce (R305, R306) -/

/-- The queues of a tenant's functions. -/
def State.tenantAll (s : State) (t : Nat) : List Nat := (s.vfsOf t).flatMap fun e => s.queuesOf (s.gf (F.FNM_TSTAT_PORT t)) e.2

/-- QUIESCE (R305): the command waits. -/
def State.quiesce (s : State) (x : CmdCtx) : Option CmdRes × State :=
  match s.tenantErr x [1] 7 with
  | some e => (some (refused s e), s)
  | none =>
    let tmo := x.arg 6
    if 65536 ≤ tmo then (some (refused s 0x81), s)
    else if (s.tenant (x.arg 5 % 1024)).quiescing.isSome then (some (refused s 0x84), s)
    else (none, s.modTenant (x.arg 5 % 1024) fun y => { y with quiescing := some (x.g, x.id, s.now + 1000 * (if tmo = 0 then 1000 else tmo)) })

def execQuiesce (g : Fin 131072) (s : State) : Outcome := .next (s.command g 0x1C State.quiesce)

/-- Nothing of a tenant is left in the device (R305). -/
def State.atRest (s : State) (t : Nat) : Bool :=
  let p := s.gf (F.FNM_TSTAT_PORT t)
  (s.tenantAll t).all (fun g => !(s.q g).busy) && (s.hp p).tags.all (fun x => !(s.vfsOf t).any fun e => e.2 == x.fn) &&
    (match (s.tenant t).dirty with | some d => d.wait.isEmpty | none => true)

/-- The tenant is QUIESCED, and its command completes. -/
def State.quiesced (s : State) (t aborted : Nat) : State :=
  match (s.tenant t).quiescing with
  | none => s
  | some (g, id, _) =>
    let s := (s.sf (F.FNM_TSTAT_STATE t) 2).modTenant t fun y => { y with quiescing := none }
    s.cmdDone g id 0 0 aborted 0 0 0

/-- QUIESCE_DONE (R305). -/
def execQuiesceDone (t : Fin 1024) (s : State) : Outcome :=
  .next (s.inBlock 0x20 islSYS fun s => if (s.tenant t).quiescing.isSome && s.atRest t then s.quiesced t 0 else s)

/-- The dispatched items of a queue that have not completed. -/
def QCtx.left (c : QCtx) : Nat := (c.items.filter fun i => i.disp.isSome && i.done.isNone).length

/-- What is still in the device after TMO is aborted (R305). -/
def State.quiesceTmo (s : State) (t : Nat) : State :=
  let p := s.gf (F.FNM_TSTAT_PORT t)
  let l := s.tenantAll t
  let n := (l.map fun g => (s.q g).left).sum
  let s := l.foldl (fun s g => s.abortItems g (s.q g).items) s
  let s := s.modHp p fun h => { h with tags := h.tags.map fun x => if (s.vfsOf t).any (fun e => e.2 == x.fn) then { x with retired := true } else x }
  let s := s.modHp p fun h => { h with reads := h.reads.filter fun r => !l.contains r.queue }
  (s.fnmReport 0x2004).quiesced t n

/-- FNM_QUIESCE_TMO (R305). -/
def execFnmQuiesceTmo (t : Fin 1024) (s : State) : Outcome :=
  .next (s.inBlock 0x20 islSYS fun s => match (s.tenant t).quiescing with
    | some (_, _, at_) => if at_ ≤ s.now then s.quiesceTmo t else s
    | none => s)

/-- A RUNNING queue fetches again from its CI (R306). -/
def QCtx.refetch (c : QCtx) : QCtx :=
  if c.st = 1 && c.typ ≠ 2 then { c with fetch := c.ci, items := c.items.filter fun i => i.disp.isSome, open_ := [], run := false, posts := [] } else c

/-- RESUME (R306). -/
def execResume (g : Fin 131072) (s : State) : Outcome :=
  .next (s.commandNow g 0x1D fun s x => s.onTenant x [2] 6 fun t =>
    let s := (s.tenantAll t).foldl (fun s q => s.modQ q QCtx.refetch) s
    { status := 0, st := s.sf (F.FNM_TSTAT_STATE t) 1 })

/-! ## Saving (R307) -/

/-- The queues of a function that are saved: completion queues first, then by local index. -/
def State.savedQueues (s : State) (p f : Nat) : List Nat :=
  let l := (s.queuesOf p f).mergeSort fun a b => decide ((s.q a).loc ≤ (s.q b).loc)
  (l.filter fun g => (s.q g).typ = 2) ++ l.filter fun g => (s.q g).typ ≠ 2

/-- A function record. -/
def State.fnRec (s : State) (p : Nat) (e : Nat × Nat) : List Nat :=
  [e.1, s.rdN (R.FN_ADMCFG p e.2), s.rdN (R.FN_ADMBASE p e.2), s.rdN (R.FN_ADMBASE p e.2 + 4), s.rdN (R.FN_ADMCBASE p e.2),
   s.rdN (R.FN_ADMCBASE p e.2 + 4), 0, 0]

/-- A queue record. -/
def State.queueRec (s : State) (slot g : Nat) : List Nat := ((queueWords g (s.q g)).take 13).set 8 0 ++ [slot, 0, 0]

/-- The records after the header. -/
def State.imageBody (s : State) (t : Nat) : List Nat × Nat × Nat × Nat × Nat :=
  let p := s.gf (F.FNM_TSTAT_PORT t)
  let vfs := s.vfsOf t
  let qs := vfs.flatMap fun e => (s.savedQueues p e.2).map fun g => s.queueRec e.1 g
  let sas := (s.sec.sas.filter fun e => e.2.st ≠ 0 && e.2.owner == t).map fun e => e.2.record e.1 ++ [0, 0, 0, 0, 0]
  let xs := (s.sec.xpts.filter fun e => e.2.st ≠ 0 && e.2.owner == t).map fun e => e.2.record e.1 false
  (s.tenantResp t ++ vfs.flatMap (s.fnRec p) ++ qs.flatten ++ sas.flatten ++ xs.flatten, vfs.length, qs.length, sas.length, xs.length)

/-- The image of a tenant. -/
def State.image (s : State) (t : Nat) : List Byte :=
  let (body, nf, nq, nsa, nx) := s.imageBody t
  let head := leBytes 4 0x49545146 ++ leBytes 2 1 ++ leBytes 2 t ++ leBytes 4 (128 + 32 * nf + 64 * nq + 32 * nsa + 128 * nx) ++ leBytes 2 nf ++ [0, 0] ++
    leBytes 4 nq ++ leBytes 4 nsa ++ leBytes 4 nx ++ leBytes 8 (s.rd64 R.TOP_SERIAL) ++ leBytes 12 (fullOf (s.counter islSYS)) ++
    [byte (s.islandBound islSYS)] ++ List.replicate 11 0
  let rest := bytesOfWords body
  head ++ leBytes 4 (crc32c (head ++ [0, 0, 0, 0] ++ rest)) ++ rest

/-- SAVE_STATE (R307). -/
def State.saveState (s : State) (x : CmdCtx) : CmdRes :=
  s.onTenant x [1, 2, 3] 9 fun t =>
    if s.gf (F.FNM_TSTAT_STATE t) ≠ 2 then refused s 0x94 else
    let l := s.image t
    if x.arg 8 < l.length then { refused s 0x81 with r0 := l.length }
    else { status := 0, st := s.fnWrite x.port 0 (x.arg 6 + x.arg 7 * 2 ^ 32) l }

def execSaveState (g : Fin 131072) (s : State) : Outcome := .next (s.commandNow g 0x1E State.saveState)

/-! ## Restoring (R308, R376, R401) -/

/-- An image cut into its records: response words, function, queue, association and transport records. -/
structure Image where
  resp : List Nat
  fns : List (List Nat)
  qs : List (List Nat)
  sas : List (List Nat)
  xs : List (List Nat)

/-- Records of `n` words. -/
def recsOf (n : Nat) : Nat → List Nat → List (List Nat)
  | 0, _ => []
  | k + 1, l => l.take n :: recsOf n k (l.drop n)

/-- The image in `l`, none where MAGIC, VERSION, LENGTH or CRC32C is wrong. -/
def imageOf (l : List Byte) : Option Image :=
  let g (a n : Nat) : Nat := ofLe ((l.drop a).take n)
  let nf := g 12 2
  let nq := g 16 4
  let nsa := g 20 4
  let nx := g 24 4
  let len := 128 + 32 * nf + 64 * nq + 32 * nsa + 128 * nx
  let l := l.take len
  if g 0 4 ≠ 0x49545146 || g 4 2 ≠ 1 || g 8 4 ≠ len || l.length < len || g 60 4 ≠ crc32c (l.take 60 ++ [0, 0, 0, 0] ++ l.drop 64) then none else
  let w := words32 (len / 4) l
  some ⟨(w.drop 16).take 16, recsOf 8 nf (w.drop 32), recsOf 16 nq (w.drop (32 + 8 * nf)), recsOf 8 nsa (w.drop (32 + 8 * nf + 16 * nq)),
        recsOf 32 nx (w.drop (32 + 8 * nf + 16 * nq + 8 * nsa))⟩

/-- A word of a record. -/
def rw (r : List Nat) (k : Nat) : Nat := r.getD k 0

/-- The local index and slot of a queue record. -/
def recPlace (r : List Nat) : Nat × Nat := (rw r 13 % 16, bitsOf (rw r 0) 9 13)

/-- A queue record breaks R247 or R248. -/
def queueRecBad (im : Image) (r : List Nat) : Bool :=
  let typ := bitsOf (rw r 0) 0 2
  let l := bitsOf (rw r 0) 4 5
  let loc := bitsOf (rw r 0) 9 13
  let entry := if typ = 1 then 16 else if typ = 3 then 64 else 32
  let cq := im.qs.find? fun q => recPlace q == ((recPlace r).1, rw r 3 % 8192)
  decide (15 < rw r 13) || !im.fns.any (fun f => rw f 0 == rw r 13) || rw r 5 % 256 == 0 || decide (3 < rw r 5 % 256) ||
    decide (l < 4) || decide (16 < l) || decide (8192 ≤ loc) || (loc == 0 && typ != 3) || (loc == 1 && typ != 2) ||
    baseBad (rw r 1 + rw r 2 * 2 ^ 32) l entry || decide (2 ^ (l + 1) ≤ rw r 6) || decide (2 ^ (l + 1) ≤ rw r 7) ||
    (typ == 2 && decide (64 ≤ bitsOf (rw r 4) 0 10)) ||
    (typ != 2 && (match cq with | some q => bitsOf (rw q 0) 0 2 != 2 | none => true))

/-- Two of the entries of a list are equal. -/
def hasTwice {α : Type} [DecidableEq α] : List α → Bool
  | [] => false
  | a :: t => t.contains a || hasTwice t

/-- A transport record that makes the image invalid (R382, R401). -/
def State.xptRecBad (s : State) (r : List Nat) : Bool :=
  let i := rw r 24 % 2 ^ 20
  (s.xpt i).st != 0 || bitsOf (rw r 24) 24 2 != 1 || i == 1048575 || xptBad ((r.set 1 0).set 24 0)

/-- The rest of what R308 asks of an image. -/
def State.imageBad (s : State) (t : Nat) (im : Image) : Bool :=
  tenantBad (fun k => rw im.resp (1 + k)) || im.fns.any (fun f => decide (15 < rw f 0)) || hasTwice (im.fns.map fun f => rw f 0) ||
    hasTwice (im.qs.map recPlace) || im.qs.any (queueRecBad im) ||
    im.sas.any (fun r =>
      let a := s.sa (rw r 0 % 2 ^ 21)
      a.st == 0 || a.owner != t || a.proto != bitsOf (rw r 0) 21 4 || b2n a.outbound != bitsOf (rw r 0) 25 1) ||
    hasTwice (im.xs.map fun r => rw r 24 % 2 ^ 20) || im.xs.any s.xptRecBad

/-- A saved queue created on function `f` (R308): a STOPPING one is HALTED, and what a completion queue still holds counts as unannounced. -/
def State.restoreQueue (s : State) (p f : Nat) (r : List Nat) : State :=
  let loc := bitsOf (rw r 0) 9 13
  let (k, s1) := s.pick (131072 - 2056) fun k => (s.q (k + 2056)).st == 0
  let (g, s) := if loc < 2 then (some (admQueue p f + loc), s) else (k.map (· + 2056), s1)
  match g with
  | none => s
  | some g =>
    let typ := bitsOf (rw r 0) 0 2
    let o := s.q g
    let st := rw r 5 % 256
    let c : QCtx := { st := (if st = 2 then 3 else st), gen := bitsOf (rw r 5) 8 8, reason := bitsOf (rw r 5) 16 8, port := p, fn := f, w5 := rw r 0,
                      base := rw r 1 + rw r 2 * 2 ^ 32, w8 := rw r 3, w9 := rw r 4, cq := (if typ = 2 then 0 else (s.localQ p f (rw r 3 % 8192)).getD 0),
                      tail := rw r 6, ci := rw r 7, fetch := rw r 7, armed := bitAt (rw r 5) 24, nCqFull := rw r 10, nRqEmpty := rw r 11, nBad := rw r 12,
                      nextItem := o.nextItem, stale := o.stale }
    let n := if typ = 2 then c.dist c.tail c.ci else 0
    let s := s.setQ g { c with unann := n, times := List.replicate n s.now }
    if loc < 2 then s else s.wrN (R.FNM_POOLUSE p 0) (s.rdN (R.FNM_POOLUSE p 0) + 1)

/-- A saved association's runtime record applied (R376). -/
def State.restoreSa (s : State) (r : List Nat) : State :=
  let i := rw r 0 % 2 ^ 21
  let a := s.sa i
  let n := rw r 1 + rw r 2 * 2 ^ 32
  if a.proto = 4 then s else if a.outbound then s.setSa i { a with seq := n } else s.setSa i { a with seq := n, seen := [], low := n }

/-- A saved context created at its index (R401), on a function of the tenant that has its queues. -/
def State.restoreXpt (s : State) (t p : Nat) (r : List Nat) : State :=
  let i := rw r 24 % 2 ^ 20
  let typ := bitsOf (rw r 0) 0 4
  let vfs := (s.vfsOf t).map (·.2)
  let q (f k : Nat) : Option Nat := s.localQ p f k
  let sqOf (f : Nat) : Option Nat := if typ ≤ 3 then q f (bitsOf (rw r 16) 0 13) else none
  let rqOf (f : Nat) : Option Nat := if typ ≤ 2 then q f (bitsOf (rw r 16) 16 13) else none
  let ok (k : Nat) : Bool := let f := vfs.getD k 0; ((sqOf f).isSome || decide (3 < typ)) && ((rqOf f).isSome || decide (2 < typ))
  let (k, s) := s.pick vfs.length ok
  match k with
  | none => s
  | some k =>
    let f := vfs.getD k 0
    s.bindXpt i (s.xptNew p f t ((r.set 1 0).set 24 0) (sqOf f) (rqOf f))

/-- A VF's admin registers from its record. -/
def State.restoreAdm (s : State) (p f : Nat) (r : List Nat) : State :=
  ((((s.wrN (R.FN_ADMCFG p f) (rw r 1)).wrN (R.FN_ADMBASE p f) (rw r 2)).wrN (R.FN_ADMBASE p f + 4) (rw r 3)).wrN (R.FN_ADMCBASE p f) (rw r 4)).wrN
    (R.FN_ADMCBASE p f + 4) (rw r 5)

/-- A valid image applied (R308). -/
def State.restore (s : State) (t p : Nat) (im : Image) : State :=
  let vfs := s.vfsOf t
  let fnOf (slot : Nat) : Nat := (vfs.find? fun e => e.1 == slot).elim 0 (·.2)
  let s := s.sf (F.FNM_TSTAT_STATE t) 2
  let s := im.fns.foldl (fun s r => s.restoreAdm p (fnOf (rw r 0)) r) s
  let s := im.qs.foldl (fun s r => s.restoreQueue p (fnOf (rw r 13)) r) s
  im.xs.foldl (fun s r => s.restoreXpt t p r) (im.sas.foldl State.restoreSa s)

/-- The non-admin queues of an image. -/
def Image.work (im : Image) : Nat := (im.qs.filter fun r => decide (2 ≤ (recPlace r).2)).length

/-- RESTORE_STATE (R308), with what the read of the image returned. -/
def State.restoreState (s : State) (x : CmdCtx) (image : Option (List Byte)) : CmdRes :=
  s.onTenant x [1, 2] 9 fun t =>
    let p := x.port
    let reject := refused (s.fnmReport 0x2005) 0x95
    match image with
    | none => refused s 3
    | some l =>
      match imageOf (l.take (x.arg 8)) with
      | none => reject
      | some im =>
        let vfs := s.vfsOf t
        let lim := s.rdN (R.FNM_POOL p 0)
        if im.fns.any (fun r => decide (rw r 0 ≤ 15) && !vfs.any fun e => e.1 == rw r 0) || vfs.any (fun e => !(s.workQueues p e.2).isEmpty) then refused s 0x84
        else if s.imageBad t im then reject
        else if s.tArg t 6 < im.work || s.tArg t 11 < s.xptOwned t + im.xs.length then refused s 0x80
        else if lim ≠ 0 && decide (lim < s.rdN (R.FNM_POOLUSE p 0) + im.work) then refused (s.poolExhausted p 0) 0x92
        else { status := 0, st := s.restore t p im }

def execRestoreState (g : Fin 131072) (image : Option (List Byte)) (s : State) : Outcome :=
  .next (s.commandNow g 0x1F fun s x => s.restoreState x image)

end Sys2Proof.Machine
end

