-- ==== Sys2Proof/Machine/MgtBase.lean ====
section
/-! DEFINITION. The agent's transports: requests that arrive, answers that leave, MCTP packets and control messages, and the SMBus alert (R518 to R526).
Where R521 to R523 name a public specification, the bytes follow it (PRESUMED, log entry 57). -/

namespace Sys2Proof.Machine

/-! ## Answers -/

/-- An MCTP message cut into packets of at most 64 bytes of body (R521): destination and source EID, SOM, EOM, packet sequence and tag. -/
def mctpPackets (dst src tag : Nat) : Nat → Nat → List Byte → List (List Byte)
  | 0, _, _ => []
  | fuel + 1, k, l =>
    let last := decide (l.length ≤ 64)
    ([1, byte dst, byte src, byte (128 * b2n (k == 0) + 64 * b2n last + 16 * (k % 4) + tag % 8)] ++ l.take 64) ::
      (if last then [] else mctpPackets dst src tag fuel (k + 1) (l.drop 64))

/-- The one's complement checksum of an IPv4 header or ICMP message. -/
def ipSum (l : List Byte) : List Byte := beBytes 2 (inetSum l)

/-- An IPv4 frame from this device: Ethernet header, IP header, and payload (PRESUMED, log entry 57). -/
def mgeIpFrame (dstMac srcMac src dst proto : Nat) (l : List Byte) : List Byte :=
  let h := [0x45, 0] ++ beBytes 2 (20 + l.length) ++ [0, 0, 0x40, 0, 64, byte proto]
  let a := beBytes 4 src ++ beBytes 4 dst
  beBytes 6 dstMac ++ beBytes 6 srcMac ++ [0x08, 0x00] ++ h ++ ipSum (h ++ [0, 0] ++ a) ++ a ++ l

/-- A frame joins what MGE has to send, padded to 60 bytes; MGE adds the FCS. -/
def State.mgeQueue (s : State) (f : List Byte) : State :=
  let f := f ++ List.replicate (60 - f.length) 0
  { s with mge := { s.mge with txq := s.mge.txq ++ [{ frame := f ++ leBytes 4 (fcsOf f) }] } }

/-- An answer goes out on the binding and to the source of its request (R526): `via` holds the physical address, source EID and tag of an MCTP message, or
the Ethernet, IP and UDP source of a datagram. -/
def State.reply (s : State) (r : MgtReq) (body : List Byte) : State :=
  if r.binding = 3 then
    let at_ (o n : Nat) : Nat := beAt r.via o n
    let u := beBytes 2 s.mgt.port ++ (r.via.drop 10).take 2 ++ beBytes 2 (8 + body.length) ++ [0, 0] ++ body
    s.mgeQueue (mgeIpFrame (at_ 0 6) (s.rd64 R.MGE_ADDR) s.mgt.ip (at_ 6 4) 17 u)
  else
    (mctpPackets (beAt r.via 2 1) (s.gf (eidFld r.binding)) (beAt r.via 3 1) 32 0 body).foldl
      (fun s k => s.emit (.mctp r.binding (beAt r.via 0 2) k)) s

/-- A response of the command set (R524, R525), counted by its status. -/
def State.respond (s : State) (r : MgtReq) (status : Nat) (payload : List Byte) : State :=
  let s := s.bump (R.MGT_CNT (if status = 0 then 3 else if status = 7 then 5 else 4))
  let s := if status = 7 then s.report 0xF803 0 0 [] else s
  s.reply r ((if r.binding = 3 then [] else [0x7E]) ++ [0x1F, 0xD3] ++ (r.body.drop 2).take 1 ++ [1] ++ (r.body.drop 4).take 2 ++ leBytes 2 status ++ payload)

/-! ## Requests -/

/-- A request is a command; a control message begins with its type, 0. -/
def MgtReq.isCmd (r : MgtReq) : Bool := r.body.headD 0 == 0x1F

/-- CMD of a request. -/
def MgtReq.cmd (r : MgtReq) : Nat := beAt r.body 2 1

/-- A command has arrived complete (R525, R526): a fifth on its binding is answered with BUSY, and a reserved CMD, RESP or a reserved bit with BAD_COMMAND. -/
def State.cmdArrive (s : State) (r : MgtReq) : State :=
  if 4 ≤ (s.mgt.reqs.filter fun x => x.binding == r.binding && x.isCmd).length then s.respond r 5 []
  else if beAt r.body 3 1 ≠ 0 || r.cmd = 0 || 0x0E ≤ r.cmd then s.respond r 1 []
  else s.modMgt fun g => { g with reqs := g.reqs ++ [r] }

/-! ## MCTP control messages (R521) -/

/-- The answer to a control message: its code and data. -/
def State.ctlAnswer (s : State) (r : MgtReq) (data : List Byte) : State :=
  s.reply r ([0, byte (beAt r.body 1 1 % 32)] ++ (r.body.drop 2).take 1 ++ data)

/-- A control request has arrived: one that the device does not support is answered with ERROR_UNSUPPORTED_CMD. -/
def State.ctlArrive (s : State) (r : MgtReq) : State :=
  if r.body.length < 3 || beAt r.body 1 1 < 128 then s
  else if beAt r.body 2 1 = 0 || 6 < beAt r.body 2 1 then s.ctlAnswer r [5]
  else s.modMgt fun g => { g with reqs := g.reqs ++ [r] }

/-- The control message at the front, if it is command `c`: it is taken, and its data answered by `f`. -/
def State.control (s : State) (c : Nat) (f : State → MgtReq → List Byte → State) : State :=
  match s.mgt.reqs with
  | r :: rest =>
    if r.isCmd || beAt r.body 2 1 ≠ c || s.gf F.MGT_STATUS_AGENT = 0 || s.gf F.RST_STATE_PSTATE = 4 || s.mgt.cfsWait.isSome then s
    else f (s.modMgt fun g => { g with reqs := rest }) r (r.body.drop 3)
  | [] => s

/-- Set Endpoint ID: set or forced, to an EID that may be assigned. -/
def State.setEid (s : State) (r : MgtReq) (l : List Byte) : State :=
  let e := beAt l 1 1
  if l.length ≠ 2 then s.ctlAnswer r [3]
  else if 1 < beAt l 0 1 % 4 || e < 8 || e = 255 then s.ctlAnswer r [2]
  else (s.ctlAnswer r [0, 0, byte e, 0]).sf (eidFld r.binding) e

def execSetEndpointId (s : State) : Outcome := .next (s.control 1 State.setEid)

def execGetEndpointId (s : State) : Outcome :=
  .next (s.control 2 fun s r l => s.ctlAnswer r (if l.isEmpty then [0, byte (s.gf (eidFld r.binding)), 0, 0] else [3]))

/-- The endpoint's UUID is a free value (log entry 58). -/
def execGetEndpointUuid (s : State) : Outcome :=
  .next (s.control 3 fun s r l => s.ctlAnswer r (if l.isEmpty then 0 :: (List.range 16).map fun k => byte (Config.uuid k) else [3]))

def execGetMctpVersionSupport (s : State) : Outcome :=
  .next (s.control 4 fun s r l =>
    let t := beAt l 0 1
    s.ctlAnswer r (if l.length ≠ 1 then [3] else if t = 0xFF || t = 0 || t = 0x7E then [0, 1, 0xF1, 0xF3, 0xFF, 0] else [0x80]))

def execGetMessageTypeSupport (s : State) : Outcome :=
  .next (s.control 5 fun s r l => s.ctlAnswer r (if l.isEmpty then [0, 1, 0x7E] else [3]))

def execGetVendorDefinedMessageSupport (s : State) : Outcome :=
  .next (s.control 6 fun s r l => s.ctlAnswer r (if l.length ≠ 1 then [3] else if beAt l 0 1 = 0 then [0, 0xFF, 0, 0x1F, 0xD3, 0, 0] else [2]))

/-! ## MCTP packets (R521 to R523) -/

/-- A packet or message that breaks the rules of R521's table: dropped and logged, and counted where the table counts it. -/
def State.mctpViol (s : State) (counted : Bool) : State := (if counted then s.mctpDrop 1 else s).report 0xF802 0 0 []

/-- A message is complete. -/
def State.mctpMessage (s : State) (b eid tag phys : Nat) (l : List Byte) : State :=
  let via := beBytes 2 phys ++ [byte eid, byte tag]
  if 1029 < l.length then s.mctpViol false
  else if beAt l 0 1 = 0 then s.ctlArrive ⟨b, eid, via, l⟩
  else if beAt l 0 1 = 0x7E && beAt l 1 2 == 0x1FD3 && decide (9 ≤ l.length) then s.cmdArrive ⟨b, eid, via, l.drop 1⟩
  else s.mctpViol false

/-- The assembly that a packet belongs to. -/
def State.asmOf (s : State) (b key : Nat) : Option AsmSt := s.mgt.asm.find? fun a => a.binding == b && a.key == key

/-- The assembly given up. -/
def State.asmDrop (s : State) (b key : Nat) : State :=
  s.modMgt fun g => { g with asm := g.asm.filter fun a => !(a.binding == b && a.key == key) }

/-- A packet's part of a message: `seq` is its packet sequence and `l` its bytes. -/
def State.mctpPart (s : State) (b key phys seq : Nat) (eom : Bool) (l : List Byte) : State :=
  let s := s.asmDrop b key
  if eom then s.mctpMessage b (key / 16) (key % 16) phys l
  else s.modMgt fun g => { g with asm := g.asm ++ [⟨b, key, (seq + 1) % 4, l⟩] }

/-- A packet addressed to the binding. -/
def State.mctpTake (s : State) (b phys : Nat) (k : List Byte) : State :=
  let flags := beAt k 3 1
  let key := beAt k 2 1 * 16 + flags % 16
  let seq := flags / 16 % 4
  let eom := flags / 64 % 2 == 1
  let l := k.drop 4
  if 128 ≤ flags then (if (s.asmOf b key).isSome then s.mctpViol true else s).mctpPart b key phys seq eom l
  else match s.asmOf b key with
    | some a => if a.seq = seq then s.mctpPart b key phys seq eom (a.bytes ++ l) else (s.asmDrop b key).mctpViol true
    | none => s.mctpViol true

/-- A packet on a binding that works. -/
def State.mctpReceive (s : State) (b phys : Nat) (k : List Byte) : State :=
  if k.length < 5 || 68 < k.length || beAt k 0 1 ≠ 1 then s.mctpViol true
  else if beAt k 1 1 ≠ s.gf (eidFld b) then s
  else s.mctpTake b phys k

/-- A binding works (R518, R523): an agent serves; a VDM binding while enabled, its link up and PF0 not in reset, with firmware and a good reference. -/
def State.bindingUp (s : State) (b : Nat) : Bool :=
  s.gf F.MGT_STATUS_AGENT != 0 && s.gf F.RST_STATE_PSTATE != 4 &&
    (b == 0 || (s.gb F.MGT_BIND_VDMEN && s.gb (F.HP_STATUS_LINKUP (b - 1)) && !s.inReset (b - 1) 0 && s.gf F.MGT_STATUS_AGENT == 2 &&
      s.gb F.CGU_REFSTAT_REFGOOD))

/-- MCTP_PACKET_RECEIVE (R521 to R523): on binding `b`, from the physical address `src`; an SMBus packet is counted, and dropped when its PEC fails. -/
def execMctpPacketReceive (b : Fin 3) (src : BitVec 16) (pkt : List Byte) (pecOk : Bool) (s : State) : Outcome :=
  .next (if !s.bindingUp b.val then s
    else if b.val = 0 then
      let s := s.bump (R.MGT_CNT 0)
      if pecOk then s.mctpReceive 0 src.toNat pkt else s.bump (R.MGT_CNT 1)
    else s.mctpReceive b.val src.toNat pkt)

/-! ## SMBus (R522) -/

/-- ALERT_RESPONSE: a read of the Alert Response Address returns the device's address, and SMB_ALERT_N goes high. -/
def execAlertResponse (s : State) : Outcome :=
  .next (if s.mgt.alertLow then
      ((s.modMgt fun g => { g with alertLow := false }).emit (.skylark "ALERT_RESPONSE" [s.gf F.MGT_SMBCFG_ADDR])).emit (.pin "SMB_ALERT_N" true)
    else s)

/-- MGT_SMB_TIMEOUT: SCL held low for more than 35 ms resets the interface, and pending packets are dropped. -/
def execMgtSmbTimeout (s : State) : Outcome :=
  .next ((s.modMgt fun g => { g with asm := g.asm.filter fun a => a.binding != 0 }).report 0xF804 0 0 [])

end Sys2Proof.Machine
end

