-- ==== Sys2Proof/Machine/Mge.lean ====
section
/-! DEFINITION. Management Ethernet and its PHY (R527 to R530). -/

namespace Sys2Proof.Machine

/-- Change MGE's own state. -/
def State.modMge (s : State) (f : MgeSt → MgeSt) : State := { s with mge := f s.mge }

/-- MGE runs: enabled, with the reference good (R485, R518). -/
def State.mgeOn (s : State) : Bool := s.gb F.MGE_CFG_EN && s.gb F.CGU_REFSTAT_REFGOOD && s.gf F.RST_STATE_PSTATE != 4

/-- One bit time in ns (R530). -/
def State.mgeBit (s : State) : Nat := match s.gf F.MGE_CFG_SPEED with | 0 => 100 | 1 => 10 | _ => 1

/-- Count in MGE_CNT. -/
def State.mgeCount (s : State) (k : Nat) : State := s.bump (R.MGE_CNT k)

/-! ## Stopping, and the PHY (R527, R530) -/

/-- Firmware sets what it read of the PHY, enables MGE and logs the link (R527); a setting that MGE refuses is logged (R529). -/
def State.phySet (s : State) (p : Nat × Bool × Bool) : State :=
  let s := s.modMge fun g => { g with toSet := none, phy := p }
  let s := if p.1 = 2 && !p.2.1 || 2 < p.1 then s.cfgViol .skylark R.MGE_CFG
    else (s.sf F.MGE_CFG_SPEED p.1).sb F.MGE_CFG_DUPLEX p.2.1
  let s := (s.sb F.MGE_CFG_EN true).sb F.MGE_STATUS_STOPPED false
  if p.2.2 then s.report 0x6101 0 0 [] else s.report 0x6102 2 0 []

/-- MGE has stopped: EN is 0 and no frame is in progress. A change of the PHY that waited for it is set. -/
def State.mgeIdle (s : State) : State :=
  if s.gb F.MGE_CFG_EN || s.mge.txq.any fun t => t.sending then s else
  let s := s.sb F.MGE_STATUS_STOPPED true
  match s.mge.toSet with
  | some p => s.phySet p
  | none => s

/-- A write of EN = 0 (R530): MGE stops after the frame in progress. -/
def State.mgeStop (s : State) : State := (s.sb F.MGE_CFG_EN false).mgeIdle

/-- MGE_STOP (R530). -/
def execMgeStop (m : Master) (s : State) : Outcome := .next (s.asWriter m R.MGE_CFG fun s => s.mgeStop)

/-- PHY_POLL (R527): every 100 ms, by firmware; the PHY's speed as MGE_CFG.SPEED codes it, duplex and link. -/
def execPhyPoll (speed : Fin 3) (full : Bool) (up : Bool) (s : State) : Outcome :=
  .next (if s.gf F.MGT_STATUS_AGENT = 0 || decide (s.now < s.mge.polled + 100000000) then s else
    let s := s.modMge fun g => { g with polled := s.now }
    if s.mge.phy = (speed.val, full, up) then s
    else (s.modMge fun g => { g with toSet := some (speed.val, full, up) }).mgeStop)

/-! ## Receiving (R527, R528) -/

/-- A source address is admitted by the allow list (R520, R527). -/
def State.allowed (s : State) (a : Nat) : Bool :=
  s.mgt.allow.any fun e => a / 2 ^ (32 - min 32 e.2) == e.1 / 2 ^ (32 - min 32 e.2)

/-- A datagram from a source that no entry admits (R527). -/
def State.mgeDenied (s : State) : State :=
  let s := s.mgeCount 5
  if (match s.mgt.deniedAt with | some t => decide (t + 1000000 ≤ s.now) | none => true)
  then (s.modMgt fun g => { g with deniedAt := some s.now }).report 0xF803 0 0 [] else s

/-- An ARP request for the device's address is answered. -/
def State.mgeArp (s : State) (f : List Byte) : State :=
  if beAt f 14 8 ≠ 0x0001080006040001 || beAt f 38 4 ≠ s.mgt.ip then s
  else s.mgeQueue ((f.drop 6).take 6 ++ beBytes 6 (s.rd64 R.MGE_ADDR) ++ [0x08, 0x06, 0, 1, 8, 0, 6, 4, 0, 2] ++ beBytes 6 (s.rd64 R.MGE_ADDR) ++
    beBytes 4 s.mgt.ip ++ (f.drop 22).take 10)

/-- A command datagram (R524, R527). -/
def State.mgeUdp (s : State) (f : List Byte) (o n : Nat) : State :=
  let a := beAt f 26 4
  let len := beAt f (o + 4) 2
  if n < 8 || beAt f (o + 2) 2 ≠ s.mgt.port || len < 8 || n < len then s
  else if !s.allowed a then s.mgeDenied
  else
    let l := cut f (o + 8) (len - 8)
    if l.length < 8 || beAt l 0 2 ≠ 0x1FD3 then s
    else s.cmdArrive ⟨3, a * 65536 + beAt f o 2, (f.drop 6).take 6 ++ (f.drop 26).take 4 ++ cut f o 2, l⟩

/-- An IPv4 packet for the device: an ICMP echo is answered, a command datagram goes to the agent. Fragments and bad header sums are dropped. -/
def State.mgeIp (s : State) (f : List Byte) : State :=
  let h := 4 * (beAt f 14 1 % 16)
  let total := beAt f 16 2
  if beAt f 14 1 / 16 ≠ 4 || h < 20 || total < h || f.length < 14 + total || beAt f 30 4 ≠ s.mgt.ip || beAt f 20 2 % 2 ^ 14 ≠ 0 ||
      inetSum (cut f 14 h) ≠ 0 then s
  else
    let o := 14 + h
    let n := total - h
    match beAt f 23 1 with
    | 1 =>
      if n < 8 || beAt f o 1 ≠ 8 || inetSum (cut f o n) ≠ 0 then s else
      let l := cut f (o + 4) (n - 4)
      s.mgeQueue (mgeIpFrame (beAt f 6 6) (s.rd64 R.MGE_ADDR) s.mgt.ip (beAt f 26 4) 1 ([0, 0] ++ ipSum ([0, 0, 0, 0] ++ l) ++ l))
    | 17 => s.mgeUdp f o n
    | _ => s

/-- A frame passed to the agent, without its FCS. -/
def State.mgeAgent (s : State) (f : List Byte) : State :=
  if s.gf F.MGT_STATUS_AGENT = 0 then s
  else match beAt f 12 2 with
    | 0x0806 => s.mgeArp f
    | 0x0800 => s.mgeIp f
    | _ => s

/-- A frame received is stamped and filtered (R527, R528). -/
def State.mgeReceive (s : State) (f : List Byte) : State :=
  let (_, s) := s.stamp islAON 0x6100
  let d := beAt f 0 6
  if f.length < 64 then s.mgeCount 2
  else if s.gf F.MGE_CFG_MAXLEN < f.length then s.mgeCount 3
  else if !fcsOk f then s.mgeCount 1
  else if d ≠ s.rd64 R.MGE_ADDR && d ≠ 2 ^ 48 - 1 then s.mgeCount 4
  else (s.mgeCount 0).mgeAgent (f.take (f.length - 4))

/-- MGE_FRAME_RECEIVE (R527, R528): the frame with its FCS. -/
def execMgeFrameReceive (frame : List Byte) (s : State) : Outcome := .next (if s.mgeOn then s.mgeReceive frame else s)

/-! ## Transmitting (R528, R529) -/

/-- The frame at the front of what MGE has to send. -/
def State.setTx (s : State) (t : MgeTx) : State := s.modMge fun g => { g with txq := t :: g.txq.drop 1 }

/-- The bit times that a frame takes with its preamble. -/
def MgeTx.bits (t : MgeTx) : Nat := 8 * (t.frame.length + 8)

/-- MGE_FRAME_TRANSMIT (R528, R529): the next attempt at the first frame begins; `idle` says for how many bit times carrier sense has been absent. -/
def execMgeFrameTransmit (idle : Nat) (s : State) : Outcome :=
  .next (match s.mge.txq with
    | t :: _ =>
      if s.mgeOn && !t.sending && t.backoff.isNone && (s.gb F.MGE_CFG_DUPLEX || decide (96 ≤ idle)) then
        let (st, s) := s.stamp islAON 0x6101
        (s.setTx { t with sending := true, start := s.now, stamp := st }).sb F.MGE_STATUS_CRS false
      else s
    | [] => s)

/-- The frame in progress is discarded. -/
def State.mgeDiscard (s : State) : State := (s.modMge fun g => { g with txq := g.txq.drop 1 }).mgeIdle

/-- A collision at bit time `bit` from the start of the preamble (R529). The draw is a free value. -/
def State.mgeCollide (s : State) (t : MgeTx) (bit : Nat) : State :=
  let s := s.sb F.MGE_STATUS_CRS true
  if 512 ≤ bit then ((s.mgeCount 8).report 0x6103 0 0 []).mgeDiscard
  else
    let n := t.coll + 1
    let s := s.mgeCount 7
    if 16 ≤ n then ((s.mgeCount 9).report 0x6104 0 0 []).mgeDiscard
    else
      let (k, s) := s.fresh
      let r := Config.pick k % 2 ^ min n 10
      (s.setTx { t with sending := false, coll := n, backoff := some (t.start + (bit + 32 + 512 * r) * s.mgeBit) }).mgeIdle

/-- MGE_COLLISION (R529): in half duplex, while the frame is on the wire. -/
def execMgeCollision (bit : Nat) (s : State) : Outcome :=
  .next (match s.mge.txq with
    | t :: _ => if t.sending && !s.gb F.MGE_CFG_DUPLEX && decide (bit < t.bits) then s.mgeCollide t bit else s
    | [] => s)

/-- BACKOFF_EXPIRE (R529): MGE defers again. -/
def execBackoffExpire (s : State) : Outcome :=
  .next (match s.mge.txq with
    | t :: _ => (match t.backoff with
      | some e => if e ≤ s.now then s.setTx { t with backoff := none } else s
      | none => s)
    | [] => s)

/-- MGE_FRAME_END (R529): the frame has left; its descriptor carries the stamp of the attempt that completed. -/
def execMgeFrameEnd (s : State) : Outcome :=
  .next (match s.mge.txq with
    | t :: _ =>
      if t.sending && decide (t.start + t.bits * s.mgeBit ≤ s.now) then
        let s := ((s.mgeCount 6).emit (.mge t.frame)).emit (.skylark "MGE_TX" [t.stamp.time, t.stamp.bound, t.stamp.domain, t.stamp.seq])
        s.mgeDiscard
      else s
    | [] => s)

/-! ## MDIO (R530) -/

/-- A write of MGE_MDIO: its fields are stored, and a GO starts a frame of 26 µs unless one runs. -/
def State.mdioWrite (s : State) (v : Nat) : State :=
  let old := s.rdN R.MGE_MDIO
  let s := s.wrN R.MGE_MDIO (v % 2 ^ 27 + old / 2 ^ 28 % 2 * 2 ^ 28)
  if bitAt v 27 && !s.gb F.MGE_MDIO_BUSY then (s.sb F.MGE_MDIO_BUSY true).modMge fun g => { g with mdioEnd := s.now + 26000 } else s

/-- MDIO_FRAME (R530): a write of MGE_MDIO with GO = 1. -/
def execMdioFrame (m : Master) (v : Word) (s : State) : Outcome :=
  .next (s.asWriter m R.MGE_MDIO fun s => s.mdioWrite (v ||| 0x08000000).toNat)

/-- MDIO_DONE (R530): BUSY clears, and a read's result is stored. -/
def execMdioDone (data : BitVec 16) (s : State) : Outcome :=
  .next (if s.gb F.MGE_MDIO_BUSY && decide (s.mge.mdioEnd ≤ s.now) then
      let s := s.sb F.MGE_MDIO_BUSY false
      if s.gb F.MGE_MDIO_OP then s else s.sf F.MGE_MDIO_DATA data.toNat
    else s)

end Sys2Proof.Machine
end

