-- ==== Sys2Proof/Machine/Pps.lean ====
section
/-! DEFINITION. The pulse-per-second input and output (R80, R81). -/

namespace Sys2Proof.Machine

/-- A PPSI pulse narrower than 100 ns is a glitch; so is an edge within 0.5 s of the last accepted edge, which is also logged (R80). -/
def State.ppsiGlitch (s : State) : State := s.satInc F.TKU_PPSSTAT_GLITCH

/-- An accepted PPSI edge: stamped in domain 0x0300, TKU_PPSICFG.CAL subtracted, and latched (R80). -/
def State.ppsiAccept (s : State) : State :=
  let (st, s1) := s.stamp islSYS 0x0300
  let t := ((st.time : Int) - 256 * signedOf 24 (s.gf F.TKU_PPSICFG_CAL)).toNat
  (s1.wrWide R.TKU_PPSISTAMP 3 (fullOf t)).setTku fun k => { k with ppsiLast := some s.now }

/-- An active edge: the input is enabled and the edge is the one POL chooses (0 = rising). -/
def State.ppsiActive (s : State) (rising : Bool) : Bool := s.gb F.TKU_PPSICFG_EN && (rising == !s.gb F.TKU_PPSICFG_POL)

/-- An edge within 0.5 s of the last accepted edge. -/
def State.ppsiEarly (s : State) : Bool :=
  match s.tku.ppsiLast with
  | some t => decide (s.now < t + 500000000)
  | none => false

/-- PPSI_EDGE (R80), with the pulse's width in ns. -/
def execPpsiEdge (rising : Bool) (width : Nat) (s : State) : Outcome :=
  .next (s.inBlock 0x03 islSYS fun s => if s.ppsiActive rising then
      (if width < 100 then s.ppsiGlitch
       else if s.ppsiEarly then s.ppsiGlitch.report 0x0307 0 0 []
       else s.ppsiAccept)
    else s)

/-- PPSO is held low (R81): disabled, FREERUN, the published code above MAXBOUND, or the reference failed. -/
def State.ppsoHeld (s : State) : Bool :=
  !s.gb F.TKU_PPSOCFG_EN || s.tkuState == 0 || decide (s.gf F.TKU_PPSOCFG_MAXBOUND < s.pubCode) || !s.gb F.CGU_REFSTAT_REFGOOD

/-- A whole second that has had no edge has passed (R81). -/
def State.ppsoDue (s : State) : Bool := decide (s.tku.ppsoLast < s.ppsoSecond s.tku.dt)

/-- The edge: driven, stamped in domain 0x0301, with the pulse's end WIDTH units of 8 us ahead (R81). -/
def State.ppsoEdge (s : State) : State :=
  let (st, s1) := s.stamp islSYS 0x0301
  ((s1.wrWide R.TKU_PPSOSTAMP 3 (fullOf st.time)).setTku fun k => { k with
    ppsoLast := s.ppsoSecond s.tku.dt, ppsoHigh := true, ppsoFall := s.now + 8000 * max 1 (s.gf F.TKU_PPSOCFG_WIDTH) }).emit (.pin "PPSO" true)

/-- PPSO_EDGE (R81): at most one edge for any whole second. A second passed while PPSO is held low gets none. -/
def execPpsoEdge (s : State) : Outcome :=
  .next (s.inBlock 0x03 islSYS fun s => if s.ppsoDue then
      (if s.ppsoHeld then s.setTku fun k => { k with ppsoLast := s.ppsoSecond s.tku.dt } else s.ppsoEdge)
    else s)

/-- The pulse's end is due (R81). -/
def State.ppsoFallDue (s : State) : Bool := s.tku.ppsoHigh && decide (s.tku.ppsoFall ≤ s.now)

/-- PPSO_PULSE_END (R81). -/
def execPpsoPulseEnd (s : State) : Outcome :=
  .next (s.inBlock 0x03 islSYS fun s => if s.ppsoFallDue then (s.setTku fun k => { k with ppsoHigh := false }).emit (.pin "PPSO" false) else s)

end Sys2Proof.Machine
end

