-- ==== Sys2Proof/Machine/RegRead.lean ====
section
/-! DEFINITION. Register reads: where an access falls, what each word reads as, latches, and fields that a read clears (R1, R2, R4, R25, R64,
R83, R107, R224, R225, R243, R320, R354, R488, R511, R532 to R536). -/

namespace Sys2Proof.Machine

/-! ## Where an access falls (R225, R511, R532, R533) -/

/-- The port of a page key. -/
def keyPort (k : Nat) : Nat := (k - 0x100000000) / 0x4000000 % 2

/-- The function index of a page key. -/
def keyFn (k : Nat) : Nat := k % 0x4000000 / 0x10000

/-- The page offset of a page key. -/
def keyOff (k : Nat) : Nat := k % 0x10000

/-- The register that an offset of a function's own window names; none where the window decodes nothing. In Safe-Talk there is only the recovery
function (R511). -/
def State.hostKey (s : State) (p f off : Nat) : Option Nat :=
  if s.safeTalk then
    (if f ≠ 0 || 0x10000 ≤ off then none
     else if off = 0 || 0x8000 ≤ off then some (fnPage p 0 + off) else some (0xFC00000 + off))
  else if f = 0 then
    (if 0x10000000 ≤ off then none else if 0x80000 ≤ off && off < 0x90000 then some (fnPage p 0 + (off - 0x80000)) else some off)
  else if f = 1 then (if 0x80000 ≤ off && off < 0x90000 then some (fnPage p 1 + (off - 0x80000)) else none)
  else if off < 0x10000 then some (fnPage p f + off) else none

/-- A register lies in a gated block or an unassigned block ID (R488). -/
def State.gatedKey (s : State) (k : Nat) : Bool := decide (k < 0x10000000) && !s.enabled (blockOf k)

/-- The TKU register that a word of PF1's page shows (R536). -/
def pageAlias (k : Nat) : Option Nat :=
  let o := keyOff k
  if keyFn k ≠ 1 then none
  else if 0x240 ≤ o && o < 0x280 then some (R.TKU_TREC + (o - 0x240))
  else if 0x300 ≤ o && o < 0x31C then some (R.TKU_PTMCTL (keyPort k) + (o - 0x300))
  else none

/-! ## What a word reads as -/

/-- Device Time as a full stamp taken in SYS, in the word order of R36 (R64, R535). -/
def State.timeWord (s : State) (i : Nat) : Nat := fullOf (s.counter islSYS / 256 * 256) / 2 ^ (32 * i)

/-- TKU_TIMEINFO and FN_TIMEINFO: the stamp's bound code and TKU's state (R22, R64, R535). -/
def State.timeInfo (s : State) : Nat := s.islandBound islSYS + 256 * s.tkuState

/-- The debug register of the thread that ENG_DBGSEL names, while it is HALTED or FAULTED (R354). -/
def State.dbgReg (s : State) (r : Nat) : Nat :=
  let x := s.thread (s.gf F.ENG_DBGSEL_TID)
  if x.halted || x.st = 4 then (if r = 32 then x.pc else (x.g r).toNat) else 0

/-- A word of ENG's registers that shows the state of threads and notices (R354, R358, R359). -/
def State.peekEng (s : State) (k : Nat) : Word :=
  if 0xC050000 ≤ k && k < 0xC058000 then
    let x := s.thread ((k - 0xC050000) / 4)
    word (x.st * 16 + b2n x.halted * 128 + x.waitKind * 256)
  else if 0xC048100 ≤ k && k < 0xC048208 then word (s.dbgReg ((k - 0xC048100) / 8) / 2 ^ (32 * (k / 4 % 2)))
  else if 0xC04C040 ≤ k && k < 0xC04C080 then
    word (((s.eng.skyq.headD []).getD ((k - 0xC04C040) / 8) 0) / 2 ^ (32 * (k / 4 % 2)))
  else s.rd k

/-- A word of MW0, whatever master reads it. -/
def State.peekMw0 (s : State) (k : Nat) : Word :=
  if 0x300010 ≤ k && k < 0x30001C then word (s.timeWord ((k - 0x300010) / 4))
  else if k = R.TKU_TIMEINFO then word s.timeInfo
  else if 0x6010000 ≤ k && k < 0x6014000 && s.gb (F.MAC_CNTSNAP_SEL ((k - 0x6010000) / 0x400)) then
    word (tabGet (fun _ => 0) (s.mac ((k - 0x6010000) / 0x400)).snap (k % 0x400 / 8) / 2 ^ (32 * (k / 4 % 2)))
  else if R.MOV_CH 224 ≤ k && k < R.MOV_CH 256 then 0
  else if blockOf k = 0xC0 then s.peekEng k
  else s.rd k

/-- A word of a function page (R224, R243, R533, R535, R536). -/
def State.peekPage (s : State) (k : Nat) : Word :=
  let o := keyOff k
  let n := vectorsOf (keyFn k)
  match pageAlias k with
  | some a => s.peekMw0 a
  | none =>
    if o = 0 then word (0x72800000 + 1024 * keyPort k + keyFn k)
    else if 0x200 ≤ o && o < 0x20C then word (s.timeWord ((o - 0x200) / 4))
    else if o = 0x20C then word s.timeInfo
    else if (0x8000 ≤ o && o < 0xC000 && 16 * n ≤ o - 0x8000) || (0xC000 ≤ o && n ≤ 8 * (o - 0xC000)) then 0
    else s.rd k

/-- The word at a register key now. -/
def State.peek (s : State) (k : Nat) : Word := if 0x100000000 ≤ k then s.peekPage k else s.peekMw0 k

/-! ## Latches (R2, R64, R79, R83, R534 to R536) -/

/-- The words from `base` on, `n` of them. -/
def wordKeys (base n : Nat) : List Nat := (List.range n).map fun i => base + 4 * i

/-- The words that are latched together with the word at `k`, the one whose read latches them first. -/
def latchSet (k : Nat) : List Nat :=
  let o := keyOff k
  if 0x100000000 ≤ k && 0x200 ≤ o && o < 0x210 then wordKeys (k - o + 0x200) 4
  else if 0x100000000 ≤ k && keyFn k = 1 && 0x240 ≤ o && o < 0x280 then wordKeys (k - o + 0x240) 16
  else if 0x100000000 ≤ k && keyFn k = 1 && 0x304 ≤ o && o < 0x31C then wordKeys (k - o + 0x304) 6
  else if (0x300010 ≤ k && k < 0x30001C) || k = R.TKU_TIMEINFO then wordKeys R.TKU_TIME 3 ++ [R.TKU_TIMEINFO]
  else if 0x300104 ≤ k && k < 0x30011C then wordKeys 0x300104 6
  else if 0x300144 ≤ k && k < 0x30015C then wordKeys 0x300144 6
  else match regAt k with
    | some (r, w) => if r.kind = .plain then [] else wordKeys (k - 4 * w) r.words
    | none => []

/-- Where a key stands in a list. -/
def indexIn (k : Nat) : List Nat → Nat
  | [] => 0
  | a :: t => if a = k then 0 else indexIn k t + 1

/-- The latch that a master holds for the set of words beginning at `base`. -/
def State.latchOf (s : State) (m : Master) (base : Nat) : Option Latch := s.latches.find? fun l => l.m == m && l.reg == base

/-- A read of the first word of a latched set latches every word for the master, in the place of its earlier latch (R2). -/
def State.takeLatch (s : State) (m : Master) (base : Nat) (keys : List Nat) : State :=
  { s with latches := ⟨m, base, keys.map s.peek⟩ :: s.latches.filter fun (l : Latch) => !(l.m == m && l.reg == base) }

/-- The fields of the word at `k` that a read clears (R4). -/
def State.readClears (s : State) (k : Nat) : State :=
  match regAt k with
  | some (r, w) =>
    let fs := r.fields.filter fun f => f.acc == .rc && f.lo / 32 == w
    if fs.isEmpty then s else s.wrN k (fs.foldl (fun n f => putBits n (f.lo % 32) f.width 0) (s.rdN k))
  | none => s

/-- A read of one word by a master: the value it returns, and what the read does (R2, R4). -/
def State.readReg (s : State) (m : Master) (k : Nat) : Word × State :=
  match latchSet k with
  | [] => (s.peek k, s.readClears k)
  | base :: keys =>
    if k = base then (s.peek k, s.takeLatch m base (base :: keys))
    else match s.latchOf m base with
      | some l => (l.words.getD (indexIn k (base :: keys)) 0, s)
      | none => (s.peek k, s)

/-! ## Read accesses -/

/-- A read at an offset of a master's window (R1, R25, R225, R320, R488, R532): a host's is completed, Skylark's and an engine thread's answered on the
register bus. Skylark and the engine threads reach no function page. -/
def State.busRead (s : State) (m : Master) (off : Nat) : State :=
  let o := off / 4 * 4
  match m with
  | .host p f =>
    s.memAccess p f off false fun s =>
      match s.hostKey p f o with
      | none => s.unsupported p f off false
      | some k =>
        if s.gatedKey k then s.gatedAccess m off false else
        let (v, s) := s.readReg m k
        s.emit (.completion p f 0 (leBytes 4 v.toNat))
  | _ =>
    if 0x10000000 ≤ o then s
    else if s.gatedKey o then s.gatedAccess m off false
    else let (v, s) := s.readReg m o; s.emit (.regRead v.toNat)

/-- LATCHED_READ (R2). -/
def execLatchedRead (m : Master) (off : Nat) (s : State) : Outcome := .next (s.busRead m off)

/-- READ_CLEAR (R4). -/
def execReadClear (m : Master) (off : Nat) (s : State) : Outcome := .next (s.busRead m off)

/-- GATED_READ (R488). -/
def execGatedRead (m : Master) (off : Nat) (s : State) : Outcome := .next (s.busRead m off)

/-- TKU_TIME_READ (R64). -/
def execTkuTimeRead (m : Master) (s : State) : Outcome := .next (s.busRead m R.TKU_TIME)

/-- FN_TIME_READ (R535): in PF0 and PF1 the page stands at 0x0008_0000 of MW0. -/
def execFnTimeRead (p : Fin 2) (f : Fin 514) (s : State) : Outcome :=
  .next (s.busRead (.host p f) (if f.val < 2 then 0x80200 else 0x200))

/-- TREC_READ (R83): through TKU_TREC, and for PF1 through its page (R536). -/
def execTrecRead (m : Master) (s : State) : Outcome :=
  .next (match m with
    | .host p f => if f.val = 1 then s.busRead (.host p f) 0x80240 else s.busRead m R.TKU_TREC
    | _ => s.busRead m R.TKU_TREC)

end Sys2Proof.Machine
end

