-- ==== Sys2Proof/Machine/RegBus.lean ====
section
/-! DEFINITION. Register writes: access codes, field classes, locks, commits, and the writes that start something (R1, R3 to R9, R21, R25 to R27,
R134, R140, R406, R407, R488, R497, R532 to R538, and the register tables). -/

namespace Sys2Proof.Machine

/-! ## Field classes (R7 to R9) -/

/-- No Hedgerow or overflow entry is valid (R175). -/
def State.hedgeEmpty (s : State) : Bool := s.gf F.TBL_HSTAT_COUNT == 0 && s.gf F.TBL_OVFSTAT_COUNT == 0

/-- The block of a register counts as stopped for the register's Quiet fields (R8): each chapter's own rule. -/
def State.quietOk (s : State) (k : Nat) : Bool :=
  match blockOf k with
  | 0x04 => if k < 0x400040 then !s.gb F.EVR_CFG_CIRCEN else !s.gb (F.EVR_MIRROR_EN ((k - 0x400040) / 0x20))
  | 0x10 => s.gb (F.HP_STATUS_PERST 0) || (s.gb (F.HP_LINKCFG_HOLD 0) && !s.gb (F.HP_STATUS_LINKUP 0))
  | 0x11 => s.gb (F.HP_STATUS_PERST 1) || (s.gb (F.HP_LINKCFG_HOLD 1) && !s.gb (F.HP_STATUS_LINKUP 1))
  | 0x50 => s.bufs.all fun e => !e.2.alloc
  | 0x60 => if k < 0x6001000 then s.quadStopped (k % 0x40 / 16) else s.gb (F.MAC_STATUS_STOPPED ((k - 0x6001000) / 0x100))
  | 0x61 => s.gb F.MGE_STATUS_STOPPED
  | 0x70 => (List.range 16).all fun n => decide (s.portRate n < 800) || s.gb (F.MAC_STATUS_STOPPED n)
  | 0x71 => !s.bankBusy (if k < 0x7112000 then (k - 0x7110000) / 0x1000 else if k < 0x7120000 then (k - 0x7112000) / 0x100 else (k - 0x7120000) / 0x8000)
  | 0x80 => if k = R.TBL_MKEY then s.tbl.macs.all fun e => !mValid e.2 else s.hedgeEmpty
  | 0x88 => !s.gb F.ORS_CFG_EN && s.gf F.ORS_STAT_HELD == 0
  | 0xB0 => s.sec.xpts.all fun e => e.2.st != 1
  | 0xC0 => s.gb (F.ENG_SWCTL_STOPPED ((k - 0xC000000) / 0x100))
  | 0xF0 => if k < 0xF000100 then !s.gb F.STK_CFG_EN else !s.gb (F.STK_WIN_EN ((k - 0xF000100) / 0x10))
  | _ => if 0x100000000 ≤ k then !s.gb (F.FN_ADMCFG_EN (keyPort k) (keyFn k)) else true

/-- A commit of the register's block, or of its port's gate list, is pending (R9, R538). -/
def State.commitPending (s : State) (k : Nat) : Bool :=
  match blockOf k with
  | 0x03 => s.gb F.TKU_COMMIT_PENDING
  | 0x10 => s.gb (F.HP_COMMIT_PENDING 0)
  | 0x11 => s.gb (F.HP_COMMIT_PENDING 1)
  | 0x40 => s.gb F.MOV_COMMIT_PENDING
  | 0x70 => s.gb F.PRS_COMMIT_PENDING
  | 0x80 => s.gb F.TBL_COMMIT_PENDING
  | 0x90 => s.gb (F.TMG_GCLCTL_PENDING (if k < 0x9080000 then (k - 0x9001000) / 0x100 else (k - 0x9080000) / 0x2000))
  | _ => false

/-! ## A write of a register's fields (R3, R4, R6 to R9) -/

/-- What a write leaves in a field. `old` and `new` are the register before, and as the write spells it; the write covers `n` bits from `lo` on. -/
def FieldD.after (f : FieldD) (old new lo n : Nat) : Nat :=
  let o := bitsOf old f.lo f.width
  if f.lo + f.width ≤ lo || lo + n ≤ f.lo then o else
  match f.acc with
  | .rw => max f.least (min f.most (bitsOf new f.lo f.width))
  | .rwl => bitsOf new f.lo f.width
  | .rws => bitsOf new f.lo f.width
  | .w1c => o - (o &&& bitsOf new f.lo f.width)
  | _ => o

/-- A write of `n` words of register `r`, whose first word is at `base`, from word `w` on (R4 to R9). It is dropped whole and logged where a value is
refused, a Quiet field would change while its block runs, a Shadowed field while a commit is pending, or a locked field; else `next` follows. -/
def State.putReg (s : State) (m : Master) (off : Nat) (r : RegD) (base w n v : Nat) (next : State → State) : State :=
  let old := s.rdWide base r.words
  let new := putBits old (32 * w) (32 * n) v
  let fs := r.fields.map fun f => (f, f.after old new (32 * w) (32 * n))
  let changed (c : FClass) : Bool := fs.any fun e => e.1.cls == c && e.2 != bitsOf old e.1.lo e.1.width
  if fs.any (fun e => e.1.bad.contains e.2) then s.cfgViol m off
  else if changed .quiet && !s.quietOk base then s.cfgViol m off
  else if r.fields.any (fun f => f.cls == .shadow) && s.commitPending base then s.cfgViol m off
  else if r.fields.any (fun f => f.acc == .rwl) && s.gb F.TOP_LOCK_LOCK then s.cfgViol m off
  else
    let z := fs.foldl (fun a e => putBits a e.1.lo e.1.width e.2) 0
    next ((List.range n).foldl (fun s i => s.wrN (base + 4 * (w + i)) (bitsOf z (32 * (w + i)) 32)) s)

/-- The halves that other writes of the master hold, without those of one register. -/
def State.dropHeldLow (s : State) (m : Master) (base : Nat) : State :=
  { s with heldLow := s.heldLow.filter fun (l : Latch) => !(l.m == m && l.reg == base) }

/-- The lower half that a write of the upper half goes with: the one the master holds, else the register's own (R3). -/
def State.lowHalf (s : State) (m : Master) (base : Nat) : Nat :=
  match s.heldLow.find? fun l => l.m == m && l.reg == base with
  | some l => (l.words.headD 0).toNat
  | none => s.rdN base

/-- A write of one word (R3, R4): the lower half of a 64-bit register is held; its upper half takes effect together with the lower one. A write where no register
lies is ignored (R532). -/
def State.storeReg (s : State) (m : Master) (off k v : Nat) (next : State → State) : State :=
  match regAt k with
  | none => s
  | some (r, w) =>
    let base := k - 4 * w
    if r.kind = .pair then
      (if w = 0 then let s := s.dropHeldLow m base; { s with heldLow := ⟨m, base, [word v]⟩ :: s.heldLow }
       else (s.dropHeldLow m base).putReg m off r base 0 2 (s.lowHalf m base + v * 2 ^ 32) next)
    else s.putReg m off r base w 1 v next

/-- `f` where a bit of the written word is 1. -/
def State.onBit (s : State) (v i : Nat) (f : State → State) : State := if bitAt v i then f s else s

/-! ## TOP (R5, R21, R26, R537) -/

/-- A write that changes the field of an enabled MAC (R21). -/
def State.pipeBad (s : State) (v : Nat) : Bool :=
  (List.range 16).any fun n => bitsOf v (2 * n) 2 != bitsOf (s.rdN R.TOP_PIPEMAP) (2 * n) 2 && s.gb (F.MAC_PORTCFG_EN n)

def State.writeTop (s : State) (m : Master) (off k v : Nat) : State :=
  if k = R.TOP_PIPEMAP then (if s.pipeBad v then s.cfgViol m off else s.wrN k v)
  else if k = R.TOP_MASTERS then (if m = .skylark then s.storeReg m off k v id else s)
  else if k = R.TOP_LOCK then s.onBit v 0 fun s => s.sb F.TOP_LOCK_LOCK true
  else s.storeReg m off k v id

/-- TOP_LOCK_SET (R5, R537). -/
def execTopLockSet (m : Master) (s : State) : Outcome := .next (s.asWriter m R.TOP_LOCK fun s => s.sb F.TOP_LOCK_LOCK true)

/-! ## CGU and RST (R480, R487, R491, R496, R497) -/

/-- CGU_GPIOSAFE with each 3 stored as 0. -/
def gpioSafe (v : Nat) : Nat := (List.range 16).foldl (fun v g => if bitsOf v (2 * g) 2 = 3 then putBits v (2 * g) 2 0 else v) v

/-- A write of CGU_ISL: a STOPREQ that is refused drops the whole write (R480). -/
def State.writeIsl (s : State) (m : Master) (off i v : Nat) : State :=
  let stop := bitAt v 1
  if stop && !s.gb (F.CGU_ISL_STOPREQ i) && !s.mayStop i then s.cfgViol m off else
  let s := s.onBit v 4 fun s => s.sb (F.CGU_ISL_LOSS_UNKNOWN i) false
  let s := s.writeSrc i (bitAt v 0)
  if stop == s.gb (F.CGU_ISL_STOPREQ i) then s else s.stopReq m i stop

def State.writeCgu (s : State) (m : Master) (off k v : Nat) : State :=
  if k = R.CGU_GPIOSAFE then s.storeReg m off k (gpioSafe v) id
  else if 0x100100 ≤ k && k < 0x100500 then
    let b := (k - 0x100100) / 4
    if bitAt v 0 then s.blockEnable m b else s.blockGate m b
  else if 0x100800 ≤ k && k < 0x100A80 && k % 8 = 0 then s.writeIsl m off ((k - 0x100800) / 8) v
  else s.storeReg m off k v id

def State.writeRst (s : State) (m : Master) (off k v : Nat) : State :=
  if k = R.RST_CTL then
    (if bitAt v 0 then s.warmReset (warmCause (some m)) else s.onBit v 1 fun s => s.mgtRst m)
  else s.storeReg m off k v fun s =>
    if k = R.RST_BLK then s.onBit v 14 State.blkGo
    else if k = R.RST_MGTWDOG then s.onBit v 17 fun s => s.wdogKick m
    else s

/-! ## TKU, EVR and FLT (R58, R60, R63, R77, R83, R84, R454, R461, R469 to R471) -/

/-- A write of TKU_CTRL: TAI and UTCV, the source, then the requests in the order of their bits. -/
def State.writeTkuCtrl (s : State) (v : Nat) : State :=
  let s := (s.sb F.TKU_CTRL_TAI (bitAt v 11)).sb F.TKU_CTRL_UTCV (bitAt v 12)
  let s := s.srcChange (bitsOf v 0 2) (bitsOf v 4 4)
  ((s.onBit v 8 State.lockReq).onBit v 9 State.holdReq).onBit v 10 State.untrace

def State.writeTku (s : State) (m : Master) (off k v : Nat) : State :=
  if k = R.TKU_CTRL then s.writeTkuCtrl v
  else if k = R.TKU_SRVUNC then s.writeSrvunc (word v)
  else if R.TKU_TREC < k && k < R.TKU_TREC + 20 then s.storeReg m off (R.TKU_TRECSH + (k - R.TKU_TREC - 4)) v id
  else s.storeReg m off k v fun s =>
    if k = R.TKU_ADJCMD then s.onBit v 2 State.adjGo
    else if k = R.TKU_COMMIT then s.onBit v 0 State.tkuCommit
    else if k = R.TKU_PTMCTL 0 then s.onBit v 1 fun s => s.ptmTrig 0
    else if k = R.TKU_PTMCTL 1 then s.onBit v 1 fun s => s.ptmTrig 1
    else s

/-- A mirror that is enabled begins with the zeroed ring its driver gives it (R470). -/
def State.mirrorOn (old s : State) (p : Nat) : State :=
  if !old.gb (F.EVR_MIRROR_EN p) && s.gb (F.EVR_MIRROR_EN p) then
    { s with evr := { s.evr with mirrors := tabSet (fun _ => {}) s.evr.mirrors p {} } }
  else s

def State.writeEvr (s : State) (m : Master) (off k v : Nat) : State :=
  if k = R.EVR_KEEPACK then s.keepAck v
  else s.storeReg m off k v fun t =>
    if k = R.EVR_RCMD then t.onBit v 2 fun t => t.recordRead (bitsOf v 0 2)
    else if k = R.EVR_MIRROR 0 then State.mirrorOn s t 0
    else if k = R.EVR_MIRROR 1 then State.mirrorOn s t 1
    else t

def State.writeFlt (s : State) (m : Master) (off k v : Nat) : State :=
  s.storeReg m off k v fun s =>
    if 0x500100 ≤ k && k < 0x500600 && k % 0x100 = 0 then s.onBit v 0 fun s => s.ladderDone ((k - 0x500100) / 0x100) (v / 2 ^ 16)
    else if 0x501000 ≤ k && k < 0x501100 then s.onBit v 17 fun s => s.undeclare ((k - 0x501000) / 4)
    else s

/-! ## HP, QMG, MOV and BPM (R228, R280, R406, R407, R422, R423) -/

def State.writeHp (s : State) (m : Master) (off k v : Nat) : State :=
  s.storeReg m off k v fun s =>
    if k = R.HP_COMMIT 0 then s.onBit v 0 fun s => s.hpCommit 0
    else if k = R.HP_COMMIT 1 then s.onBit v 0 fun s => s.hpCommit 1
    else s

def State.writeQmg (s : State) (m : Master) (off k v : Nat) : State :=
  s.storeReg m off k v fun s => if k = R.QMG_QCMD then s.onBit v 3 fun s => s.qcmd (bitsOf v 0 3) (bitsOf v 8 17) else s

def State.writeMov (s : State) (m : Master) (off k v : Nat) : State :=
  if R.MOV_CH 224 ≤ k && k < R.MOV_CH 256 then s.cfgViol m off
  else s.storeReg m off k v fun s => if k = R.MOV_COMMIT then s.onBit v 8 fun s => s.movCommit (bitsOf v 0 8) else s

/-- The bytes of the first `n` pools' parts. -/
def State.partBytes (s : State) (hbm : Bool) (n : Nat) : Nat := ((List.range n).map fun k => poolSize k * s.partCount k hbm).sum

/-- The pools laid out anew, every buffer free (R406). -/
def State.layoutPools (s : State) : State :=
  (List.range 8).foldl (fun s k =>
    (((s.sf (F.BPM_CHIPBASE_CHIPBASE k) (s.partBytes false k)).sf (partFree k false) (s.partCount k false)).wr64 (R.BPM_HBMOFF k)
      (s.partBytes true k)).sf (partFree k true) (s.partCount k true)) s

/-- A write of BPM's registers: one that the parts would outgrow their memories by, or a count above 1,048,575, is refused (R407). -/
def State.writeBpm (s : State) (m : Master) (off k v : Nat) : State :=
  let count := decide (0x5000100 ≤ k) && decide (k < 0x5000200) && decide (k % 0x20 < 8)
  if count && 2 ^ 20 ≤ v then s.cfgViol m off
  else if count || k = R.BPM_HBMSIZE then
    let t := s.storeReg m off k v State.layoutPools
    if 0x4000000 < t.partBytes false 8 || t.gf F.BPM_HBMSIZE_SIZE * 65536 < t.partBytes true 8 then s.cfgViol m off else t
  else s.storeReg m off k v id

/-! ## MAC and MGE (R86, R87, R98, R108, R528, R530) -/

/-- A write of MAC_PORTCFG: EN starts and stops the port (R98), an absent MAC refusing a start (R86). -/
def State.writePort (s : State) (m : Master) (off k n v : Nat) : State :=
  let en := s.gb (F.MAC_PORTCFG_EN n)
  if bitAt v 0 && s.portRate n = 0 then s.cfgViol m off
  else s.storeReg m off k (putBits v 0 1 (b2n en)) fun s =>
    if bitAt v 0 && !en then s.portStart m n else if en && !bitAt v 0 then s.portStop n else s

def State.writeMac (s : State) (m : Master) (off k v : Nat) : State :=
  let n := (k - 0x6001000) / 0x100
  if k < 0x6000010 then s.writeMode m (k % 0x10 / 4) (v % 8)
  else if 0x6001000 ≤ k && k < 0x6002000 then
    (match k % 0x100 with
     | 0x00 => s.writePort m off k n v
     | 0x10 => s.storeReg m off k (putBits v 0 14 (min (bitsOf v 0 14) (s.gf (F.MAC_RXBUF_SIZE n)))) id
     | 0x48 => s.storeReg m off k v fun s => s.onBit v 0 fun s => s.snapshot n
     | _ => s.storeReg m off k v id)
  else s.storeReg m off k v id

def State.writeMge (s : State) (m : Master) (off k v : Nat) : State :=
  if k = R.MGE_CFG then
    (if bitsOf v 1 2 = 2 && !bitAt v 3 then s.cfgViol m off
     else s.storeReg m off k v fun s => if bitAt v 0 then s.sb F.MGE_STATUS_STOPPED false else s.mgeStop)
  else if k = R.MGE_MDIO then s.mdioWrite v
  else s.storeReg m off k v id

/-! ## PRS, CLS and TBL (R128, R134, R140, R146, R148, R151, R169, R171) -/

/-- W0 of a profile with a MAXHDR of 0 stored as 16. -/
def profWord (k v : Nat) : Nat := if 0x7001000 ≤ k && k < 0x7001800 && k % 0x20 = 0 && bitsOf v 8 5 = 0 then putBits v 8 5 16 else v

def State.writePrs (s : State) (m : Master) (off k v : Nat) : State :=
  s.storeReg m off k (profWord k v) fun s => if k = R.PRS_COMMIT then s.onBit v 0 State.prsCommit else s

/-- A CLS command with any OP (R148). -/
def State.clsOp (s : State) (op b i : Nat) : State :=
  match op with
  | 1 => s.writeRule b i
  | 2 => s.readRule b i
  | 3 => s.writeAlist b i
  | 4 => s.readAlist b i
  | 5 => s.copyBank b
  | 6 => s.clearBank b
  | _ => s.clsStatus 3

/-- A push template's control word that is refused (R140): LEN, or a header that does not fit within it. -/
def pushBad (v : Nat) : Bool :=
  let n := bitsOf v 0 7
  let out (lo size : Nat) : Bool := bitsOf v lo 6 != 0x3F && decide (n < bitsOf v lo 6 + size)
  n == 0 || decide (64 < n) || out 7 20 || out 13 40 || out 19 8

def State.writeCls (s : State) (m : Master) (off k v : Nat) : State :=
  let body (o : Nat) : Nat := (o - 0x7120000) % 0x80
  if k = R.CLS_RCMD then
    (if bitAt v 4 then s.clsCmd m (bitsOf v 0 3) (bitsOf v 3 1) (bitsOf v 15 17) fun s => s.clsOp (bitsOf v 0 3) (bitsOf v 3 1) (bitsOf v 15 17)
     else s.storeReg m off k v id)
  else if 0x7110000 ≤ k && k < 0x7112000 && extractorBad v then s.cfgViol m off
  else if 0x7120000 ≤ k && k < 0x7130000 && body k = 0x40 then
    (if pushBad v then s.cfgViol m off else s.storeReg m off k (v % 2 ^ 26) id)
  else s.storeReg m off k v fun s => if k = R.CLS_RULESWAP then s.onBit v 1 State.ruleSwap else s

/-- TBL_AGECFG with a TICK of 1 to 99 stored as 100 (R169). -/
def ageWord (v : Nat) : Nat := if bitsOf v 0 16 ≠ 0 && bitsOf v 0 16 < 100 then putBits v 0 16 100 else v

def State.writeTbl (s : State) (m : Master) (off k v : Nat) : State :=
  if 0x8010000 ≤ k && k < 0x8012000 && k % 0x80 < 0x40 && extractorBad v then s.cfgViol m off
  else s.storeReg m off k (if k = R.TBL_AGECFG then ageWord v else v) fun s =>
    if k = R.TBL_COMMIT then s.onBit v 0 State.tblCommit
    else if 0x8001000 ≤ k && k < 0x8001400 && k % 0x100 = 0 then s.onBit v 4 fun s => s.tblOp ((k - 0x8001000) / 0x100) (bitsOf v 0 4)
    else s

/-! ## ORS and TMG (R192, R200, R220, R221) -/

/-- An ORS command with any OP (R220). -/
def State.orsOp (s : State) (op i : Nat) : State :=
  match op with
  | 1 => s.orsOpen i
  | 2 => s.orsModify i
  | 3 => s.orsClose i
  | 4 => (s.putWords (R.ORS_FDATA 0) (s.flow i).read).orsStatus 0
  | _ => s.orsStatus 4

def State.writeOrs (s : State) (m : Master) (off k v : Nat) : State :=
  s.storeReg m off k v fun t =>
    if k = R.ORS_CFG then (if s.gb F.ORS_CFG_EN && !bitAt v 0 then t.orsDisable else t)
    else if k = R.ORS_FCMD then t.onBit v 3 fun t => if t.gb F.ORS_FCMD_BUSY then t else t.orsOp (bitsOf v 0 3) (bitsOf v 18 14)
    else t

/-- A TMG command with any OP (R200). -/
def State.tmgOp (s : State) (op kind i : Nat) : State :=
  match op with
  | 1 => s.writeNode kind i
  | 2 => s.readNode kind i
  | 3 => s.flushCmd kind i
  | 4 => s.writeMeter kind i
  | 5 => s.readMeter kind i
  | _ => s.tmgStatus 3

def State.writeTmg (s : State) (m : Master) (off k v : Nat) : State :=
  s.storeReg m off k v fun s =>
    if k = R.TMG_NCMD then s.onBit v 6 fun s => s.tmgOp (bitsOf v 0 3) (bitsOf v 3 3) (bitsOf v 14 18)
    else if 0x9001000 ≤ k && k < 0x9002000 && k % 0x100 = 4 then s.onBit v 0 fun s => s.gclCommit ((k - 0x9001000) / 0x100)
    else s

/-! ## ENG (R333, R334, R354, R358) -/

/-- A write of ENG_SWCTL: RUN, ICINV and REGWR. -/
def State.writeSwctl (s : State) (m : Master) (off k w v : Nat) : State :=
  let run := s.gb (F.ENG_SWCTL_RUN w)
  s.storeReg m off k (putBits v 0 1 (b2n run)) fun s =>
    let s := s.onBit v 2 fun s => s.sb (F.ENG_SWCTL_ICINV w) true
    if bitAt v 0 && !run then s.swardRun w else if run && !bitAt v 0 then s.swardHold w else s

/-- A debug register of the selected thread takes a value, while the thread is HALTED or FAULTED (R354). -/
def State.writeDbg (s : State) (m : Master) (off r v : Nat) : State :=
  let t := s.gf F.ENG_DBGSEL_TID
  let x := s.thread t
  if x.halted || x.st = 4 then
    (if r = 32 then s.setThread t { x with pc := v % 2 ^ 32 / 4 * 4 } else s.setThread t (x.setG r (dword v)))
  else s.cfgViol m off

/-- A write of one half of ENG_DBGREG (R3). -/
def State.writeDbgHalf (s : State) (m : Master) (off k v : Nat) : State :=
  let r := (k - 0xC048100) / 8
  let base := k / 8 * 8
  if k % 8 = 0 then let s := s.dropHeldLow m base; { s with heldLow := ⟨m, base, [word v]⟩ :: s.heldLow }
  else
    let low := match s.heldLow.find? fun l => l.m == m && l.reg == base with
      | some l => (l.words.headD 0).toNat
      | none => s.dbgReg r % 2 ^ 32
    (s.dropHeldLow m base).writeDbg m off r (low + v * 2 ^ 32)

def State.writeEng (s : State) (m : Master) (off k v : Nat) : State :=
  if k < 0xC004000 && k % 0x100 = 0 then s.writeSwctl m off k ((k - 0xC000000) / 0x100) v
  else if 0xC048100 ≤ k && k < 0xC048208 then s.writeDbgHalf m off k v
  else if k = R.ENG_SKYQPOP then s.onBit v 0 State.skyqPop
  else if 0xC050000 ≤ k && k < 0xC058000 then
    let t := (k - 0xC050000) / 4
    (((s.onBit v 0 fun s => s.haltThread t).onBit v 1 fun s => s.resumeThread t).onBit v 2 fun s => s.stepThread t).onBit v 3 fun s => s.killThread t
  else s.storeReg m off k v id

/-! ## STK and CFS (R443, R447, R511 to R513) -/

def State.writeStk (s : State) (m : Master) (off k v : Nat) : State :=
  s.storeReg m off k v fun t =>
    if k = R.STK_CFG then (if s.gb F.STK_CFG_EN && !bitAt v 0 then (t.dropLink 0).dropLink 1 else t)
    else if k = R.STK_CTL then t.onBit v 0 State.handoverWrite
    else t

def State.writeCfs (s : State) (m : Master) (off k v : Nat) : State :=
  if k = R.CFS_CMD then (if bitAt v 3 then s.cfsGo (s.cfsIssuer m) none (bitsOf v 0 3) else s.storeReg m off k v id)
  else s.storeReg m off k v fun s => if k = R.CFS_CTL then s.onBit v 0 fun s => s.warmReq m else s

/-! ## Function pages (R224, R268, R281, R533, R536) -/

/-- A write of a function's own page. -/
def State.writePage (s : State) (m : Master) (off k v : Nat) : State :=
  let p := keyPort k
  let f := keyFn k
  let o := keyOff k
  if o = 0x100 then s.writeAdmcfg m p f v
  else if f = 1 && o = 0x300 then s.onBit v 1 fun s => s.ptmTrig p
  else if 0x8000 ≤ o && o < 0xC000 && 16 * vectorsOf f ≤ o - 0x8000 then s
  else s.storeReg m off k v fun s => if 0x8000 ≤ o && o < 0xC000 && o % 16 = 12 then s.msixPending p f else s

/-! ## Write accesses -/

/-- A write of a register by a master that may write it. -/
def State.writeReg (s : State) (m : Master) (off k v : Nat) : State :=
  if 0x100000000 ≤ k then s.writePage m off k v else
  match blockOf k with
  | 0x00 => s.writeTop m off k v
  | 0x01 => s.writeCgu m off k v
  | 0x02 => s.writeRst m off k v
  | 0x03 => s.writeTku m off k v
  | 0x04 => s.writeEvr m off k v
  | 0x05 => s.writeFlt m off k v
  | 0x10 => s.writeHp m off k v
  | 0x11 => s.writeHp m off k v
  | 0x30 => s.writeQmg m off k v
  | 0x40 => s.writeMov m off k v
  | 0x50 => s.writeBpm m off k v
  | 0x60 => s.writeMac m off k v
  | 0x61 => s.writeMge m off k v
  | 0x70 => s.writePrs m off k v
  | 0x71 => s.writeCls m off k v
  | 0x80 => s.writeTbl m off k v
  | 0x88 => s.writeOrs m off k v
  | 0x90 => s.writeTmg m off k v
  | 0xC0 => s.writeEng m off k v
  | 0xF0 => s.writeStk m off k v
  | 0xFC => s.writeCfs m off k v
  | _ => s.storeReg m off k v id

/-- A write that reaches a register, by a master's write rights (R26, R27): a function's own page is always its own; a write of TOP_MASTERS by anything but Skylark is
ignored. -/
def State.writeBy (s : State) (m : Master) (off k v : Nat) : State :=
  if 0x100000000 ≤ k || s.mayWrite m k || k = R.TOP_MASTERS then s.writeReg m off k v else s.cfgViol m off

/-- A write at an offset of a master's window, `be` being a host's byte enables (R1, R225, R320, R488, R532). -/
def State.busWrite (s : State) (m : Master) (off : Nat) (be : BitVec 4) (v : Nat) : State :=
  let o := off / 4 * 4
  match m with
  | .host p f =>
    s.memAccess p f off true fun s =>
      match s.hostKey p f o with
      | none => s.unsupported p f off true
      | some k =>
        if s.gatedKey k then s.gatedAccess m off true
        else if be ≠ 15 then (s.hpCount p 8).hpReport p 5 0 f
        else s.writeBy m off k v
  | _ =>
    if 0x10000000 ≤ o then s
    else if s.gatedKey o then s.gatedAccess m off true
    else s.writeBy m off o v

/-- REGISTER_WRITE (R4). -/
def execRegisterWrite (m : Master) (off : Nat) (be : BitVec 4) (v : Word) (s : State) : Outcome := .next (s.busWrite m off be v.toNat)

end Sys2Proof.Machine
end

