-- ==== Sys2Proof/Machine/EngBus.lean ====
section
/-! DEFINITION. The loads and stores of engine threads, in register space too (R316, R318 to R322, R331, R488). -/

namespace Sys2Proof.Machine

/-! ## Register space (R320) -/

/-- The offset in register space that an aligned access may name: not one of the function pages. -/
def regOffset (t a : Nat) : Option Nat :=
  match place t a with
  | .reg o => if 0x80000 ≤ o && o < 0x90000 then none else some o
  | _ => none

/-- An access to a gated block in native mode is logged and raises BUSERR (R320, R331, R488). -/
def State.busErr (s : State) (t : Fin 8192) (instr a o : Nat) : State :=
  (s.gatedEvent (.engine t) o).raise t instr { code := 4, addr := a, blame := some (blockOf o * 256) }

/-- A 32-bit read of register space that raises no exception: 0 from a gated block in compatibility mode (R320). -/
def State.engReg (s : State) (t : Fin 8192) (o : Nat) : Nat × State :=
  if s.gatedKey o then (0, s.gatedEvent (.engine t) o) else
  let (v, s) := s.readReg (.engine t) o
  (v.toNat, s)

/-- A 32-bit write of register space: dropped by a gated block in compatibility mode (R320). -/
def State.engPut (s : State) (t : Fin 8192) (o v : Nat) : State :=
  if s.gatedKey o then s.gatedEvent (.engine t) o else s.writeBy (.engine t) o o (v % 2 ^ 32)

/-- A load of 4 or 8 bytes of register space, the lower address first. -/
def State.engRegs (s : State) (t : Fin 8192) (o n : Nat) : Nat × State :=
  let (lo, s) := s.engReg t o
  if n = 8 then
    let (hi, s) := s.engReg t (o + 4)
    (lo + hi * 2 ^ 32, s)
  else (lo, s)

/-- A store of 4 or 8 bytes of register space, the lower address first. -/
def State.engPuts (s : State) (t : Fin 8192) (o n v : Nat) : State :=
  let s := s.engPut t o v
  if n = 8 then s.engPut t (o + 4) (v / 2 ^ 32) else s

/-! ## Loads and stores -/

/-- The address of a load or a store. -/
def ThreadSt.addr (x : ThreadSt) (ra : Nat) (imm : BitVec 16) : Nat := (x.g ra + imm.signExtend 64).toNat

/-- A load of `n` bytes; `regs` says that register space accepts it (R320). -/
def State.load (s : State) (t : Fin 8192) (op n : Nat) (regs : Bool) (rd ra : Fin 32) (imm : BitVec 16) (f : Nat → DWord) : State :=
  let word := encI op rd ra imm
  s.issues t word fun s =>
    let a := (s.thread t).addr ra imm
    match (if regs && a % n == 0 then regOffset t a else none) with
    | some o =>
      if s.gatedKey o && !s.gb F.CGU_COMPAT_ZEROREAD then s.busErr t word a o else
      let (v, s) := s.engRegs t o n
      s.ends t rd (f v)
    | none =>
      match s.loadMem t a n with
      | .ok v => s.ends t rd (f v)
      | .error e => s.raise t word e

/-- A store of the low `n` bytes of `rs`. The store retires before a register write that acts on its own thread takes effect. -/
def State.stores (s : State) (t : Fin 8192) (op n : Nat) (regs : Bool) (rs ra : Fin 32) (imm : BitVec 16) : State :=
  let word := encI op rs ra imm
  s.issues t word fun s =>
    let x := s.thread t
    let a := x.addr ra imm
    let v := (x.g rs).toNat
    match (if regs && a % n == 0 then regOffset t a else none) with
    | some o =>
      if s.gatedKey o && !s.gb F.CGU_COMPAT_ZEROREAD then s.busErr t word a o
      else (s.ends t 0 0).engPuts t o n v
    | none =>
      match s.storeMem t a n v with
      | .ok s => s.ends t 0 0
      | .error e => s.raise t word e

/-- The low `n` bytes of a number, sign-extended. -/
def sextBytes (n v : Nat) : DWord := BitVec.ofInt 64 (signedOf (8 * n) v)

def execLd8u (t : Fin 8192) (rd : Fin 32) (ra : Fin 32) (imm : BitVec 16) (s : State) : Outcome := .next (s.load t 0x10 1 false rd ra imm dword)

def execLd16u (t : Fin 8192) (rd : Fin 32) (ra : Fin 32) (imm : BitVec 16) (s : State) : Outcome := .next (s.load t 0x11 2 false rd ra imm dword)

def execLd32u (t : Fin 8192) (rd : Fin 32) (ra : Fin 32) (imm : BitVec 16) (s : State) : Outcome := .next (s.load t 0x12 4 true rd ra imm dword)

def execLd64 (t : Fin 8192) (rd : Fin 32) (ra : Fin 32) (imm : BitVec 16) (s : State) : Outcome := .next (s.load t 0x13 8 true rd ra imm dword)

def execLd8s (t : Fin 8192) (rd : Fin 32) (ra : Fin 32) (imm : BitVec 16) (s : State) : Outcome := .next (s.load t 0x14 1 false rd ra imm (sextBytes 1))

def execLd16s (t : Fin 8192) (rd : Fin 32) (ra : Fin 32) (imm : BitVec 16) (s : State) : Outcome := .next (s.load t 0x15 2 false rd ra imm (sextBytes 2))

def execLd32s (t : Fin 8192) (rd : Fin 32) (ra : Fin 32) (imm : BitVec 16) (s : State) : Outcome := .next (s.load t 0x16 4 false rd ra imm (sextBytes 4))

def execSt8 (t : Fin 8192) (rs : Fin 32) (ra : Fin 32) (imm : BitVec 16) (s : State) : Outcome := .next (s.stores t 0x18 1 false rs ra imm)

def execSt16 (t : Fin 8192) (rs : Fin 32) (ra : Fin 32) (imm : BitVec 16) (s : State) : Outcome := .next (s.stores t 0x19 2 false rs ra imm)

def execSt32 (t : Fin 8192) (rs : Fin 32) (ra : Fin 32) (imm : BitVec 16) (s : State) : Outcome := .next (s.stores t 0x1A 4 true rs ra imm)

def execSt64 (t : Fin 8192) (rs : Fin 32) (ra : Fin 32) (imm : BitVec 16) (s : State) : Outcome := .next (s.stores t 0x1B 8 true rs ra imm)

end Sys2Proof.Machine
end

