-- ==== Sys2Proof/Machine/Firmware.lean ====
section
/-! DEFINITION. Skylark's firmware from its start to RUN: the tests, the sections of the slot, and the release of the links (R502, R503, R507 to R510, R537). -/

namespace Sys2Proof.Machine

/-- The sections of the booted slot that have a type, in the order of the slot. -/
def State.bootSects (s : State) (typ : Nat) : List (List Byte) :=
  let k := s.gf F.CFS_STAT_BOOTED
  match s.slotSects k with
  | some l => (l.filter fun x => x.typ == typ).map (s.sectBytes k)
  | none => []

/-- A write list: entries of an MW0 offset and a value, applied in order as register writes by Skylark (R502). Bytes after the last whole entry do nothing
(log entry 59). -/
def State.writeList (s : State) : Nat → List Byte → State
  | 0, _ => s
  | n + 1, l => State.writeList (s.busWrite .skylark (ofLe (l.take 4)) 15 (ofLe ((l.drop 4).take 4))) n (l.drop 8)

/-- Every write list of a section type. -/
def State.applySects (s : State) (typ : Nat) : State := (s.bootSects typ).foldl (fun s l => s.writeList (l.length / 8) l) s

/-- A BOARD section (R74, R502, R537): TOP_BOARD, the delays of the board, which TKU's calibration takes in, and its write list. -/
def State.applyBoard (s : State) (l : List Byte) : State :=
  let s := s.busWrite .skylark R.TOP_BOARD 15 (ofLe (l.take 4))
  let d := (List.range 32).foldl (fun t i => tabSet (fun _ => 0) t i (ofLe ((l.drop (4 + 4 * i)).take 4))) ([] : Tab Nat)
  let s := s.modMgt fun g => { g with board := d }
  let s := (List.range 16).foldl (fun s n => s.loadCal n (s.quadMode (n / 4))) s
  s.writeList ((l.length - 132) / 8) (l.drop 132)

/-- Engine image `k`'s code is copied into HBM (R503), at an address that the manual leaves open (log entry 59). -/
def State.loadImage (s : State) (k : Nat) (l : List Byte) : State :=
  let code := l.drop 256
  s.hbmWrite (Config.engineImage k % (2 ^ 35 - code.length)) code

/-- Every engine image of the slot is copied. -/
def State.loadImages (s : State) : State :=
  let l := s.bootSects 2
  (List.range l.length).foldl (fun s k => s.loadImage k (l.getD k [])) s

/-- Tests 6 and 7 write every word of HBM, where they run; what they leave there is taken as unlisted bytes (log entry 50). -/
def State.testHbm (s : State) : State := if s.testRes 4 = 1 then { s with hbm := [] } else s

/-- The firmware's tests (R508, R509). -/
def State.firmwareTests (s : State) (fails : List (Nat × Nat × Nat)) : State :=
  ((List.range 12).foldl (fun s t => s.runTest fails (4 + t)) s).testHbm

/-- Steps 2 to 5 of R507: the sections, the blocks in use, TOP's lock, the links, and RUN. Both host ports are in use. -/
def State.firmwareRun (s : State) (blocks : List (Fin 256)) : State :=
  let s := (s.bootSects 0x10).foldl State.applyBoard s
  let s := ((s.applySects 0x11).applySects 0x12).applySects 0x13
  let s := s.loadImages
  let s := ([0x10, 0x11] ++ blocks.map Fin.val).foldl (fun (s : State) b => s.blockEnable .skylark b) s
  let s := (s.sb F.EVR_CFG_CIRCEN true).sb F.TOP_LOCK_LOCK true
  let s := (s.sb (F.HP_LINKCFG_HOLD 0) false).sb (F.HP_LINKCFG_HOLD 1) false
  (s.sb F.TOP_MASTERS_MGTUP true).sf F.RST_STATE_PSTATE 1

/-- Skylark's firmware starts (R507): a failed test puts the device in Safe-Talk, with the firmware's agent. -/
def State.firmwareBoot (s : State) (fails : List (Nat × Nat × Nat)) (blocks : List (Fin 256)) : State :=
  let s := s.modMgt fun g => { g with boot := 0 }
  let s := s.firmwareTests fails
  let s := if s.anyFailed then s.enterSafeTalk else s.firmwareRun blocks
  (s.mgmtFrom (some (s.gf F.CFS_STAT_BOOTED))).agentUp 2

/-- FIRMWARE_BOOT (R507 to R510): once the ROM has started the firmware. `fails` lists (test, first failing unit, failing units) for the tests that the
hardware fails, and `blocks` the blocks in use. -/
def execFirmwareBoot (fails : List (Nat × Nat × Nat)) (blocks : List (Fin 256)) (s : State) : Outcome :=
  .next (if s.runs 1 && s.mgt.boot == 3 && s.gf F.RST_STATE_PSTATE == 0 then s.firmwareBoot fails blocks else s)

end Sys2Proof.Machine
end

