-- ==== Sys2Proof/Machine/Mgt.lean ====
section
/-! DEFINITION. The management commands (R519, R524 to R526), and the end of a configuration-store command (R514, R515). -/

namespace Sys2Proof.Machine

/-- A command that writes (R524). -/
def cmdWrites (c : Nat) : Bool := [0x04, 0x06, 0x07, 0x08, 0x09, 0x0B, 0x0C, 0x0D].contains c

/-- A command of the recovery subset (R524). -/
def cmdRecovery (c : Nat) : Bool := decide (c ≤ 0x09)

/-- The binding's WRALLOW bit (R530). -/
def State.wrAllow (s : State) (binding : Nat) : Bool :=
  bitAt (s.gf F.MGT_BIND_WRALLOW) (if binding = 0 then 0 else if binding = 3 then 2 else 1)

/-- An agent serves (R518). -/
def State.agentServes (s : State) : Bool := s.gf F.MGT_STATUS_AGENT != 0 && s.gf F.RST_STATE_PSTATE != 4

/-- The request at the front, if it is command `c`, is judged and carried out by `f` on its payload, of which `len` says whether its length is right (R518, R524
to R526). -/
def State.mgtCmd (s : State) (c : Nat) (len : Nat → Bool) (f : State → MgtReq → List Byte → State) : State :=
  match s.mgt.reqs with
  | r :: rest =>
    if !r.isCmd || r.cmd ≠ c || !s.agentServes || s.mgt.cfsWait.isSome then s else
    let s := s.modMgt fun g => { g with reqs := rest }
    let l := r.body.drop 8
    if s.gf F.MGT_STATUS_AGENT = 1 && !cmdRecovery c then s.respond r 4 []
    else if cmdWrites c && !s.wrAllow r.binding then s.respond r 7 []
    else if !len l.length then s.respond r 2 []
    else f s r l
  | [] => s

/-- Word `k` of a payload. -/
def wordAt (l : List Byte) (k : Nat) : Nat := ofLe ((l.drop (4 * k)).take 4)

/-- `n` register words from `off`, as they read now. -/
def State.peeks (s : State) (off n : Nat) : List Byte := (List.range n).flatMap fun k => leBytes 4 (s.peek (off + 4 * k)).toNat

/-- VERSION of the booted firmware; a free value while none is booted (log entry 61). -/
def State.fwVersion (s : State) : Nat × State :=
  let k := s.gf F.CFS_STAT_BOOTED
  match (if k ≤ 1 then s.slotSects k else none).bind fun l => l.find? fun x => x.typ == 1 with
  | some x => (s.slotLe k (x.off + 8) 4, s)
  | none => let (n, s) := s.fresh; (Config.pick n, s)

/-- GET_IDENTITY (R524). -/
def execGetIdentity (s : State) : Outcome :=
  .next (s.mgtCmd 0x01 (· == 0) fun s r _ =>
    let (v, s) := s.fwVersion
    s.respond r 0 (s.peeks R.TOP_SERIAL 2 ++ leBytes 2 0x7280 ++ leBytes 2 (s.gf F.TOP_REV_REVID) ++ leBytes 4 v ++ s.peeks R.CFS_STAT 1 ++
      [byte (s.gf F.RST_STATE_PSTATE)]))

/-- The LINK bits of the network ports. -/
def State.linkBits (s : State) : Nat := ((List.range 16).map fun n => b2n (s.gb (F.MAC_STATUS_LINK n)) * 2 ^ n).sum

/-- GET_HEALTH (R524). -/
def execGetHealth (s : State) : Outcome :=
  .next (s.mgtCmd 0x02 (· == 0) fun s r _ =>
    s.respond r 0 (s.peeks (R.RST_TEMP 0) 8 ++ s.peeks R.FLT_STATUS 1 ++ s.peeks R.CGU_REFSTAT 1 ++ leBytes 2 s.linkBits ++
      s.peeks (R.HP_STATUS 0) 1 ++ s.peeks (R.HP_STATUS 1) 1))

/-- Words read as Skylark, one after the other; a word of a gated block reads all ones in native mode and 0 in compatibility mode (R488, R525). -/
def State.regWords (s : State) : Nat → Nat → List Byte → List Byte × State
  | 0, _, l => (l, s)
  | n + 1, off, l =>
    if s.gatedKey off then
      State.regWords (s.gatedEvent .skylark off) n (off + 4) (l ++ leBytes 4 (if s.gb F.CGU_COMPAT_ZEROREAD then 0 else 0xFFFFFFFF))
    else
      let (v, s) := s.readReg .skylark off
      State.regWords s n (off + 4) (l ++ leBytes 4 v.toNat)

/-- REG_READ (R525). -/
def execRegRead (s : State) : Outcome :=
  .next (s.mgtCmd 0x03 (· == 8) fun s r l =>
    let off := wordAt l 0
    let n := wordAt l 1
    if off % 4 ≠ 0 || n < 1 || 64 < n || 0x10000000 < off + 4 * n then s.respond r 3 [] else
    let (w, s) := s.regWords n off []
    s.respond r 0 w)

/-- The dropped register writes among the reports on their way. -/
def State.violations (s : State) : Nat := (s.flt.arriving.filter fun e => e.code == 0x0501).length

/-- REG_WRITE (R525): refused where the write is dropped; a write that a gated block drops is taken as refused too (log entry 61). -/
def execRegWrite (s : State) : Outcome :=
  .next (s.mgtCmd 0x04 (· == 8) fun s r l =>
    let off := wordAt l 0
    if off % 4 ≠ 0 || 0x10000000 ≤ off then s.respond r 3 []
    else if s.gatedKey off then (s.gatedEvent .skylark off).respond r 6 []
    else
      let t := s.writeBy .skylark off off (wordAt l 1)
      t.respond r (if s.violations < t.violations then 6 else 0) [])

/-- One record with its status (R471); the bytes that go with a record that cannot be read are free (log entry 61). -/
def State.recordFor (s : State) (area n : Nat) : List Byte × Nat × State :=
  let (has, l, lap) := s.recordAt area n
  if has && recordValid l lap then (l, 0, s)
  else
    let (k, s) := s.fresh
    (leBytes 64 (Config.pick k), if has then 2 else 1, s)

/-- READ_RECORDS (R471, R524). -/
def execReadRecords (s : State) : Outcome :=
  .next (s.mgtCmd 0x05 (· == 12) fun s r l =>
    let area := wordAt l 0
    let n := wordAt l 2
    if 1 < area || n < 1 || 15 < n then s.respond r 3 [] else
    let (bytes, sts, s) := (List.range n).foldl (fun (a : List Byte × List Byte × State) i =>
      let (b, st, s) := a.2.2.recordFor area (wordAt l 1 + i)
      (a.1 ++ b, a.2.1 ++ [byte st], s)) ([], [], s)
    s.respond r 0 (bytes ++ sts))

/-- ACK_KEEP (R469, R524). -/
def execAckKeep (s : State) : Outcome :=
  .next (s.mgtCmd 0x06 (· == 4) fun s r l =>
    let s := s.keepAck (wordAt l 0)
    s.respond r 0 (s.peeks R.EVR_KEEPACK 1))

/-- FLT_DONE (R454, R524). -/
def execFltDone (s : State) : Outcome :=
  .next (s.mgtCmd 0x07 (· == 8) fun s r l =>
    let v := wordAt l 0
    let t := wordAt l 1
    if 4 < v || 2 ^ 16 ≤ t then s.respond r 3 [] else
    let s := s.ladderDone v t
    s.respond r 0 (s.peeks (R.FLT_LVLCTL v) 1))

/-! ## CFS_OP (R512 to R515, R526) -/

/-- The answer to a CFS_OP that has ended: its STATUS, and for a READ the bytes. -/
def State.cfsAnswer (s : State) (r : MgtReq) : State :=
  let st := s.gf F.CFS_CMD_STATUS
  s.respond r (if st = 0 then 0 else 6) (leBytes 4 st ++
    (if st = 0 && s.gf F.CFS_CMD_OP == 5 then s.wbuf (s.rdN R.CFS_ARG2 % 2 ^ 15) else []))

/-- A CFS command for a binding and source; the data of a WRITE reach CFS_WBUF where the command is taken. -/
def State.cfsFor (s : State) (r : MgtReq) (op arg arg2 : Nat) (data : List Byte) : State :=
  let s := ((s.wrN R.CFS_ARG arg).wrN R.CFS_ARG2 arg2).cfsGo 1 (some (r.binding, r.src)) op
  if s.gb F.CFS_CMD_BUSY then (if op = 2 then s.toWbuf data else s).modMgt fun g => { g with cfsWait := some r }
  else s.cfsAnswer r

/-- A payload length that a CFS_OP may have (R524). -/
def cfsLen (n : Nat) : Bool := n == 12 || (decide (76 ≤ n) && decide (n ≤ 972) && n % 64 == 12)

/-- CFS_OP (R524, R526): carried out once no CFS command of another master is running. -/
def execCfsOp (s : State) : Outcome :=
  .next (if s.gb F.CFS_CMD_BUSY then s else s.mgtCmd 0x08 cfsLen fun s r l =>
    let op := wordAt l 0
    let n := wordAt l 2 % 2 ^ 15
    if (op = 2 && l.length ≠ 12 + n) || (op ≠ 2 && l.length ≠ 12) then s.respond r 2 []
    else if 7 < op || (op = 5 && 1016 < n) then s.respond r 3 []
    else s.cfsFor r op (wordAt l 1) (wordAt l 2) (l.drop 12))

/-- The command of the store in progress has ended; a management command that waits for it is answered. -/
def State.cfsEnded (s : State) (ok : Bool) : State :=
  let s := s.cfsDone ok
  match s.mgt.cfsWait with
  | some r => if s.cfs.op.isNone then (s.modMgt fun g => { g with cfsWait := none }).cfsAnswer r else s
  | none => s

/-- CFS_COMMAND_DONE (R514, R515): `ok` says whether flash and eFuse took the operation. -/
def execCfsCommandDone (ok : Bool) (s : State) : Outcome := .next (s.cfsEnded ok)

/-! ## The reset, the time and the settings -/

/-- WARM_RESET (R493, R524): the answer is sent before the reset begins. -/
def execWarmResetCmd (s : State) : Outcome := .next (s.mgtCmd 0x09 (· == 0) fun s r _ => (s.respond r 0 []).warmReset 2)

/-- TIME_GET (R524). -/
def execTimeGet (s : State) : Outcome :=
  .next (s.mgtCmd 0x0A (· == 0) fun s r _ => s.respond r 0 (s.peeks R.TKU_TIME 3 ++ s.peeks R.TKU_STATE 1 ++ s.peeks R.TKU_TREC 16))

/-- The adjustment of a TIME_ADJ (R63): a refused one leaves only its report and ERR (R525). -/
def State.timeAdj (s : State) (r : MgtReq) (op val unc : Nat) : State :=
  let t := (((s.wrWide R.TKU_ADJVAL 3 val).wrN R.TKU_ADJUNC unc).sf F.TKU_ADJCMD_OP op).sb F.TKU_ADJCMD_ERR false
  let t := t.adjGo
  if t.gb F.TKU_ADJCMD_ERR then
    let s := ({ s with flt := t.flt }).sb F.TKU_ADJCMD_ERR true
    s.respond r 6 (s.peeks R.TKU_ADJCMD 1)
  else t.respond r 0 (t.peeks R.TKU_ADJCMD 1)

/-- TIME_ADJ (R63, R524). -/
def execTimeAdj (s : State) : Outcome :=
  .next (s.mgtCmd 0x0B (· == 20) fun s r l =>
    let op := wordAt l 0
    if op ≠ 1 && op ≠ 2 then s.respond r 3 []
    else s.timeAdj r op (ofLe ((l.drop 4).take 12)) (wordAt l 4))

/-- SET_MASTERS (R26, R524). -/
def execSetMasters (s : State) : Outcome :=
  .next (s.mgtCmd 0x0C (· == 8) fun s r l =>
    let h := wordAt l 0
    let x := wordAt l 1
    if 1 < h || 1 < x then s.respond r 3 [] else
    let s := (s.sf F.TOP_MASTERS_CFGHOST h).sf F.TOP_MASTERS_HOSTLOCKOUT x
    s.respond r 0 (s.peeks R.TOP_MASTERS 1))

/-- SET_NET (R520, R524): the answer leaves before the settings change (log entry 61). -/
def execSetNet (s : State) : Outcome :=
  .next (s.mgtCmd 0x0D (· == 96) fun s r l =>
    if !mgmtOk l || 30 < beAt l 12 1 || 31 < beAt l 25 1 then s.respond r 3 [] else (s.respond r 0 []).mgmtTake l)

end Sys2Proof.Machine
end

