-- ==== Sys2Proof/Machine/Scrub.lean ====
section
/-! DEFINITION. MEM: the scrubber, and what an error that the symbol code finds does to the owner of the word (R30 to R33, R539). -/

namespace Sys2Proof.Machine

/-- The HBM words of a sweep: 32 GiB in words of 16 bytes (R30, R33). -/
def sweepWords : Nat := 2 ^ 31

/-- One sweep takes 24 hours, in ns (R33). -/
def sweepNs : Nat := 86400 * 10 ^ 9

/-- The stack that holds a word (log entry 60). -/
def stackOf (pos : Nat) : Nat := pos / 2 ^ 30

/-- MEM with a stack, as a blame (R32). -/
def memUnit (pos : Nat) : Nat := 0xE000 + stackOf pos

/-- The scrubber has come to its next word: the sweep is spread evenly over its 24 hours (log entry 60). -/
def State.scrubDue (s : State) : Bool := decide (s.mem.scrubAt + s.mem.scrubPos * sweepNs / sweepWords ≤ s.now)

/-- The scrubber goes on to the next word; a sweep completed is counted, and the next begins (R33). -/
def State.scrubOn (s : State) : State :=
  if s.mem.scrubPos + 1 < sweepWords then { s with mem := { s.mem with scrubPos := s.mem.scrubPos + 1 } }
  else ({ s with mem := { scrubPos := 0, scrubAt := s.mem.scrubAt + sweepNs } }).bump (R.MEM_CNT 2)

/-- The severity of an uncorrectable error (R32). -/
def errSeverity : MemOwner → Nat
  | .critical => 4
  | .sa _ | .xpt _ | .queue _ | .engine _ _ _ => 3
  | _ => 2

/-- What the owner of an uncorrectable word gets as its answer (R32): a packet is dropped, an entry invalidated, a context lost, a queue halted, a reading thread
stopped. A report of severity 4 stops the data path by itself (R472). -/
def State.memAnswer (s : State) (pos : Nat) : MemOwner → State
  | .packet q =>
    match (s.tmq q).frames with
    | [] => s
    | (k, _) :: _ => (((s.setTmq q { s.tmq q with drops := min 255 ((s.tmq q).drops + 1) }).popHead q).dropPkt k 3).heads q
  | .hedgerow loc => if hValid (s.hEnt loc) then s.hRemove loc else s
  | .lpm row => if row < s.tbl.lpm.length then s.setLpm (lpmDeleteRow s.tbl.lpm row) else s
  | .macEntry k => if mValid (s.macEnt k) then s.macStore k [] false else s
  | .sa i => if (s.sa i).st = 0 then s else (s.setSa i { s.sa i with st := 3 }).report 0xA006 3 0 []
  | .xpt i => if (s.xpt i).st = 0 then s else ((s.xptError i).modXpt i fun x => { x with st := 3 }).report 0xB007 3 0 []
  | .queue g => (s.haltNow g 8).reportAs 0x3009 3 0x3000 (memUnit pos) []
  | .engine t a w =>
    if (s.thread t).st = 1 then s.raise t w.toNat { code := 4, addr := a.toNat, blame := some (memUnit pos) } else s
  | .free | .mw4 | .critical => s

/-- The scrubber has read a word with errors in `errs` symbols (R31, R32). -/
def State.scrubRead (s : State) (errs : Nat) (o : MemOwner) : State :=
  let pos := s.mem.scrubPos
  if errs = 0 then s
  else if errs = 1 then (s.bump (R.MEM_CNT 0)).report 0xE001 1 (stackOf pos) []
  else ((s.bump (R.MEM_CNT 1)).report 0xE002 (errSeverity o) (stackOf pos) []).memAnswer pos o

/-- SCRUB_STEP (R33): a word with a write pending is skipped and counted. -/
def State.scrubStep (s : State) (errs : Nat) (pending : Bool) (o : MemOwner) : State :=
  s.inBlock 0xE0 (islHB (stackOf s.mem.scrubPos)) fun s =>
    if s.scrubDue then (if pending then (s.bump (R.MEM_CNT 3)).scrubOn else (s.scrubRead errs o).scrubOn) else s

def execScrubStep (errs : Nat) (writePending : Bool) (owner : MemOwner) (s : State) : Outcome := .next (s.scrubStep errs writePending owner)

end Sys2Proof.Machine
end

