-- ==== Sys2Proof/Machine/Dispatch.lean ====
section
/-! DEFINITION. The dispatch of a command to its meaning: one arm per constructor. -/

namespace Sys2Proof.Machine

def exec (i : Instr) (s : State) : Host.Outcome State Fault Refusal :=
  match i with
  | .registerWrite m off be v => Sys2Proof.Machine.execRegisterWrite m off be v s
  | .latchedRead m off => Sys2Proof.Machine.execLatchedRead m off s
  | .readClear m off => Sys2Proof.Machine.execReadClear m off s
  | .tkuTimeRead m => Sys2Proof.Machine.execTkuTimeRead m s
  | .fnTimeRead p f => Sys2Proof.Machine.execFnTimeRead p f s
  | .trecRead m => Sys2Proof.Machine.execTrecRead m s
  | .topLockSet m => Sys2Proof.Machine.execTopLockSet m s
  | .scrubStep errs writePending owner => Sys2Proof.Machine.execScrubStep errs writePending owner s
  | .servoUpdate m v => Sys2Proof.Machine.execServoUpdate m v s
  | .lockreq m => Sys2Proof.Machine.execLockreq m s
  | .holdreq m => Sys2Proof.Machine.execHoldreq m s
  | .untrace m => Sys2Proof.Machine.execUntrace m s
  | .srcChange m src srcport => Sys2Proof.Machine.execSrcChange m src srcport s
  | .servoWatchdog => Sys2Proof.Machine.execServoWatchdog s
  | .ppsiTimeout => Sys2Proof.Machine.execPpsiTimeout s
  | .stackTimeLoss => Sys2Proof.Machine.execStackTimeLoss s
  | .boundRecompute => Sys2Proof.Machine.execBoundRecompute s
  | .busMessageReceive idx => Sys2Proof.Machine.execBusMessageReceive idx s
  | .tkuSet m => Sys2Proof.Machine.execTkuSet m s
  | .tkuStep m => Sys2Proof.Machine.execTkuStep m s
  | .adjApply => Sys2Proof.Machine.execAdjApply s
  | .adjBusyClear => Sys2Proof.Machine.execAdjBusyClear s
  | .tkuCommit m => Sys2Proof.Machine.execTkuCommit m s
  | .ptpReceive n => Sys2Proof.Machine.execPtpReceive n s
  | .ptmTrig m p => Sys2Proof.Machine.execPtmTrig m p s
  | .ptmPeriod p => Sys2Proof.Machine.execPtmPeriod p s
  | .ptmResponsed p masterTime turnaround => Sys2Proof.Machine.execPtmResponsed p masterTime turnaround s
  | .tkuPtmFail p => Sys2Proof.Machine.execTkuPtmFail p s
  | .ppsiEdge rising width => Sys2Proof.Machine.execPpsiEdge rising width s
  | .ppsoEdge => Sys2Proof.Machine.execPpsoEdge s
  | .quadmodeWrite m q mode => Sys2Proof.Machine.execQuadmodeWrite m q mode s
  | .portStart m n => Sys2Proof.Machine.execPortStart m n s
  | .portStop m n => Sys2Proof.Machine.execPortStop m n s
  | .portStopped n => Sys2Proof.Machine.execPortStopped n s
  | .macLinkUp n => Sys2Proof.Machine.execMacLinkUp n s
  | .macLinkDown n receiving => Sys2Proof.Machine.execMacLinkDown n receiving s
  | .macAnFail n => Sys2Proof.Machine.execMacAnFail n s
  | .macFrameReceive n frame fec => Sys2Proof.Machine.execMacFrameReceive n frame fec s
  | .pauseFrameReceive n frame => Sys2Proof.Machine.execPauseFrameReceive n frame s
  | .pauseHoldExpire n k => Sys2Proof.Machine.execPauseHoldExpire n k s
  | .macPauseStorm n k => Sys2Proof.Machine.execMacPauseStorm n k s
  | .pauseFrameSend n => Sys2Proof.Machine.execPauseFrameSend n s
  | .pauseRefresh n => Sys2Proof.Machine.execPauseRefresh n s
  | .counterSnapshot m n => Sys2Proof.Machine.execCounterSnapshot m n s
  | .pipelinePass p => Sys2Proof.Machine.execPipelinePass p s
  | .lookupAnswer p => Sys2Proof.Machine.execLookupAnswer p s
  | .clsLookupTmo p => Sys2Proof.Machine.execClsLookupTmo p s
  | .fragExpire p way => Sys2Proof.Machine.execFragExpire p way s
  | .prsCommit m => Sys2Proof.Machine.execPrsCommit m s
  | .prsBankSwitch p => Sys2Proof.Machine.execPrsBankSwitch p s
  | .prsRefillDone => Sys2Proof.Machine.execPrsRefillDone s
  | .ruleSwap m => Sys2Proof.Machine.execRuleSwap m s
  | .clsSwapDone => Sys2Proof.Machine.execClsSwapDone s
  | .swapDrainDone => Sys2Proof.Machine.execSwapDrainDone s
  | .epochHoldRevoke => Sys2Proof.Machine.execEpochHoldRevoke s
  | .writeRule m b idx => Sys2Proof.Machine.execWriteRule m b idx s
  | .readRule m b idx => Sys2Proof.Machine.execReadRule m b idx s
  | .writeAlist m b idx => Sys2Proof.Machine.execWriteAlist m b idx s
  | .readAlist m b idx => Sys2Proof.Machine.execReadAlist m b idx s
  | .copyBank m b idx => Sys2Proof.Machine.execCopyBank m b idx s
  | .clearBank m b idx => Sys2Proof.Machine.execClearBank m b idx s
  | .tblCommit m => Sys2Proof.Machine.execTblCommit m s
  | .tblInsert m c => Sys2Proof.Machine.execTblInsert m c s
  | .tblUpdate m c => Sys2Proof.Machine.execTblUpdate m c s
  | .tblDelete m c => Sys2Proof.Machine.execTblDelete m c s
  | .tblRead m c => Sys2Proof.Machine.execTblRead m c s
  | .readLoc m c => Sys2Proof.Machine.execReadLoc m c s
  | .flushOwner m c => Sys2Proof.Machine.execFlushOwner m c s
  | .compact m c => Sys2Proof.Machine.execCompact m c s
  | .lpmInsert m c => Sys2Proof.Machine.execLpmInsert m c s
  | .lpmUpdate m c => Sys2Proof.Machine.execLpmUpdate m c s
  | .lpmDelete m c => Sys2Proof.Machine.execLpmDelete m c s
  | .lpmRead m c => Sys2Proof.Machine.execLpmRead m c s
  | .macWrite m c => Sys2Proof.Machine.execMacWrite m c s
  | .macDelete m c => Sys2Proof.Machine.execMacDelete m c s
  | .macRead m c => Sys2Proof.Machine.execMacRead m c s
  | .macFlush m c => Sys2Proof.Machine.execMacFlush m c s
  | .learnProcess p => Sys2Proof.Machine.execLearnProcess p s
  | .ageSweep running => Sys2Proof.Machine.execAgeSweep running s
  | .shaperTick => Sys2Proof.Machine.execShaperTick s
  | .tmgSelect n => Sys2Proof.Machine.execTmgSelect n s
  | .launchCalendarEnter q => Sys2Proof.Machine.execLaunchCalendarEnter q s
  | .launchInstant n => Sys2Proof.Machine.execLaunchInstant n s
  | .gateEntryChange n => Sys2Proof.Machine.execGateEntryChange n s
  | .gclCommit m n => Sys2Proof.Machine.execGclCommit m n s
  | .gclTakeEffect n => Sys2Proof.Machine.execGclTakeEffect n s
  | .sampleSweep => Sys2Proof.Machine.execSampleSweep s
  | .writeNode m kind idx => Sys2Proof.Machine.execWriteNode m kind idx s
  | .readNode m kind idx => Sys2Proof.Machine.execReadNode m kind idx s
  | .flushQueue m kind idx => Sys2Proof.Machine.execFlushQueue m kind idx s
  | .writeMeter m kind idx => Sys2Proof.Machine.execWriteMeter m kind idx s
  | .readMeter m kind idx => Sys2Proof.Machine.execReadMeter m kind idx s
  | .frameTransmit n sky => Sys2Proof.Machine.execFrameTransmit n sky s
  | .orsRelease f => Sys2Proof.Machine.execOrsRelease f s
  | .orsOpen m idx => Sys2Proof.Machine.execOrsOpen m idx s
  | .orsModify m idx => Sys2Proof.Machine.execOrsModify m idx s
  | .orsClose m idx => Sys2Proof.Machine.execOrsClose m idx s
  | .orsRead m idx => Sys2Proof.Machine.execOrsRead m idx s
  | .orsDisable m => Sys2Proof.Machine.execOrsDisable m s
  | .mw4Request p f o kind => Sys2Proof.Machine.execMw4Request p f o kind s
  | .hpCommit m p => Sys2Proof.Machine.execHpCommit m p s
  | .hpCommitBoundary p => Sys2Proof.Machine.execHpCommitBoundary p s
  | .completionReceive p tag f st poisoned data => Sys2Proof.Machine.execCompletionReceive p tag f st poisoned data s
  | .hpCplTimeout p tag => Sys2Proof.Machine.execHpCplTimeout p tag s
  | .hpProtocol p err retrain => Sys2Proof.Machine.execHpProtocol p err retrain s
  | .hpLinkCorr p err => Sys2Proof.Machine.execHpLinkCorr p err s
  | .hpInternal p => Sys2Proof.Machine.execHpInternal p s
  | .l1Entry p idle => Sys2Proof.Machine.execL1Entry p idle s
  | .l0pWidthChange p demand queued => Sys2Proof.Machine.execL0pWidthChange p demand queued s
  | .d3hotEntry p f => Sys2Proof.Machine.execD3hotEntry p f s
  | .pmeTurnOff p => Sys2Proof.Machine.execPmeTurnOff p s
  | .perstAssert p => Sys2Proof.Machine.execPerstAssert p s
  | .perstDeassert p => Sys2Proof.Machine.execPerstDeassert p s
  | .hotReset p => Sys2Proof.Machine.execHotReset p s
  | .hpLinkDown p => Sys2Proof.Machine.execHpLinkDown p s
  | .hpLinkUp p speed width flit => Sys2Proof.Machine.execHpLinkUp p speed width flit s
  | .flrPf0 p => Sys2Proof.Machine.execFlrPf0 p s
  | .flr p f => Sys2Proof.Machine.execFlr p f s
  | .hpResetDone p => Sys2Proof.Machine.execHpResetDone p s
  | .bmeClear p f => Sys2Proof.Machine.execBmeClear p f s
  | .vfDisable p => Sys2Proof.Machine.execVfDisable p s
  | .doorbell p f off be v => Sys2Proof.Machine.execDoorbell p f off be v s
  | .cqDoorbell p f off be v => Sys2Proof.Machine.execCqDoorbell p f off be v s
  | .ringFetch g => Sys2Proof.Machine.execRingFetch g s
  | .fetchComplete g => Sys2Proof.Machine.execFetchComplete g s
  | .sendDispatch g buffers => Sys2Proof.Machine.execSendDispatch g buffers s
  | .coalTimer g => Sys2Proof.Machine.execCoalTimer g s
  | .queueDrainDone g => Sys2Proof.Machine.execQueueDrainDone g s
  | .queueStopTimeout g => Sys2Proof.Machine.execQueueStopTimeout g s
  | .adminEnable p f v => Sys2Proof.Machine.execAdminEnable p f v s
  | .adminDisable p f v => Sys2Proof.Machine.execAdminDisable p f v s
  | .nop g => Sys2Proof.Machine.execNop g s
  | .createQueue g => Sys2Proof.Machine.execCreateQueue g s
  | .destroyQueue g => Sys2Proof.Machine.execDestroyQueue g s
  | .stopQueue g => Sys2Proof.Machine.execStopQueue g s
  | .restartQueue g => Sys2Proof.Machine.execRestartQueue g s
  | .queryQueue g => Sys2Proof.Machine.execQueryQueue g s
  | .modifyCq g => Sys2Proof.Machine.execModifyCq g s
  | .qmgRead m index => Sys2Proof.Machine.execQmgRead m index s
  | .qmgHalt m index => Sys2Proof.Machine.execQmgHalt m index s
  | .createTenant g => Sys2Proof.Machine.execCreateTenant g s
  | .destroyTenant g => Sys2Proof.Machine.execDestroyTenant g s
  | .tenantFreed t => Sys2Proof.Machine.execTenantFreed t s
  | .modifyTenant g => Sys2Proof.Machine.execModifyTenant g s
  | .queryTenant g => Sys2Proof.Machine.execQueryTenant g s
  | .attachVf g => Sys2Proof.Machine.execAttachVf g s
  | .detachVf g => Sys2Proof.Machine.execDetachVf g s
  | .purgeQueues g => Sys2Proof.Machine.execPurgeQueues g s
  | .dirtyStart g => Sys2Proof.Machine.execDirtyStart g s
  | .dirtyStop g => Sys2Proof.Machine.execDirtyStop g s
  | .dirtySync g => Sys2Proof.Machine.execDirtySync g s
  | .dirtyCiReread t ci => Sys2Proof.Machine.execDirtyCiReread t ci s
  | .quiesce g => Sys2Proof.Machine.execQuiesce g s
  | .quiesceDone t => Sys2Proof.Machine.execQuiesceDone t s
  | .fnmQuiesceTmo t => Sys2Proof.Machine.execFnmQuiesceTmo t s
  | .resume g => Sys2Proof.Machine.execResume g s
  | .saveState g => Sys2Proof.Machine.execSaveState g s
  | .restoreState g image => Sys2Proof.Machine.execRestoreState g image s
  | .add t rd ra rb => Sys2Proof.Machine.execAdd t rd ra rb s
  | .sub t rd ra rb => Sys2Proof.Machine.execSub t rd ra rb s
  | .and t rd ra rb => Sys2Proof.Machine.execAnd t rd ra rb s
  | .or t rd ra rb => Sys2Proof.Machine.execOr t rd ra rb s
  | .xor t rd ra rb => Sys2Proof.Machine.execXor t rd ra rb s
  | .sll t rd ra rb => Sys2Proof.Machine.execSll t rd ra rb s
  | .srl t rd ra rb => Sys2Proof.Machine.execSrl t rd ra rb s
  | .sra t rd ra rb => Sys2Proof.Machine.execSra t rd ra rb s
  | .rotl t rd ra rb => Sys2Proof.Machine.execRotl t rd ra rb s
  | .mul t rd ra rb => Sys2Proof.Machine.execMul t rd ra rb s
  | .mulhu t rd ra rb => Sys2Proof.Machine.execMulhu t rd ra rb s
  | .divu t rd ra rb => Sys2Proof.Machine.execDivu t rd ra rb s
  | .remu t rd ra rb => Sys2Proof.Machine.execRemu t rd ra rb s
  | .sltu t rd ra rb => Sys2Proof.Machine.execSltu t rd ra rb s
  | .slt t rd ra rb => Sys2Proof.Machine.execSlt t rd ra rb s
  | .crc32c t rd ra rb => Sys2Proof.Machine.execCrc32c t rd ra rb s
  | .bswap t rd ra => Sys2Proof.Machine.execBswap t rd ra s
  | .clz t rd ra => Sys2Proof.Machine.execClz t rd ra s
  | .popcnt t rd ra => Sys2Proof.Machine.execPopcnt t rd ra s
  | .addi t rd ra imm => Sys2Proof.Machine.execAddi t rd ra imm s
  | .andi t rd ra imm => Sys2Proof.Machine.execAndi t rd ra imm s
  | .ori t rd ra imm => Sys2Proof.Machine.execOri t rd ra imm s
  | .xori t rd ra imm => Sys2Proof.Machine.execXori t rd ra imm s
  | .slli t rd ra sh => Sys2Proof.Machine.execSlli t rd ra sh s
  | .srli t rd ra sh => Sys2Proof.Machine.execSrli t rd ra sh s
  | .srai t rd ra sh => Sys2Proof.Machine.execSrai t rd ra sh s
  | .sltui t rd ra imm => Sys2Proof.Machine.execSltui t rd ra imm s
  | .slti t rd ra imm => Sys2Proof.Machine.execSlti t rd ra imm s
  | .puth0 t rd ra imm => Sys2Proof.Machine.execPuth0 t rd ra imm s
  | .puth1 t rd ra imm => Sys2Proof.Machine.execPuth1 t rd ra imm s
  | .puth2 t rd ra imm => Sys2Proof.Machine.execPuth2 t rd ra imm s
  | .puth3 t rd ra imm => Sys2Proof.Machine.execPuth3 t rd ra imm s
  | .ld8u t rd ra imm => Sys2Proof.Machine.execLd8u t rd ra imm s
  | .ld16u t rd ra imm => Sys2Proof.Machine.execLd16u t rd ra imm s
  | .ld32u t rd ra imm => Sys2Proof.Machine.execLd32u t rd ra imm s
  | .ld64 t rd ra imm => Sys2Proof.Machine.execLd64 t rd ra imm s
  | .ld8s t rd ra imm => Sys2Proof.Machine.execLd8s t rd ra imm s
  | .ld16s t rd ra imm => Sys2Proof.Machine.execLd16s t rd ra imm s
  | .ld32s t rd ra imm => Sys2Proof.Machine.execLd32s t rd ra imm s
  | .st8 t rs ra imm => Sys2Proof.Machine.execSt8 t rs ra imm s
  | .st16 t rs ra imm => Sys2Proof.Machine.execSt16 t rs ra imm s
  | .st32 t rs ra imm => Sys2Proof.Machine.execSt32 t rs ra imm s
  | .st64 t rs ra imm => Sys2Proof.Machine.execSt64 t rs ra imm s
  | .amoadd t rd ra rb => Sys2Proof.Machine.execAmoadd t rd ra rb s
  | .amoswap t rd ra rb => Sys2Proof.Machine.execAmoswap t rd ra rb s
  | .amocas t rd ra rb => Sys2Proof.Machine.execAmocas t rd ra rb s
  | .amoand t rd ra rb => Sys2Proof.Machine.execAmoand t rd ra rb s
  | .amoor t rd ra rb => Sys2Proof.Machine.execAmoor t rd ra rb s
  | .beq t ra rb off => Sys2Proof.Machine.execBeq t ra rb off s
  | .bne t ra rb off => Sys2Proof.Machine.execBne t ra rb off s
  | .blt t ra rb off => Sys2Proof.Machine.execBlt t ra rb off s
  | .bge t ra rb off => Sys2Proof.Machine.execBge t ra rb off s
  | .bltu t ra rb off => Sys2Proof.Machine.execBltu t ra rb off s
  | .bgeu t ra rb off => Sys2Proof.Machine.execBgeu t ra rb off s
  | .j t off => Sys2Proof.Machine.execJ t off s
  | .jal t off => Sys2Proof.Machine.execJal t off s
  | .jalr t rd ra imm => Sys2Proof.Machine.execJalr t rd ra imm s
  | .fence t => Sys2Proof.Machine.execFence t s
  | .trap t imm => Sys2Proof.Machine.execTrap t imm s
  | .brk t imm => Sys2Proof.Machine.execBrk t imm s
  | .illegal t w => Sys2Proof.Machine.execIllegal t w s
  | .pcfault t => Sys2Proof.Machine.execPcfault t s
  | .stamp t rd => Sys2Proof.Machine.execStamp t rd s
  | .csrr t rd idx => Sys2Proof.Machine.execCsrr t rd idx s
  | .tlook t rd ra rb => Sys2Proof.Machine.execTlook t rd ra rb s
  | .tlookAnswer t => Sys2Proof.Machine.execTlookAnswer t s
  | .tlookTimeout t => Sys2Proof.Machine.execTlookTimeout t s
  | .claim t rd ra nowait => Sys2Proof.Machine.execClaim t rd ra nowait s
  | .claimGrant c => Sys2Proof.Machine.execClaimGrant c s
  | .seal t ra n => Sys2Proof.Machine.execSeal t ra n s
  | .crecv t rd ra nowait => Sys2Proof.Machine.execCrecv t rd ra nowait s
  | .crecvGrant c => Sys2Proof.Machine.execCrecvGrant c s
  | .cfree t ra => Sys2Proof.Machine.execCfree t ra s
  | .evsend t ra e => Sys2Proof.Machine.execEvsend t ra e s
  | .wait t rd ra => Sys2Proof.Machine.execWait t rd ra s
  | .waitWake t => Sys2Proof.Machine.execWaitWake t s
  | .fork t rd ra rb => Sys2Proof.Machine.execFork t rd ra rb s
  | .forkGrant w => Sys2Proof.Machine.execForkGrant w s
  | .join t rd ra => Sys2Proof.Machine.execJoin t rd ra s
  | .joinWake t => Sys2Proof.Machine.execJoinWake t s
  | .exit t ra => Sys2Proof.Machine.execExit t ra s
  | .move t rd ra rb => Sys2Proof.Machine.execMove t rd ra rb s
  | .moveAccept => Sys2Proof.Machine.execMoveAccept s
  | .balloc t rd ra => Sys2Proof.Machine.execBalloc t rd ra s
  | .ballocGrant t => Sys2Proof.Machine.execBallocGrant t s
  | .ballocTimeout t => Sys2Proof.Machine.execBallocTimeout t s
  | .bfree t ra => Sys2Proof.Machine.execBfree t ra s
  | .pret t ra rb => Sys2Proof.Machine.execPret t ra rb s
  | .psend t ra rb => Sys2Proof.Machine.execPsend t ra rb s
  | .returnQueueAccept p => Sys2Proof.Machine.execReturnQueueAccept p s
  | .swardRun m w => Sys2Proof.Machine.execSwardRun m w s
  | .swardHold m w => Sys2Proof.Machine.execSwardHold m w s
  | .swardStopped w => Sys2Proof.Machine.execSwardStopped w s
  | .icinv m w => Sys2Proof.Machine.execIcinv m w s
  | .icinvDone w => Sys2Proof.Machine.execIcinvDone w s
  | .threadHalt m t => Sys2Proof.Machine.execThreadHalt m t s
  | .threadResume m t => Sys2Proof.Machine.execThreadResume m t s
  | .threadStep m t => Sys2Proof.Machine.execThreadStep m t s
  | .threadKill m t => Sys2Proof.Machine.execThreadKill m t s
  | .engChanHeld c k => Sys2Proof.Machine.execEngChanHeld c k s
  | .engWaitCycle w => Sys2Proof.Machine.execEngWaitCycle w s
  | .skyqPop m => Sys2Proof.Machine.execSkyqPop m s
  | .createSa g block => Sys2Proof.Machine.execCreateSa g block s
  | .destroySa g => Sys2Proof.Machine.execDestroySa g s
  | .querySa g => Sys2Proof.Machine.execQuerySa g s
  | .updateSa g => Sys2Proof.Machine.execUpdateSa g s
  | .createXpt g block => Sys2Proof.Machine.execCreateXpt g block s
  | .destroyXpt g => Sys2Proof.Machine.execDestroyXpt g s
  | .queryXpt g => Sys2Proof.Machine.execQueryXpt g s
  | .modifyXpt g => Sys2Proof.Machine.execModifyXpt g s
  | .xptReceive host => Sys2Proof.Machine.execXptReceive host s
  | .workRequest g host => Sys2Proof.Machine.execWorkRequest g host s
  | .ackTimeout idx => Sys2Proof.Machine.execAckTimeout idx s
  | .rnrWaitExpire idx => Sys2Proof.Machine.execRnrWaitExpire idx s
  | .ackDeadline idx => Sys2Proof.Machine.execAckDeadline idx s
  | .rateIncrease idx => Sys2Proof.Machine.execRateIncrease idx s
  | .tcpRto idx => Sys2Proof.Machine.execTcpRto idx s
  | .tcpDelayedAck idx => Sys2Proof.Machine.execTcpDelayedAck idx s
  | .burstStart c => Sys2Proof.Machine.execBurstStart c s
  | .burstComplete line data => Sys2Proof.Machine.execBurstComplete line data s
  | .movCommit m c => Sys2Proof.Machine.execMovCommit m c s
  | .movCommitApply => Sys2Proof.Machine.execMovCommitApply s
  | .helloSend l => Sys2Proof.Machine.execHelloSend l s
  | .helloReceive l msg crcOk => Sys2Proof.Machine.execHelloReceive l msg crcOk s
  | .stkLinkUp l => Sys2Proof.Machine.execStkLinkUp l s
  | .stkLinkDown l alignLost => Sys2Proof.Machine.execStkLinkDown l alignLost s
  | .linkReplay l => Sys2Proof.Machine.execLinkReplay l s
  | .controlMessageReceive l msg crcOk => Sys2Proof.Machine.execControlMessageReceive l msg crcOk s
  | .pdelayReq l => Sys2Proof.Machine.execPdelayReq l s
  | .pdelayResp => Sys2Proof.Machine.execPdelayResp s
  | .assignSend present => Sys2Proof.Machine.execAssignSend present s
  | .assign => Sys2Proof.Machine.execAssign s
  | .timeSend => Sys2Proof.Machine.execTimeSend s
  | .time => Sys2Proof.Machine.execTime s
  | .lookupReq => Sys2Proof.Machine.execLookupReq s
  | .lookupRsp => Sys2Proof.Machine.execLookupRsp s
  | .txdone => Sys2Proof.Machine.execTxdone s
  | .data l msg fcsOk => Sys2Proof.Machine.execData l msg fcsOk s
  | .handoverWrite m => Sys2Proof.Machine.execHandoverWrite m s
  | .handover => Sys2Proof.Machine.execHandover s
  | .successionTimeout reach => Sys2Proof.Machine.execSuccessionTimeout reach s
  | .election others => Sys2Proof.Machine.execElection others s
  | .masterWaitTimeout reach => Sys2Proof.Machine.execMasterWaitTimeout reach s
  | .report => Sys2Proof.Machine.execReport s
  | .recordWrite => Sys2Proof.Machine.execRecordWrite s
  | .mirrorCiReread p ci => Sys2Proof.Machine.execMirrorCiReread p ci s
  | .keepProgram ok => Sys2Proof.Machine.execKeepProgram ok s
  | .ladderDone m level token => Sys2Proof.Machine.execLadderDone m level token s
  | .stormWindowEnd => Sys2Proof.Machine.execStormWindowEnd s
  | .declarationClear m idx => Sys2Proof.Machine.execDeclarationClear m idx s
  | .keepack m v => Sys2Proof.Machine.execKeepack m v s
  | .recordRead m area => Sys2Proof.Machine.execRecordRead m area s
  | .clockSwitch m idx src => Sys2Proof.Machine.execClockSwitch m idx src s
  | .cguSwitchForced idx => Sys2Proof.Machine.execCguSwitchForced idx s
  | .switchRestart idx lost => Sys2Proof.Machine.execSwitchRestart idx lost s
  | .islandStopRequest m idx stop => Sys2Proof.Machine.execIslandStopRequest m idx stop s
  | .cguPllUnlock k alive => Sys2Proof.Machine.execCguPllUnlock k alive s
  | .pllRetry k => Sys2Proof.Machine.execPllRetry k s
  | .cguPllRelock k => Sys2Proof.Machine.execCguPllRelock k s
  | .cguRefFail => Sys2Proof.Machine.execCguRefFail s
  | .refRecover n => Sys2Proof.Machine.execRefRecover n s
  | .blockEnable m b => Sys2Proof.Machine.execBlockEnable m b s
  | .blockActive b => Sys2Proof.Machine.execBlockActive b s
  | .blockGate m b => Sys2Proof.Machine.execBlockGate m b s
  | .powerOnReset bootsel stackid stable => Sys2Proof.Machine.execPowerOnReset bootsel stackid stable s
  | .pornFall => Sys2Proof.Machine.execPornFall s
  | .warmReset m => Sys2Proof.Machine.execWarmReset m s
  | .managementReset m => Sys2Proof.Machine.execManagementReset m s
  | .rstMgtWdog => Sys2Proof.Machine.execRstMgtWdog s
  | .mgtWdogKick m => Sys2Proof.Machine.execMgtWdogKick m s
  | .blockResetMac m inst => Sys2Proof.Machine.execBlockResetMac m inst s
  | .blockResetEng m inst => Sys2Proof.Machine.execBlockResetEng m inst s
  | .blockResetCry m inst => Sys2Proof.Machine.execBlockResetCry m inst s
  | .blockResetXpt m inst => Sys2Proof.Machine.execBlockResetXpt m inst s
  | .blockResetOrs m inst => Sys2Proof.Machine.execBlockResetOrs m inst s
  | .blockResetStk m inst => Sys2Proof.Machine.execBlockResetStk m inst s
  | .blockResetDone => Sys2Proof.Machine.execBlockResetDone s
  | .thermalSample temps => Sys2Proof.Machine.execThermalSample temps s
  | .rstThermtrip => Sys2Proof.Machine.execRstThermtrip s
  | .ageMinute => Sys2Proof.Machine.execAgeMinute s
  | .romBoot fails => Sys2Proof.Machine.execRomBoot fails s
  | .firmwareBoot fails blocks => Sys2Proof.Machine.execFirmwareBoot fails blocks s
  | .cfsOpen m => Sys2Proof.Machine.execCfsOpen m s
  | .cfsWrite m => Sys2Proof.Machine.execCfsWrite m s
  | .cfsClose m => Sys2Proof.Machine.execCfsClose m s
  | .cfsAbort m => Sys2Proof.Machine.execCfsAbort m s
  | .cfsRead m => Sys2Proof.Machine.execCfsRead m s
  | .burnsvn m => Sys2Proof.Machine.execBurnsvn m s
  | .warmreq m => Sys2Proof.Machine.execWarmreq m s
  | .mctpPacketReceive b src pkt pecOk => Sys2Proof.Machine.execMctpPacketReceive b src pkt pecOk s
  | .setEndpointId => Sys2Proof.Machine.execSetEndpointId s
  | .getEndpointId => Sys2Proof.Machine.execGetEndpointId s
  | .getEndpointUuid => Sys2Proof.Machine.execGetEndpointUuid s
  | .getMctpVersionSupport => Sys2Proof.Machine.execGetMctpVersionSupport s
  | .getMessageTypeSupport => Sys2Proof.Machine.execGetMessageTypeSupport s
  | .getVendorDefinedMessageSupport => Sys2Proof.Machine.execGetVendorDefinedMessageSupport s
  | .getIdentity => Sys2Proof.Machine.execGetIdentity s
  | .getHealth => Sys2Proof.Machine.execGetHealth s
  | .regRead => Sys2Proof.Machine.execRegRead s
  | .regWrite => Sys2Proof.Machine.execRegWrite s
  | .readRecords => Sys2Proof.Machine.execReadRecords s
  | .ackKeep => Sys2Proof.Machine.execAckKeep s
  | .fltDone => Sys2Proof.Machine.execFltDone s
  | .cfsOp => Sys2Proof.Machine.execCfsOp s
  | .warmResetCmd => Sys2Proof.Machine.execWarmResetCmd s
  | .timeGet => Sys2Proof.Machine.execTimeGet s
  | .timeAdj => Sys2Proof.Machine.execTimeAdj s
  | .setMasters => Sys2Proof.Machine.execSetMasters s
  | .setNet => Sys2Proof.Machine.execSetNet s
  | .alertResponse => Sys2Proof.Machine.execAlertResponse s
  | .mgtSmbTimeout => Sys2Proof.Machine.execMgtSmbTimeout s
  | .phyPoll speed full up => Sys2Proof.Machine.execPhyPoll speed full up s
  | .mgeFrameReceive frame => Sys2Proof.Machine.execMgeFrameReceive frame s
  | .mgeFrameTransmit idle => Sys2Proof.Machine.execMgeFrameTransmit idle s
  | .mgeCollision bit => Sys2Proof.Machine.execMgeCollision bit s
  | .backoffExpire => Sys2Proof.Machine.execBackoffExpire s
  | .mgeStop m => Sys2Proof.Machine.execMgeStop m s
  | .mdioFrame m v => Sys2Proof.Machine.execMdioFrame m v s
  | .mdioDone data => Sys2Proof.Machine.execMdioDone data s
  | .pauseWatchdogEnd n k => Sys2Proof.Machine.execPauseWatchdogEnd n k s
  | .ppsoPulseEnd => Sys2Proof.Machine.execPpsoPulseEnd s
  | .followUpTimeout n => Sys2Proof.Machine.execFollowUpTimeout n s
  | .copyBankDone => Sys2Proof.Machine.execCopyBankDone s
  | .cfsCommandDone ok => Sys2Proof.Machine.execCfsCommandDone ok s
  | .ratePacedSend idx => Sys2Proof.Machine.execRatePacedSend idx s
  | .mgeFrameEnd => Sys2Proof.Machine.execMgeFrameEnd s
  | .l1Exit p => Sys2Proof.Machine.execL1Exit p s
  | .configWrite p f w => Sys2Proof.Machine.execConfigWrite p f w s
  | .gatedRead m off => Sys2Proof.Machine.execGatedRead m off s

end Sys2Proof.Machine
end

