-- ==== Sys2Proof/Machine/EngWord.lean ====
section
/-! DEFINITION. The words of the Abapin instructions (R315 to R317, R324, R326). A thread issues the command whose word stands at its pc. -/

namespace Sys2Proof.Machine

/-- The word of an engine's instruction, with its thread; none for any other command. A word that is no instruction is the word of ILLEGAL. -/
def engWord : Instr → Option (Fin 8192 × Nat)
  | .add t rd ra rb => some (t, encR 0 rd ra rb 0x000)
  | .sub t rd ra rb => some (t, encR 0 rd ra rb 0x001)
  | .and t rd ra rb => some (t, encR 0 rd ra rb 0x002)
  | .or t rd ra rb => some (t, encR 0 rd ra rb 0x003)
  | .xor t rd ra rb => some (t, encR 0 rd ra rb 0x004)
  | .sll t rd ra rb => some (t, encR 0 rd ra rb 0x005)
  | .srl t rd ra rb => some (t, encR 0 rd ra rb 0x006)
  | .sra t rd ra rb => some (t, encR 0 rd ra rb 0x007)
  | .rotl t rd ra rb => some (t, encR 0 rd ra rb 0x008)
  | .mul t rd ra rb => some (t, encR 0 rd ra rb 0x009)
  | .mulhu t rd ra rb => some (t, encR 0 rd ra rb 0x00A)
  | .divu t rd ra rb => some (t, encR 0 rd ra rb 0x00B)
  | .remu t rd ra rb => some (t, encR 0 rd ra rb 0x00C)
  | .sltu t rd ra rb => some (t, encR 0 rd ra rb 0x00D)
  | .slt t rd ra rb => some (t, encR 0 rd ra rb 0x00E)
  | .crc32c t rd ra rb => some (t, encR 0 rd ra rb 0x00F)
  | .bswap t rd ra => some (t, encR 0 rd ra 0 0x010)
  | .clz t rd ra => some (t, encR 0 rd ra 0 0x011)
  | .popcnt t rd ra => some (t, encR 0 rd ra 0 0x012)
  | .addi t rd ra imm => some (t, encI 0x01 rd ra imm)
  | .andi t rd ra imm => some (t, encI 0x02 rd ra imm)
  | .ori t rd ra imm => some (t, encI 0x03 rd ra imm)
  | .xori t rd ra imm => some (t, encI 0x04 rd ra imm)
  | .sltui t rd ra imm => some (t, encI 0x08 rd ra imm)
  | .slti t rd ra imm => some (t, encI 0x09 rd ra imm)
  | .puth0 t rd ra imm => some (t, encI 0x0A rd ra imm)
  | .puth1 t rd ra imm => some (t, encI 0x0B rd ra imm)
  | .puth2 t rd ra imm => some (t, encI 0x0C rd ra imm)
  | .puth3 t rd ra imm => some (t, encI 0x0D rd ra imm)
  | .ld8u t rd ra imm => some (t, encI 0x10 rd ra imm)
  | .ld16u t rd ra imm => some (t, encI 0x11 rd ra imm)
  | .ld32u t rd ra imm => some (t, encI 0x12 rd ra imm)
  | .ld64 t rd ra imm => some (t, encI 0x13 rd ra imm)
  | .ld8s t rd ra imm => some (t, encI 0x14 rd ra imm)
  | .ld16s t rd ra imm => some (t, encI 0x15 rd ra imm)
  | .ld32s t rd ra imm => some (t, encI 0x16 rd ra imm)
  | .st8 t rd ra imm => some (t, encI 0x18 rd ra imm)
  | .st16 t rd ra imm => some (t, encI 0x19 rd ra imm)
  | .st32 t rd ra imm => some (t, encI 0x1A rd ra imm)
  | .st64 t rd ra imm => some (t, encI 0x1B rd ra imm)
  | .beq t rd ra imm => some (t, encI 0x20 rd ra imm)
  | .bne t rd ra imm => some (t, encI 0x21 rd ra imm)
  | .blt t rd ra imm => some (t, encI 0x22 rd ra imm)
  | .bge t rd ra imm => some (t, encI 0x23 rd ra imm)
  | .bltu t rd ra imm => some (t, encI 0x24 rd ra imm)
  | .bgeu t rd ra imm => some (t, encI 0x25 rd ra imm)
  | .jalr t rd ra imm => some (t, encI 0x2A rd ra imm)
  | .slli t rd ra sh => some (t, encI 0x05 rd ra (BitVec.ofNat 16 sh))
  | .srli t rd ra sh => some (t, encI 0x06 rd ra (BitVec.ofNat 16 sh))
  | .srai t rd ra sh => some (t, encI 0x07 rd ra (BitVec.ofNat 16 sh))
  | .amoadd t rd ra rb => some (t, encR 0x1C rd ra rb 0)
  | .amoswap t rd ra rb => some (t, encR 0x1C rd ra rb 1)
  | .amocas t rd ra rb => some (t, encR 0x1C rd ra rb 2)
  | .amoand t rd ra rb => some (t, encR 0x1C rd ra rb 3)
  | .amoor t rd ra rb => some (t, encR 0x1C rd ra rb 4)
  | .j t off => some (t, encJ 0x28 off)
  | .jal t off => some (t, encJ 0x29 off)
  | .fence t => some (t, encI 0x2C 0 0 0)
  | .trap t imm => some (t, encI 0x2D 0 0 imm)
  | .brk t imm => some (t, encI 0x2E 0 0 imm)
  | .stamp t rd => some (t, encX rd 0 0 0x00 0)
  | .csrr t rd i => some (t, encX rd 0 0 0x01 i)
  | .tlook t rd ra rb => some (t, encX rd ra rb 0x02 0)
  | .claim t rd ra nowait => some (t, encX rd ra 0 0x03 (b2n nowait))
  | .seal t ra n => some (t, encX 0 ra 0 0x04 n)
  | .crecv t rd ra nowait => some (t, encX rd ra 0 0x05 (b2n nowait))
  | .cfree t ra => some (t, encX 0 ra 0 0x06 0)
  | .evsend t ra e => some (t, encX 0 ra 0 0x07 e)
  | .wait t rd ra => some (t, encX rd ra 0 0x08 0)
  | .fork t rd ra rb => some (t, encX rd ra rb 0x09 0)
  | .join t rd ra => some (t, encX rd ra 0 0x0A 0)
  | .exit t ra => some (t, encX 0 ra 0 0x0B 0)
  | .move t rd ra rb => some (t, encX rd ra rb 0x0C 0)
  | .balloc t rd ra => some (t, encX rd ra 0 0x0D 0)
  | .bfree t ra => some (t, encX 0 ra 0 0x0E 0)
  | .pret t ra rb => some (t, encX 0 ra rb 0x0F 0)
  | .psend t ra rb => some (t, encX 0 ra rb 0x10 0)
  | .illegal t w => if legalWord w.toNat then none else some (t, w.toNat)
  | _ => none

end Sys2Proof.Machine
end

