-- ==== Sys2Proof/Safety.lean ====
section
/-! DEFINITION. What claims about the device are stated in: good states, commands that complete, masters whose writes are taken, and what a command leaves
alone. -/

namespace Sys2Proof.Machine

/-! ## Good states -/

/-- The register file, HBM and flash are in canonical form: addresses rise, and no entry holds what an unlisted one reads as (log entries 4 and 5). -/
def State.memWf (s : State) : Bool :=
  tabWf resetWord s.regs && tabWf hbmDefault s.hbm && tabWf flashDefault s.flash

/-- The tallies of the age meter fit the 8,192 fuses that hold each of them (R556). -/
def State.fuseWf (s : State) : Prop := s.fuse.tallyP ≤ 8192 ∧ s.fuse.tallyE ≤ 8192

/-- The machine goes on for `k` steps: no command stops it. -/
def runsOn (s : State) : Nat → Prop
  | 0 => True
  | k + 1 => ∃ t, step s = .next t ∧ runsOn t k

/-! ## Commands -/

/-- The command `c` answers a next state of which `P` holds. -/
def completes (c : Instr) (s : State) (P : State → Prop) : Prop := ∃ t, exec c s = .next t ∧ P t

/-- An access by `m` at `off` gets to the register bus (R1, R236, R241, R497): a host's function decodes it and is not in reset, and only its physical
function 0 reaches the register space, in Safe-Talk mode the flash service alone. -/
def State.decodes (s : State) (m : Master) (off : Nat) : Bool :=
  match m with
  | .host p f => !s.inReset p f && (s.fn p f).mse && !(s.fn p f).d3 && f.val == 0 && (s.gf F.RST_STATE_PSTATE != 3 || blockOf off == 0xFC)
  | _ => true

/-- A write by `m` at `off` reaches its register and is taken: the block is not gated (R488), and the master has the right (R25, R26). -/
def State.accepts (s : State) (m : Master) (off : Nat) : Bool := s.decodes m off && s.enabled (blockOf off) && s.mayWrite m off

/-- `m` may not write the register at `off`, which is otherwise reached (R8, R26, R27). -/
def State.denies (s : State) (m : Master) (off : Nat) : Bool := s.decodes m off && s.enabled (blockOf off) && !s.mayWrite m off

/-- Registers outside those that `f` picks read as before. -/
def regsBut (s t : State) (f : Nat → Bool) : Prop := ∀ off, f off = false → t.rd off = s.rd off

/-- The registers from `a` to below `b`. -/
def regSpan (a b : Nat) (off : Nat) : Bool := decide (a ≤ off) && decide (off < b)

/-- The registers of block `b`. -/
def ofBlock (b : Nat) (off : Nat) : Bool := blockOf off == b

/-- The reports that a command adds to those on their way. -/
def reported (s t : State) (l : List Report) : Prop := t.flt.arriving = s.flt.arriving ++ l

/-- What the timekeeper's own commands leave alone: everything but TKU's state and registers, the reports and records on their way, and the sequence of the record's stamp. -/
def tkuFrame (s t : State) : Prop :=
  t = { s with regs := t.regs, tku := t.tku, flt := t.flt, evr := t.evr, seqs := t.seqs } ∧ regsBut s t (ofBlock 0x03)

/-- The blocks whose registers a write stores and does no more: FNM, CRY, XPT, MEM and MGT. -/
def storesOnly (b : Nat) : Bool := [0x20, 0xA0, 0xB0, 0xE0, 0xF8].contains b

/-- The 64-bit registers whose write stores every bit and does no more: TKU_OFFSET, and the SCIs of the MACsec ports. -/
def storesPair (off : Nat) : Bool :=
  (off == R.TKU_OFFSET || storesOnly (blockOf off)) && off % 8 == 0 && match regAt off with
    | some (r, 0) => r.kind == .pair && r.fields == [fd 0 64 .rw .live 0]
    | _ => false

/-! ## Commands in a queue (R267, R272 to R274) -/

/-- The head command of command queue `g` has opcode `op` and can run: QMG works, a slot of its completion queue is free, and it may name its target. It is `x`. -/
def State.takes (s : State) (g op : Nat) (x : CmdCtx) : Prop :=
  s.works 0x30 islSYS = true ∧ (s.q (s.q g).cq).freeSlots ≠ 0 ∧ x.target < 514 ∧ targetOk (g == admQueue x.port x.fn) x.fn x.target op = true ∧
    ∃ i, s.headCmd g op = some i ∧ x = ⟨g, i.id, (s.q g).port, (s.q g).fn, (i.entries.headD []).getD 1 0 % 1024, i.entries.headD []⟩

/-- The command `x` has started: the slot for its completion is reserved, and its item is dispatched. -/
def State.begun (s : State) (x : CmdCtx) : State :=
  (s.modQ (s.q x.g).cq fun y => { y with res := y.res + 1 }).modQ x.g fun y =>
    { y with items := y.items.map fun j => if j.id == x.id then { j with disp := some (s.q x.g).gen } else j }

/-- The command `c` is `x`, and it completes with a status, RESULT words and a response cut to RESPLEN, in a state of which `P` holds. -/
def answered (c : Instr) (s : State) (x : CmdCtx) (status r0 r1 r2 r3 : Nat) (resp : List Byte) (P : State → Prop) : Prop :=
  ∃ u : State, P u ∧ exec c s = .next ((u.fnWrite x.port x.fn (x.arg 2 + x.arg 3 * 2 ^ 32) (resp.take (min resp.length (x.arg 4)))).cmdDone x.g x.id status
    (min resp.length (x.arg 4)) r0 r1 r2 r3)

/-- The command is answered with a status alone, and changes nothing. -/
def refusedWith (c : Instr) (s : State) (x : CmdCtx) (status : Nat) : Prop := answered c s x status 0 0 0 0 [] (· = s.begun x)

/-! ## Engine threads -/

/-- Thread `t` may issue, and the word at its pc in the code image is `w` (R333, R337). -/
def State.issuing (s : State) (t w : Nat) : Prop :=
  s.mayIssue t = true ∧ s.pcOk t (s.thread t).pc = true ∧
    (s.imageLine (swardOf t) ((s.thread t).pc / 64)).getD ((s.thread t).pc / 4 % 16) 0 = w

/-- Thread `t` at the issue of its instruction: its line is in its engine's cache, and a STEP that let it through is used up (R333, R354). -/
def State.issued (s : State) (t : Nat) : State :=
  let pc := (s.thread t).pc
  (s.modEng fun g => { g with icache := tabSet (fun _ => []) g.icache (lineKey t pc) (s.imageLine (swardOf t) (pc / 64)) }).stepUsed t

/-- From `s` to `u` only thread `t`, and the lines that instruction caches hold, have changed: every other thread, every memory, every register and every other
block is as it was (R331). -/
def engFrame (s u : State) (t : Nat) : Prop :=
  u = { s with eng := u.eng } ∧ u.eng = { s.eng with threads := u.eng.threads, icache := u.eng.icache } ∧ ∀ k, k ≠ t → u.thread k = s.thread k

/-- Thread `t` has retired an instruction that wrote `v` to `rd`, goes on at `pc`, and holds else what it held; a STEP is used up (R314, R327, R354). -/
def retires (s u : State) (t rd : Nat) (v : DWord) (pc : Nat) : Prop :=
  let x := s.thread t
  let y := u.thread t
  y = { x with regs := y.regs, pc := pc, retired := (x.retired + 1) % 2 ^ 64, step := x.step && !x.halted, stopped := if x.halted then some s.now else x.stopped } ∧
    ∀ r, y.g r = if r = rd ∧ r ≠ 0 then v else x.g r

/-- Thread `t` has stopped at the instruction word `w` with an exception (R331, R355): its record and the count are written, its registers and pc stand, every memory
stands, no other thread has changed but for an event to the supervisor, and what is logged begins with `rep`. A BREAK leaves it HALTED and any other
exception FAULTED. -/
def raised (s u : State) (t w code addr imm : Nat) (rep : List Report) : Prop :=
  let x := s.thread t
  let y := u.thread t
  let sw := swardOf t
  u.rdN (R.ENG_TEXC t) = code + imm * 65536 ∧ u.rdN (R.ENG_TEXCPC t) = x.pc % 2 ^ 32 ∧ u.rd64 (R.ENG_TEXCADDR t) = addr ∧ u.rdN (R.ENG_TEXCINSTR t) = w ∧
    u.rd64 (R.ENG_CNT sw 13) = (s.rd64 (R.ENG_CNT sw 13) + 1) % 2 ^ 48 ∧
    y = { x with st := if code = 9 then x.st else 4, halted := x.halted || code == 9, step := false, stopped := y.stopped } ∧
    (∀ k, k ≠ t → k ≠ s.supOf sw → u.thread k = s.thread k) ∧
    (∀ k, k ≠ t → u.thread k = { s.thread k with pend := (u.thread k).pend }) ∧
    (∀ c, c ≠ s.supChan sw → u.chan c = s.chan c) ∧ u.eng.scratch = s.eng.scratch ∧ u.eng.smem = s.eng.smem ∧ u.hbm = s.hbm ∧ u.bufs = s.bufs ∧
    ∃ l, reported s u (rep ++ l)

/-- What an exception logs first (R332): its event, which blames `blame`. -/
def excReport (t code pc imm blame : Nat) : List Report :=
  if code ≤ 7 then [⟨0xC001, 3, 0xC000 + swardOf t, blame, [t, code, pc]⟩]
  else if code = 8 then [⟨0xC002, 0, 0xC000 + swardOf t, 0xC000 + swardOf t, [t, imm]⟩] else []

/-- Thread `t` has begun to wait in an operation, with its registers and pc as they were (R336). -/
def blocked (s u : State) (t : Nat) (w : Wait) : Prop :=
  let x := s.thread t
  let y := u.thread t
  y = { x with st := 2, wait := w, step := y.step, stopped := y.stopped } ∧ ∀ k, k ≠ t → u.thread k = s.thread k

/-- Thread `t`'s operation has ended with `v` in rd: it is READY behind its instruction (R336). -/
def woken (s u : State) (t rd : Nat) (v : DWord) : Prop :=
  let x := s.thread t
  let y := u.thread t
  y = { x with st := 1, wait := .none, regs := y.regs, pc := (x.pc + 4) % 2 ^ 32, retired := (x.retired + 1) % 2 ^ 64 } ∧
    ∀ r, y.g r = if r = rd ∧ r ≠ 0 then v else x.g r

/-- No thread but those of `l` has changed. -/
def othersKeep (s u : State) (l : List Nat) : Prop := ∀ k, k ∉ l → u.thread k = s.thread k

/-- Bytes of a memory whose unlisted bytes read 0: those from `a` on are the low `n` bytes of `v`, and every other byte is as it was. -/
def bytesPut (m m' : Tab Byte) (a n v : Nat) : Prop :=
  ∀ k, tabGet (fun _ => 0) m' k = if a ≤ k ∧ k < a + n then byte (v / 256 ^ (k - a)) else tabGet (fun _ => 0) m k

/-! ## Stacking -/

/-- The TYPE of a message (R438); 0 stands for a malformed one. -/
def msgType : StkBody → Nat
  | .hello _ => 1 | .pdelayReq => 2 | .pdelayResp _ => 3 | .assign _ _ => 4 | .time _ _ _ _ _ => 5 | .lookupReq _ _ _ => 6 | .lookupRsp _ _ => 7
  | .txdone _ _ _ => 8 | .data _ => 9 | .handover _ => 10 | .bad => 0

/-- The oldest message of its type that awaits its effect is `i`; without it, `rest` still waits. -/
def State.oldest (s : State) (typ : Nat) (i : InMsg) (rest : List InMsg) : Prop :=
  ∃ a b, s.stk.inbox = a ++ i :: b ∧ rest = a ++ b ∧ msgType i.msg.body = typ ∧ ∀ j ∈ a, msgType j.msg.body ≠ typ

/-- The state in which only the messages `rest` await their effect. -/
def State.leaving (s : State) (rest : List InMsg) : State := { s with stk := { s.stk with inbox := rest } }

/-- A control message that is `msg` but for its LSEQ and LACK is the next of link `l` in state `u`: it went out last, in order, it is kept until it is acknowledged,
and it is counted (R437, R439). -/
def linkSends (s u : State) (l : Nat) (msg : StkMsg) : Prop :=
  let x := s.link l
  let m := { msg with lseq := (x.txSeq + 1) % 65536, lack := (u.link l).rxSeq }
  u.out = .dasko l m :: s.out ∧ (u.link l).txSeq = m.lseq ∧ (∃ kept, (u.link l).unacked = kept ++ [(m, s.now)] ∧ ∀ e ∈ kept, e ∈ x.unacked) ∧
    u.rd64 (R.STK_CNT l 0) = (s.rd64 (R.STK_CNT l 0) + 1) % 2 ^ 48

/-- A message of `body` by this member has been added to what is kept on every link that is up, as the first of `n` new ones from place `k` on (R438, R440). -/
def linksKeep (s u : State) (n k : Nat) (body : StkBody) : Prop :=
  ∀ l, l < 2 → s.linkIsUp l = true → ∃ m new, (u.link l).unacked = (s.link l).unacked ++ new ∧ new.length = n ∧ new[k]? = some (m, s.now) ∧
    m.body = body ∧ m.bcast = true ∧ m.mgen = u.gf F.STK_STATUS_MGEN ∧ .dasko l m ∈ u.out

/-! ## Skylark's agent (R518, R521, R524 to R526) -/

/-- The agent serves the request `r`, and `rest` waits behind it (R518, R526). -/
def State.serves (s : State) (r : MgtReq) (rest : List MgtReq) : Prop :=
  s.mgt.reqs = r :: rest ∧ s.gf F.MGT_STATUS_AGENT ≠ 0 ∧ s.gf F.RST_STATE_PSTATE ≠ 4 ∧ s.mgt.cfsWait = none

/-- The state in which `r` has been taken and `rest` waits. -/
def State.taken (s : State) (rest : List MgtReq) : State := { s with mgt := { s.mgt with reqs := rest } }

/-- The command `c` of the agent, CMD `cmd`, is judged as R525 and R526 say: nothing happens without it at the front; outside the recovery subset it is refused by the ROM
agent, without its WRALLOW bit a writing one is not permitted, and a payload of a length that `len` does not allow is refused. A refusal changes nothing but counts and the answer. -/
def judged (c : Instr) (cmd : Nat) (writes recovery : Bool) (len : Nat → Bool) (s : State) : Prop :=
  (s.mgt.reqs = [] → exec c s = .next s) ∧
  (∀ r rest, s.mgt.reqs = r :: rest → r.isCmd = false ∨ r.cmd ≠ cmd ∨ ¬s.serves r rest → exec c s = .next s) ∧
  (∀ r rest, s.serves r rest → r.isCmd = true → r.cmd = cmd →
    let rom : Prop := s.gf F.MGT_STATUS_AGENT = 1 ∧ recovery = false
    let denied : Prop := writes = true ∧ s.wrAllow r.binding = false
    (rom → exec c s = .next ((s.taken rest).respond r 4 [])) ∧ (¬rom → denied → exec c s = .next ((s.taken rest).respond r 7 [])) ∧
    (¬rom → ¬denied → len (r.body.length - 8) = false → exec c s = .next ((s.taken rest).respond r 2 [])))

/-- The command at the front is `r`, and nothing of `judged` stands in its way; `l` is its payload. -/
def State.entitles (s : State) (cmd : Nat) (writes recovery : Bool) (len : Nat → Bool) (r : MgtReq) (rest : List MgtReq) (l : List Byte) : Prop :=
  s.serves r rest ∧ r.isCmd = true ∧ r.cmd = cmd ∧ ¬(s.gf F.MGT_STATUS_AGENT = 1 ∧ recovery = false) ∧ ¬(writes = true ∧ s.wrAllow r.binding = false) ∧
    len (r.body.length - 8) = true ∧ l = r.body.drop 8

/-- The control message at the front is command `c`, and its data is `l` (R521). -/
def State.controls (s : State) (c : Nat) (r : MgtReq) (rest : List MgtReq) (l : List Byte) : Prop :=
  s.serves r rest ∧ r.isCmd = false ∧ beAt r.body 2 1 = c ∧ l = r.body.drop 3

end Sys2Proof.Machine
end

