-- ==== Sys2Proof/Certificates/Slice0/Obligations.lean ====
section
/-! DEFINITION. What is claimed of the FQ-7280: one statement for every family of commands, for the kinds of state that the specification names, and for
the machine as a whole. Each docstring names the rules it states; a clause that rests on a choice of the model names its log entry. -/

open Sys2Proof Sys2Proof.Machine

/-! ## The machine as a whole -/

/-- What a power-on reset leaves (R5, R35, R48, R487, R489): no command waits, no time has passed, Device Time and every source sequence are 0, nothing is listed in
the register file, so that every register reads its reset value, and no port, queue, channel, buffer or tenant is in use; the register file, HBM and flash are in canonical form. Log entries 2 and 52 name what the specification
leaves open there. -/
def Obligations.ResetLeavesTheResetValues : Prop :=
  State.reset.pending = [] ∧ State.reset.now = 0 ∧ State.reset.tku.dt = 0 ∧ (∀ d, State.reset.seqOf d = 0) ∧
  (∀ off, State.reset.rd off = resetWord off) ∧ State.reset.latches = [] ∧ State.reset.heldLow = [] ∧
  State.reset.rdN R.TOP_IDENT = 0x72801FD3 ∧ State.reset.rdN R.TOP_PIPEMAP = 0xFFAA5500 ∧ State.reset.gb F.TOP_LOCK_LOCK = false ∧
  (∀ b : Fin 256, State.reset.gb (F.CGU_CLKEN_EN b) = alwaysClocked b) ∧
  State.reset.queues = [] ∧ State.reset.chans = [] ∧ State.reset.bufs = [] ∧ State.reset.tenants = [] ∧ State.reset.macs = [] ∧ State.reset.out = [] ∧
  State.reset.memWf = true ∧ State.reset.fuseWf

/-- A step runs the command at the front of the queue, on the state with the queue's rest. -/
def Obligations.StepRunsFrontCommand : Prop :=
  ∀ (s : State) (c : Instr), step { s with pending := c :: s.pending } = exec c s

/-- With no command waiting one ns of the reference passes: Device Time moves by 65,536 units and by the frequency in force while island SYS runs, and stands while it is
stopped; nothing else changes. That an empty queue is a tick of 1 ns is the model's choice (log entry 3). -/
def Obligations.IdleStepIsOneNanosecond : Prop :=
  ∀ s : State, s.pending = [] →
    ∃ t, step s = .next t ∧ t.now = s.now + 1 ∧ t = { s with now := t.now, tku := t.tku } ∧
      (s.gb (F.CGU_ISL_RUNNING islSYS) = false → t.tku = s.tku) ∧
      (s.gb (F.CGU_ISL_RUNNING islSYS) = true →
        t.tku = { s.tku with dt := t.tku.dt, acc := t.tku.acc } ∧ 0 ≤ t.tku.acc ∧ t.tku.acc < 1000000000 ∧
        t.tku.dt = ((s.tku.dt : Int) + 65536 + (s.tku.acc + s.freqNow) / 1000000000).toNat ∧
        t.tku.acc = (s.tku.acc + s.freqNow) % 1000000000)

/-- Every 32-bit word that a thread can fetch is the instruction of exactly one command of the opcode table: no bit of an encoding is dropped, no two encodings
overlap, and no word is left without a meaning (R314, R315). -/
def Obligations.EveryWordIsOneInstruction : Prop :=
  ∀ (t : Fin 8192) (w : BitVec 32), ∃ i : Instr, engWord i = some (t, w.toNat) ∧ ∀ j : Instr, engWord j = some (t, w.toNat) → j = i

/-! ## Registers -/

/-- A taken write of a register of which nothing else follows (R4, R7, R8): every field of the word gets what its access code gives it, other bits of the word read 0 or as
before, no other register changes, and nothing outside the register file does. The write is of a word that decodes in a block that stores its registers and does no more (FNM, CRY, XPT, MEM,
MGT); what a write starts is stated with the command it starts. -/
def Obligations.RegisterWriteStoresByAccessCode : Prop :=
  ∀ (s : State) (m : Master) (off : Nat) (v : Word) (r : RegD) (w : Nat),
    off % 4 = 0 → storesOnly (blockOf off) = true → s.accepts m off = true → regAt off = some (r, w) → r.kind = .plain →
    (∀ f ∈ r.fields, f.acc = .rwl → s.gb F.TOP_LOCK_LOCK = false) → (∀ f ∈ r.fields, f.cls = .quiet → s.quietOk (off - 4 * w) = true) →
    completes (.registerWrite m off 15 v) s fun t =>
      t = { s with regs := t.regs } ∧ regsBut s t (· == off) ∧
      ∀ f ∈ r.fields, 32 * w ≤ f.lo → f.lo + f.width ≤ 32 * w + 32 →
        let o := bitsOf (s.rdN off) (f.lo - 32 * w) f.width
        let n := bitsOf v.toNat (f.lo - 32 * w) f.width
        bitsOf (t.rdN off) (f.lo - 32 * w) f.width = match f.acc with
          | .rw => max f.least (min f.most n)
          | .rwl | .rws => n
          | .w1c => o - (o &&& n)
          | _ => o

/-- A write that its master has no right to is dropped whole and logged with the offset and the master (R8, R26, R27): nothing changes but the reports on their way. So is a
write of a locked field (R5), and one that would change a Quiet field of a running block (R8). A host write with fewer than four byte enables is dropped, counted and
logged as an access violation (R1). -/
def Obligations.RefusedWriteIsDroppedAndLogged : Prop :=
  (∀ (s : State) (m : Master) (off : Nat) (v : Word), off % 4 = 0 → off < 0x10000000 → ¬(0x80000 ≤ off ∧ off < 0x90000) → s.denies m off = true →
    off ≠ R.TOP_MASTERS → blockOf off ≠ 0xFC → exec (.registerWrite m off 15 v) s = .next (s.cfgViol m off)) ∧
  (∀ (s : State) (m : Master) (v : Word), s.accepts m R.TOP_BOARD = true → s.gb F.TOP_LOCK_LOCK = true →
    exec (.registerWrite m R.TOP_BOARD 15 v) s = .next (s.cfgViol m R.TOP_BOARD)) ∧
  (∀ (s : State) (m : Master) (off : Nat) (v : Word) (r : RegD) (f : FieldD), off % 4 = 0 → storesOnly (blockOf off) = true → s.accepts m off = true →
    regAt off = some (r, 0) → r.kind = .plain → r.words = 1 → f ∈ r.fields → f.cls = .quiet → f.acc = .rw → s.quietOk off = false →
    f.after (s.rdN off) v.toNat 0 32 ≠ bitsOf (s.rdN off) f.lo f.width →
    exec (.registerWrite m off 15 v) s = .next (s.cfgViol m off)) ∧
  (∀ (s : State) (m : Master) (off : Nat), (s.cfgViol m off) = { s with flt := (s.cfgViol m off).flt } ∧
    reported s (s.cfgViol m off) [⟨0x0501, 0, 0x0500, 0x0500, [off, masterWord m]⟩]) ∧
  (∀ (s : State) (p : Fin 2) (off : Nat) (be : BitVec 4) (v : Word),
    be ≠ 15 → off % 4 = 0 → off < 0x10000000 → ¬(0x80000 ≤ off ∧ off < 0x90000) → blockOf off ≠ 0xFC → s.decodes (.host p 0) off = true → s.enabled (blockOf off) = true →
    completes (.registerWrite (.host p 0) off be v) s fun t =>
      t = { s with regs := t.regs, flt := t.flt } ∧ t.rd64 (R.HP_CNT p 8) = (s.rd64 (R.HP_CNT p 8) + 1) % 2 ^ 48 ∧
      regsBut s t (fun o => o == R.HP_CNT p 8 || o == R.HP_CNT p 8 + 4) ∧
      reported s t [⟨0x1005 + 0x100 * p, 0, (0x10 + p) * 256, fnBlame p 0, fnDetail p 0⟩])

/-- A register of 64 bits is read and written whole (R2, R3). A read of its lower word returns it and latches both words for the master; a later read of the upper word
returns the latched one, whatever the register holds by then. A write of the lower word is held; the write of the upper word by the same master stores both. -/
def Obligations.WideRegistersReadAndWriteWhole : Prop :=
  (∀ (s : State) (m : Master) (base : Nat) (r : RegD), (∀ p f, m ≠ .host p f) → base % 4 = 0 → base < 0x10000000 → s.enabled (blockOf base) = true →
    latchSet base = [base, base + 4] → regAt base = some (r, 0) → r.kind = .pair →
    completes (.latchedRead m base) s fun t =>
      t = { s with latches := t.latches, out := t.out } ∧ t.out = .regRead (s.peek base).toNat :: s.out ∧
      t.latchOf m base = some ⟨m, base, [s.peek base, s.peek (base + 4)]⟩) ∧
  (∀ (s : State) (m : Master) (base : Nat) (l h : Word), (∀ p f, m ≠ .host p f) → base % 4 = 0 → base + 4 < 0x10000000 → s.enabled (blockOf (base + 4)) = true →
    latchSet (base + 4) = [base, base + 4] → s.latchOf m base = some ⟨m, base, [l, h]⟩ →
    exec (.latchedRead m (base + 4)) s = .next (s.emit (.regRead h.toNat))) ∧
  (∀ (s : State) (p : Fin 2) (base : Nat), s.decodes (.host p 0) base = true → base % 4 = 0 → base < 0x10000000 → ¬(0x80000 ≤ base ∧ base < 0x90000) →
    blockOf base ≠ 0xFC → s.enabled (blockOf base) = true → latchSet base = [base, base + 4] →
    completes (.latchedRead (.host p 0) base) s fun t =>
      t.out = .completion p 0 0 (leBytes 4 (s.peek base).toNat) :: s.out ∧ t.latchOf (.host p 0) base = some ⟨.host p 0, base, [s.peek base, s.peek (base + 4)]⟩) ∧
  (∀ (s : State) (m : Master) (off : Nat) (l h : Word), storesPair off = true → s.accepts m off = true → s.accepts m (off + 4) = true →
    completes (.registerWrite m off 15 l) s fun u =>
      u = { s with heldLow := u.heldLow } ∧
      completes (.registerWrite m (off + 4) 15 h) u fun t =>
        t = { s with heldLow := t.heldLow, regs := t.regs } ∧ t.rd off = l ∧ t.rd (off + 4) = h ∧ regsBut s t (fun o => o == off || o == off + 4))

/-- A read of a read-clear field returns it and leaves it 0 (R4); nothing else changes. -/
def Obligations.ReadClearFieldsReadOnceThenZero : Prop :=
  ∀ (s : State) (m : Master) (off : Nat) (r : RegD) (w : Nat), (∀ p f, m ≠ .host p f) → off % 4 = 0 → off < 0x10000000 → s.enabled (blockOf off) = true →
    latchSet off = [] → regAt off = some (r, w) →
    completes (.readClear m off) s fun t =>
      t = { s with regs := t.regs, out := t.out } ∧ t.out = .regRead (s.peek off).toNat :: s.out ∧ regsBut s t (· == off) ∧
      ∀ f ∈ r.fields, 32 * w ≤ f.lo → f.lo + f.width ≤ 32 * w + 32 →
        bitsOf (t.rdN off) (f.lo - 32 * w) f.width = if f.acc = .rc then 0 else bitsOf (s.rdN off) (f.lo - 32 * w) f.width

/-- An access to a gated block or an unassigned block ID (R488): in native mode Skylark gets a bus error and a host read Unsupported Request, logged as a Warning; under
CGU_COMPAT.ZEROREAD reads return 0 and a Note is logged. No register of the block changes. -/
def Obligations.GatedReadIsAnsweredByTheGatingMode : Prop :=
  ∀ (s : State) (off : Nat), off % 4 = 0 → off < 0x10000000 → s.enabled (blockOf off) = false →
    (s.gb F.CGU_COMPAT_ZEROREAD = false →
      exec (.gatedRead .skylark off) s = .next ((s.reportAs 0x0103 2 0x0100 (blockOf off * 256) [off, 1]).emit (.skylark "BUS_ERROR" [off]))) ∧
    (s.gb F.CGU_COMPAT_ZEROREAD = true →
      exec (.gatedRead .skylark off) s = .next ((s.reportAs 0x0103 0 0x0100 (blockOf off * 256) [off, 1]).emit (.regRead 0))) ∧
    (∀ p : Fin 2, s.decodes (.host p 0) off = true → blockOf off ≠ 0xFC → ¬(0x80000 ≤ off ∧ off < 0x90000) →
      (s.gb F.CGU_COMPAT_ZEROREAD = true →
        exec (.gatedRead (.host p 0) off) s =
          .next ((s.reportAs 0x0103 0 0x0100 (blockOf off * 256) [off, masterWord (.host p 0)]).emit (.completion p 0 0 [0, 0, 0, 0]))) ∧
      (s.gb F.CGU_COMPAT_ZEROREAD = false →
        completes (.gatedRead (.host p 0) off) s fun t =>
          reported s t [⟨0x0103, 2, 0x0100, blockOf off * 256, [off, masterWord (.host p 0)]⟩] ∧ t.out.head? = some (.completion p 0 1 []) ∧
          regsBut s t (fun o => o == R.HP_CNT p 4 || o == R.HP_CNT p 4 + 4)))

/-- Device Time, the function pages' time and the traceability record are read whole (R64, R83, R535): a read of the first word returns the word of that instant and
latches the rest for the master. TOP_LOCK is set by a write of 1 and reads 1 from then on (R5, R537). -/
def Obligations.TimeReadsLatchAndTheLockSets : Prop :=
  (∀ s : State, s.gb (F.CGU_CLKEN_EN 3) = true →
    completes (.tkuTimeRead .skylark) s fun t =>
      t = { s with latches := t.latches, out := t.out } ∧ t.out = .regRead ((fullOf (s.counter islSYS / 256 * 256)) % 2 ^ 32) :: s.out ∧
      t.latchOf .skylark R.TKU_TIME = some ⟨.skylark, R.TKU_TIME, [word (s.timeWord 0), word (s.timeWord 1), word (s.timeWord 2), word s.timeInfo]⟩) ∧
  (∀ (s : State) (p : Fin 2) (f : Fin 514), s.inReset p f = false → (s.fn p f).mse = true → (s.fn p f).d3 = false → s.gf F.RST_STATE_PSTATE ≠ 3 →
    completes (.fnTimeRead p f) s fun t =>
      t = { s with latches := t.latches, out := t.out } ∧ t.out = .completion p f 0 (leBytes 4 (word (s.timeWord 0)).toNat) :: s.out ∧
      t.latchOf (.host p f) (fnPage p f + 0x200) =
        some ⟨.host p f, fnPage p f + 0x200, [word (s.timeWord 0), word (s.timeWord 1), word (s.timeWord 2), word s.timeInfo]⟩) ∧
  (∀ s : State, s.gb (F.CGU_CLKEN_EN 3) = true →
    completes (.trecRead .skylark) s fun t =>
      t = { s with latches := t.latches, out := t.out } ∧ t.out = .regRead (s.rdN R.TKU_TREC) :: s.out ∧
      t.latchOf .skylark R.TKU_TREC = some ⟨.skylark, R.TKU_TREC, (List.range 16).map fun i => s.rd (R.TKU_TREC + 4 * i)⟩) ∧
  (∀ (s : State) (m : Master), s.accepts m R.TOP_LOCK = true →
    completes (.topLockSet m) s fun t => t = { s with regs := t.regs } ∧ t.gb F.TOP_LOCK_LOCK = true ∧ regsBut s t (· == R.TOP_LOCK))

/-! ## Memory errors -/

/-- The scrubber takes the words in turn (R33): a word with a write pending is skipped and counted; a word read without error changes nothing; after the last word the next sweep
begins and is counted. A corrected symbol is counted and logged, Correctable (R31). An uncorrectable word is counted and logged with the severity of what it holds (R32), and its owner gets the
answer of R32: an entry of the MAC table or of Hedgerow is lost, a security association and a transport context go to ERROR, a thread that reads it stops. That the sweep is spread evenly over its 24 hours,
and what the other severities are, is the model's choice (log entry 60). -/
def Obligations.ScrubberReadsAndOwnersAnswer : Prop :=
  (∀ (s : State) (o : MemOwner), s.works 0xE0 (islHB (stackOf s.mem.scrubPos)) = true → s.scrubDue = true →
    (∀ (n : Nat) (w : Bool), w = true ∨ n = 0 → completes (.scrubStep n w o) s fun t =>
      t = { s with mem := t.mem, regs := t.regs } ∧ regsBut s t (regSpan (R.MEM_CNT 2) (R.MEM_CNT 4)) ∧
      t.rd64 (R.MEM_CNT 3) = (if w then (s.rd64 (R.MEM_CNT 3) + 1) % 2 ^ 48 else s.rd64 (R.MEM_CNT 3)) ∧
      (s.mem.scrubPos + 1 < 2 ^ 31 → t.mem = { s.mem with scrubPos := s.mem.scrubPos + 1 } ∧ t.rd64 (R.MEM_CNT 2) = s.rd64 (R.MEM_CNT 2)) ∧
      (2 ^ 31 ≤ s.mem.scrubPos + 1 → t.mem = ⟨0, s.mem.scrubAt + 86400000000000⟩ ∧ t.rd64 (R.MEM_CNT 2) = (s.rd64 (R.MEM_CNT 2) + 1) % 2 ^ 48))) ∧
  (∀ (s : State), s.works 0xE0 (islHB (stackOf s.mem.scrubPos)) = true → s.scrubDue = true →
    let unit := 0xE000 + stackOf s.mem.scrubPos
    (∀ o : MemOwner, completes (.scrubStep 1 false o) s fun t =>
      t = { s with mem := t.mem, regs := t.regs, flt := t.flt } ∧ reported s t [⟨0xE001, 1, unit, unit, []⟩] ∧
      t.rd64 (R.MEM_CNT 0) = (s.rd64 (R.MEM_CNT 0) + 1) % 2 ^ 48 ∧ regsBut s t (ofBlock 0xE0)) ∧
    (∀ n : Nat, 2 ≤ n →
      (∀ o : MemOwner, o = .free ∨ o = .mw4 ∨ o = .critical → completes (.scrubStep n false o) s fun t =>
        t = { s with mem := t.mem, regs := t.regs, flt := t.flt } ∧
        reported s t [⟨0xE002, if o = .critical then 4 else 2, unit, unit, []⟩] ∧
        t.rd64 (R.MEM_CNT 1) = (s.rd64 (R.MEM_CNT 1) + 1) % 2 ^ 48 ∧ regsBut s t (ofBlock 0xE0)) ∧
      (∀ i : Fin 2097152, (s.sa i).st ≠ 0 → completes (.scrubStep n false (.sa i)) s fun t =>
        (t.sa i).st = 3 ∧ (∀ j, j ≠ i.val → t.sa j = s.sa j) ∧
        reported s t [⟨0xE002, 3, unit, unit, []⟩, ⟨0xA006, 3, 0xA000, 0xA000, []⟩]) ∧
      (∀ i : Fin 1048576, (s.xpt i).st ≠ 0 → completes (.scrubStep n false (.xpt i)) s fun t => (t.xpt i).st = 3) ∧
      (∀ k, mValid (s.macEnt k) = true → completes (.scrubStep n false (.macEntry k)) s fun t => mValid (t.macEnt k) = false) ∧
      (∀ (k : Fin 8192) (a w : BitVec 32), (s.thread k).st = 1 → completes (.scrubStep n false (.engine k (a.setWidth 64) w)) s fun t =>
        (t.thread k).st = 4 ∧ t.rdN (R.ENG_TEXC k) % 256 = 4 ∧ t.rdN (R.ENG_TEXCINSTR k) = w.toNat)))

/-! ## The timekeeper -/

/-- Only the transitions of R58 exist, and these commands make them: each logs 0x0302 with the old and the new state and rewrites the record; where the state or the request does not allow
one, LOCKREQ is refused with 0x0306 and the others do nothing. A change of source takes effect with the transition (R58, R84). -/
def Obligations.StateRequestsMoveTheTimekeeper : Prop :=
  ∀ (s : State) (m : Master), s.accepts m R.TKU_CTRL = true →
    let enters (c : Instr) (n : Nat) : Prop :=
      completes c s fun t => t.tkuState = n ∧ reported s t [⟨0x0302, 0, 0x0300, 0x0300, []⟩] ∧ tkuFrame s t
    (s.tkuState = 1 → s.rdN R.TKU_SRVUNC ≤ s.rdN R.TKU_LOCKTHR → enters (.lockreq m) 2) ∧
    (s.tkuState = 2 → exec (.lockreq m) s = .next s) ∧
    (s.tkuState ≠ 2 → ¬(s.tkuState = 1 ∧ s.rdN R.TKU_SRVUNC ≤ s.rdN R.TKU_LOCKTHR) → exec (.lockreq m) s = .next (s.report 0x0306 0 0 [])) ∧
    (s.tkuState = 1 ∨ s.tkuState = 2 → enters (.holdreq m) 3) ∧
    (s.tkuState ≠ 1 → s.tkuState ≠ 2 → exec (.holdreq m) s = .next s) ∧
    (s.tkuState ≠ 0 → enters (.untrace m) 0) ∧
    (s.tkuState = 0 → exec (.untrace m) s = .next s) ∧
    ∀ (src : BitVec 2) (port : BitVec 4),
      (src = 3 ∧ 2 ≤ port.toNat → exec (.srcChange m src port) s = .next (s.report 0x0306 0 0 [])) ∧
      (¬(src = 3 ∧ 2 ≤ port.toNat) → s.gf F.TKU_CTRL_SRC = src.toNat → s.gf F.TKU_CTRL_SRCPORT = port.toNat →
        exec (.srcChange m src port) s = .next s) ∧
      (¬(src = 3 ∧ 2 ≤ port.toNat) → ¬(s.gf F.TKU_CTRL_SRC = src.toNat ∧ s.gf F.TKU_CTRL_SRCPORT = port.toNat) →
        completes (.srcChange m src port) s fun t =>
          t.gf F.TKU_CTRL_SRC = src.toNat ∧ t.gf F.TKU_CTRL_SRCPORT = port.toNat ∧ tkuFrame s t ∧
          t.tkuState = (if s.tkuState = 1 ∨ s.tkuState = 2 then 3 else s.tkuState) ∧
          (s.tkuState = 1 ∨ s.tkuState = 2 → reported s t [⟨0x0302, 0, 0x0300, 0x0300, []⟩]))

/-- A source is declared lost and TKU enters HOLDOVER (R59) when no servo update came for SRVTMO ms, no PPS edge for 1.1 s, or no time message of the stack for 8 ms; before that
nothing happens. -/
def Obligations.SourceLossEntersHoldover : Prop :=
  ∀ s : State, s.works 0x03 islSYS = true →
    let lost (c : Instr) : Prop := completes c s fun t =>
      t.tkuState = 3 ∧ t.tku.holdEntry = s.now ∧ tkuFrame s t ∧
      reported s t [⟨0x0301, 2, 0x0300, 0x0300, []⟩, ⟨0x0302, 0, 0x0300, 0x0300, []⟩]
    let follows : Prop := s.tkuState = 1 ∨ s.tkuState = 2
    let tmo := max 1 (s.gf F.TKU_HOLDCFG_SRVTMO) * 1000000
    (follows → s.tku.lastUpdate + tmo ≤ s.now → lost .servoWatchdog) ∧
    (¬(follows ∧ s.tku.lastUpdate + tmo ≤ s.now) → exec .servoWatchdog s = .next s) ∧
    (follows → s.gf F.TKU_CTRL_SRC = 2 → s.tku.ppsiLast.getD 0 + 1100000000 ≤ s.now → lost .ppsiTimeout) ∧
    (¬(follows ∧ s.gf F.TKU_CTRL_SRC = 2 ∧ s.tku.ppsiLast.getD 0 + 1100000000 ≤ s.now) → exec .ppsiTimeout s = .next s) ∧
    (follows → s.gf F.TKU_CTRL_SRC = 3 → s.tku.stackMsgAt + 8000000 ≤ s.now → lost .stackTimeLoss) ∧
    (¬(follows ∧ s.gf F.TKU_CTRL_SRC = 3 ∧ s.tku.stackMsgAt + 8000000 ≤ s.now) → exec .stackTimeLoss s = .next s)

/-- A write of TKU_SRVUNC (R60, R62): with no source, or in FREERUN, the value is stored and nothing more; else it is a servo update, which restarts the age, copies TKU_OFFSET into the
record, takes the quantities written, logs and counts an offset beyond the bound in force, and moves HOLDOVER to ACQUIRING. -/
def Obligations.ServoUpdateRestartsTheAge : Prop :=
  ∀ (s : State) (m : Master) (v : Word), s.accepts m R.TKU_SRVUNC = true →
    (s.gf F.TKU_CTRL_SRC = 0 ∨ s.tkuState = 0 → exec (.servoUpdate m v) s = .next (s.wr R.TKU_SRVUNC v)) ∧
    (s.gf F.TKU_CTRL_SRC ≠ 0 → s.tkuState ≠ 0 → completes (.servoUpdate m v) s fun t =>
      t.rd R.TKU_SRVUNC = v ∧ t.tku.lastUpdate = s.now ∧
      t.tku.q = ⟨s.rdN R.TKU_SRCACC, s.rdN R.TKU_ASYMUNC, v.toNat, s.rdN R.TKU_FRQUNC, s.rdN R.TKU_DRIFT⟩ ∧
      t.rd64 (R.TKU_TREC + 20) = s.rd64 R.TKU_OFFSET ∧ tkuFrame s t ∧
      (s.tkuState = 3 → t.tkuState = 1) ∧ (s.tkuState ≠ 3 → t.tkuState = s.tkuState) ∧
      reported s t ((if s.breaches (signedOf 64 (s.rd64 R.TKU_OFFSET)) then [⟨0x0304, 2, 0x0300, 0x0300, []⟩] else []) ++
        (if s.tkuState = 3 then [⟨0x0302, 0, 0x0300, 0x0300, [3, 1]⟩] else [])))

/-- The bound is computed again every 1,024 ns (R61): its code is published, a bus message carries it, a committed record is taken (R9, R84), and a holdover bound above LIMIT ends in FREERUN
(R58). An island takes the next message (R65): it aligns, and realigns where its counter differs by more than TOL. -/
def Obligations.BoundIsPublishedAndDelivered : Prop :=
  (∀ s : State, s.works 0x03 islSYS = true → s.tku.lastCompute + 1024 ≤ s.now →
    ¬(s.tkuState = 3 ∧ s.gf F.TKU_HOLDCFG_LIMIT < codeOfBound s.boundNow) → completes .boundRecompute s fun t =>
      t.pubCode = codeOfBound s.boundNow ∧ t.tku.lastCompute = s.now ∧ t.tku.bound = s.boundNow.getD 0 ∧ t.tkuState = s.tkuState ∧
      t.tku.bus.getLast? = some ⟨s.tku.busNum + 1, s.now, if codeOfBound s.boundNow = 0xFF then none else s.boundNow, s.gf F.TKU_STATE_EPOCH⟩ ∧
      t.gb F.TKU_COMMIT_PENDING = false ∧ (s.gb F.TKU_COMMIT_PENDING = true → t.rdWide (R.TKU_TREC + 4) 4 = s.rdWide R.TKU_TRECSH 4) ∧ tkuFrame s t) ∧
  (∀ s : State, s.works 0x03 islSYS = true → s.tku.lastCompute + 1024 ≤ s.now → s.tkuState = 3 → s.gf F.TKU_HOLDCFG_LIMIT < codeOfBound s.boundNow →
    completes .boundRecompute s fun t => t.tkuState = 0 ∧ t.pubCode = 0xFF ∧ tkuFrame s t ∧
      reported s t [⟨0x0305, 2, 0x0300, 0x0300, []⟩, ⟨0x0302, 0, 0x0300, 0x0300, []⟩]) ∧
  (∀ (s : State) (i : Fin 80) (m : BusMsg), s.gb (F.CGU_ISL_RUNNING i) = true → s.nextMsg i = some m →
    let off : Int := -(256 * (s.rdN (R.TKU_ISLDLY i) : Int))
    let diff := (off - (s.island i).off).natAbs
    let tol := s.rdN R.TKU_BUSCFG * 256
    completes (.busMessageReceive i) s fun t =>
      (t.island i).aligned = true ∧ (t.island i).bound = m.bound ∧ (t.island i).got = m.num ∧ (t.island i).held = none ∧
      (t.island i).off = (if (s.island i).aligned = true ∧ diff ≤ tol then (s.island i).off else off) ∧
      reported s t (if (s.island i).aligned = true ∧ tol < diff ∧ 4 * tol < diff then [⟨0x0309, 1, 0x0300, 0x0300, []⟩] else []) ∧
      t = { s with islands := t.islands, regs := t.regs, flt := t.flt } ∧ (∀ j, j ≠ i.val → t.island j = s.island j) ∧
      regsBut s t (· == R.TKU_ISLSTAT i)) ∧
  (∀ (s : State) (i : Fin 80), s.gb (F.CGU_ISL_RUNNING i) = false ∨ s.nextMsg i = none → exec (.busMessageReceive i) s = .next s)

/-- SET and STEP (R63): a valid GO schedules the adjustment 512 ns of Device Time ahead and sets BUSY; a GO while BUSY, a SET with nanoseconds above 999,999,999, and a STEP in FREERUN or out of
the range of a full stamp are refused, set ERR and are logged. At the instant Device Time moves and the step epoch and the count of steps advance, the adjustment counts as a servo update and the
state moves by R58; BUSY clears 1 ms of Device Time later. A commit waits for the next computation (R84). -/
def Obligations.AdjustmentsAreScheduledAndApplied : Prop :=
  (∀ (s : State) (m : Master), s.accepts m R.TKU_ADJCMD = true →
    let v := s.rdWide R.TKU_ADJVAL 3
    let refused (c : Instr) : Prop := completes c s fun t =>
      t.gb F.TKU_ADJCMD_ERR = true ∧ t.gb F.TKU_ADJCMD_BUSY = s.gb F.TKU_ADJCMD_BUSY ∧ t.tku = s.tku ∧ reported s t [⟨0x0306, 0, 0x0300, 0x0300, []⟩] ∧ tkuFrame s t
    let taken (c : Instr) (isSet : Bool) (a : Int) : Prop := completes c s fun t =>
      t.gb F.TKU_ADJCMD_BUSY = true ∧ t.gb F.TKU_ADJCMD_ERR = false ∧ t.tku.adj = some ⟨isSet, a, s.tku.dt + 512 * 65536⟩ ∧
      t.tku.dt = s.tku.dt ∧ t.tkuState = s.tkuState ∧ tkuFrame s t
    let land := (s.tku.dt : Int) + 512 * 65536 + s.stepValue
    (s.gb F.TKU_ADJCMD_BUSY = true ∨ 999999999 < fullNs v → refused (.tkuSet m)) ∧
    (s.gb F.TKU_ADJCMD_BUSY = false → fullNs v ≤ 999999999 → taken (.tkuSet m) true (timeOfFull v)) ∧
    (s.gb F.TKU_ADJCMD_BUSY = true ∨ s.tkuState = 0 ∨ land < 0 ∨ (maxTime : Int) ≤ land → refused (.tkuStep m)) ∧
    (s.gb F.TKU_ADJCMD_BUSY = false → s.tkuState ≠ 0 → 0 ≤ land → land < (maxTime : Int) → taken (.tkuStep m) false s.stepValue)) ∧
  (∀ (s : State) (a : Adj), s.works 0x03 islSYS = true → s.tku.adj = some a → a.applyAt ≤ s.tku.dt → completes .adjApply s fun t =>
    t.tku.dt = (if a.isSet then a.value else (s.tku.dt : Int) + a.value).toNat ∧ t.tku.adj = none ∧ t.tku.lastUpdate = s.now ∧
    t.tku.busyUntil = t.tku.dt + 1000000 * 65536 ∧ t.gf F.TKU_STATE_EPOCH = (s.gf F.TKU_STATE_EPOCH + 1) % 4 ∧
    t.tku.q.srvunc = s.rdN R.TKU_ADJUNC ∧
    t.tkuState = (if a.isSet then (if s.gf F.TKU_CTRL_SRC = 0 then 0 else 1) else if s.tkuState = 2 then 1 else s.tkuState) ∧ tkuFrame s t) ∧
  (∀ (s : State), s.works 0x03 islSYS = true → s.gb F.TKU_ADJCMD_BUSY = true → s.tku.adj = none → s.tku.busyUntil ≤ s.tku.dt →
    completes .adjBusyClear s fun t => t = { s with regs := t.regs } ∧ t.gb F.TKU_ADJCMD_BUSY = false ∧ regsBut s t (· == R.TKU_ADJCMD)) ∧
  (∀ (s : State) (m : Master), s.accepts m R.TKU_COMMIT = true →
    completes (.tkuCommit m) s fun t => t = { s with regs := t.regs } ∧ t.gb F.TKU_COMMIT_PENDING = true ∧ regsBut s t (· == R.TKU_COMMIT))

/-- The pulse-per-second input and output (R80, R81): an accepted edge is stamped with CAL subtracted; a pulse narrower than 100 ns and an edge within 0.5 s of the last are glitches, the
latter also logged; the output gives one edge per whole second unless it is held low, and falls after its width. -/
def Obligations.PulsePerSecondEdges : Prop :=
  (∀ (s : State) (up : Bool) (w : Nat), s.works 0x03 islSYS = true → s.gb F.TKU_PPSICFG_EN = true → up = (!s.gb F.TKU_PPSICFG_POL) →
    (100 ≤ w → (∀ k, s.tku.ppsiLast = some k → k + 500000000 ≤ s.now) → completes (.ppsiEdge up w) s fun t =>
      t.tku = { s.tku with ppsiLast := some s.now } ∧ t.seqOf 0x0300 = (s.seqOf 0x0300 + 1) % 2 ^ 32 ∧
      t.rdWide R.TKU_PPSISTAMP 3 = fullOf (((s.counter islSYS / 256 * 256 : Nat) : Int) - 256 * signedOf 24 (s.gf F.TKU_PPSICFG_CAL)).toNat ∧
      t.flt = s.flt ∧ regsBut s t (regSpan R.TKU_PPSISTAMP (R.TKU_PPSISTAMP + 12))) ∧
    (w < 100 → completes (.ppsiEdge up w) s fun t => t = { s with regs := t.regs } ∧
      t.gf F.TKU_PPSSTAT_GLITCH = min 65535 (s.gf F.TKU_PPSSTAT_GLITCH + 1) ∧ regsBut s t (· == R.TKU_PPSSTAT)) ∧
    (∀ k, 100 ≤ w → s.tku.ppsiLast = some k → s.now < k + 500000000 → completes (.ppsiEdge up w) s fun t =>
      t.gf F.TKU_PPSSTAT_GLITCH = min 65535 (s.gf F.TKU_PPSSTAT_GLITCH + 1) ∧ reported s t [⟨0x0307, 0, 0x0300, 0x0300, []⟩] ∧ t.tku = s.tku)) ∧
  (∀ s : State, s.works 0x03 islSYS = true → s.tku.ppsoLast < s.ppsoSecond s.tku.dt →
    (s.ppsoHeld = false → completes .ppsoEdge s fun t =>
      t.out = .pin "PPSO" true :: s.out ∧ t.tku.ppsoHigh = true ∧ t.tku.ppsoLast = s.ppsoSecond s.tku.dt ∧
      t.tku.ppsoFall = s.now + 8000 * max 1 (s.gf F.TKU_PPSOCFG_WIDTH) ∧ t.seqOf 0x0301 = (s.seqOf 0x0301 + 1) % 2 ^ 32) ∧
    (s.ppsoHeld = true → completes .ppsoEdge s fun t => t = { s with tku := t.tku } ∧ t.tku = { s.tku with ppsoLast := s.ppsoSecond s.tku.dt })) ∧
  (∀ s : State, s.works 0x03 islSYS = true → s.tku.ppsoHigh = true → s.tku.ppsoFall ≤ s.now →
    exec .ppsoPulseEnd s = .next { s with tku := { s.tku with ppsoHigh := false }, out := .pin "PPSO" false :: s.out })

/-- A recognised PTP message bypasses the rule banks to Skylark's queue with the receive stamp that travels with it (R67); above 8,192 a second it is dropped and counted; one that breaks R73
is dropped and logged, and so is a two-step Sync whose Follow_Up does not come within 1 s. -/
def Obligations.PtpMessagesReachSkylark : Prop :=
  (∀ (s : State) (n : Fin 16) (p : Pkt) (rest : List Pkt) (a : Nat), s.works 0x60 (islNQ (n / 4)) = true → (s.mac n).rxBuf = p :: rest →
    s.gb (F.TKU_PTPCFG_EN n) = true → ptpAt (s.gf (F.TKU_PTPCFG_ENCAP n)) p.bytes = some a →
    let taken := if s.tku.ptpWindow = s.now / 1000000000 then s.tku.ptpCount else 0
    (taken < 8192 → ptpViolates p.bytes a = false → byteAt p.bytes a % 16 ≠ 8 → completes (.ptpReceive n) s fun t =>
      (t.mac n).rxBuf = rest ∧ t.tku.ptpQueue = s.tku.ptpQueue ++ [⟨n, p.bytes, p.rx, s.gf F.TKU_STATE_EPOCH⟩] ∧
      t.tku.ptpCount = taken + 1 ∧ t = { s with regs := t.regs, macs := t.macs, tku := t.tku } ∧ regsBut s t (· == R.MAC_STATUS n)) ∧
    (8192 ≤ taken → completes (.ptpReceive n) s fun t =>
      (t.mac n).rxBuf = rest ∧ t.tku = s.tku ∧ t.rdN R.TKU_PTPDROP = min (2 ^ 32 - 1) (s.rdN R.TKU_PTPDROP + 1) ∧ t.flt = s.flt) ∧
    (taken < 8192 → ptpViolates p.bytes a = true → completes (.ptpReceive n) s fun t =>
      (t.mac n).rxBuf = rest ∧ t.tku.ptpQueue = s.tku.ptpQueue ∧ reported s t [⟨0x0308, 0, 0x0300, 0x0300, []⟩])) ∧
  (∀ (s : State) (n : Fin 16), s.works 0x03 islSYS = true → s.followUpDue n = true → completes (.followUpTimeout n) s fun t =>
    t = { s with tku := t.tku, flt := t.flt } ∧ t.tku.syncs = s.tku.syncs.filter (fun e => e.1 ≠ n.val) ∧ reported s t [⟨0x0308, 0, 0x0300, 0x0300, []⟩])

/-- A PTM exchange (R77, R78): a request is stamped in the port's domain; the response yields the correlation of host time and Device Time with its delay d and its bound, and no response within 10 µs
is a failure, counted and logged. -/
def Obligations.PtmRelatesHostTime : Prop :=
  (∀ (s : State) (m : Master) (p : Fin 2),
    let sent (t : State) : Prop := t.out = .message p "PTM_Request" :: s.out ∧ t.seqOf (0x1000 + 0x100 * p) = (s.seqOf (0x1000 + 0x100 * p) + 1) % 2 ^ 32 ∧
      tabGet (fun _ => none) t.tku.ptmT1 p = some (s.counter (islHPI p) / 256 * 256, s.now, 0) ∧ t = { s with seqs := t.seqs, tku := t.tku, out := t.out }
    (s.accepts m (R.TKU_PTMCTL p) = true → s.ptmReady p = true → s.gf (F.TKU_PTMCTL_PERIOD p) = 0 → completes (.ptmTrig m p) s sent) ∧
    (s.works 0x03 islSYS = true → s.ptmReady p = true → 0 < s.gf (F.TKU_PTMCTL_PERIOD p) →
      tabGet (fun _ => 0) s.tku.ptmLast p + 1000000 * s.gf (F.TKU_PTMCTL_PERIOD p) ≤ s.now → completes (.ptmPeriod p) s sent)) ∧
  (∀ (s : State) (p : Fin 2) (mt : BitVec 64) (turn t1 at_ k : Nat), s.works (0x10 + p) (islHPI p) = true →
    tabGet (fun _ => none) s.tku.ptmT1 p = some (t1, at_, k) → s.now ≤ at_ + 10000 →
    let t4 := s.counter (islHPI p) / 256 * 256
    let d := (t4 - t1 - 65536 * turn) / 512
    completes (.ptmResponsed p mt turn) s fun t =>
      t.rdWide (R.TKU_PTMDEV p) 3 = fullOf (t1 + 256 * d) ∧ t.rd64 (R.TKU_PTMHOST p) = mt.toNat ∧ t.rdN (R.TKU_PTMDLY p) = d % 2 ^ 32 ∧
      t.gb (F.TKU_PTMCTL_VALID p) = true ∧ tabGet (fun _ => none) t.tku.ptmT1 p = none ∧
      t.gf (F.TKU_PTMCTL_BOUND p) = (if s.pubCode = 0xFF then 0xFF else boundCode (s.tku.bound + s.rdN (R.TKU_ISLUNC (islHPI p)) + d))) ∧
  (∀ (s : State) (p : Fin 2) (t1 at_ k : Nat), s.works 0x03 islSYS = true → tabGet (fun _ => none) s.tku.ptmT1 p = some (t1, at_, k) → at_ + 10000 ≤ s.now →
    completes (.tkuPtmFail p) s fun t =>
      tabGet (fun _ => none) t.tku.ptmT1 p = none ∧ t.gf (F.TKU_PTMCTL_FAILCNT p) = min 4095 (s.gf (F.TKU_PTMCTL_FAILCNT p) + 1) ∧
      reported s t [⟨0x030A, 0, 0x0300, 0x0300, []⟩] ∧ tkuFrame s t)

/-! ## Network ports -/

/-- A quad's mode (R86, R87): a mode of one quad is taken while its ports are stopped and gives every port its share of the receive buffer; mode 5 takes both quads of a pair, and leaving it leaves the
second at mode 0; what R87 refuses is dropped and logged. -/
def Obligations.QuadModePlacesPorts : Prop :=
  ∀ (s : State) (m : Master) (q : Fin 4) (mode : BitVec 3), s.accepts m (R.MAC_QUADMODE q) = true →
    let refused := 6 ≤ mode.toNat ∨ (mode.toNat = 5 ∧ q.val % 2 = 1) ∨ (q.val % 2 = 1 ∧ s.quadMode q = 5)
    (refused → exec (.quadmodeWrite m q mode) s = .next (s.cfgViol m (R.MAC_QUADMODE q))) ∧
    (¬refused → mode.toNat ≠ 5 → s.quadMode q ≠ 5 → mode.toNat ≠ s.quadMode q →
      (s.quadStopped q = true → completes (.quadmodeWrite m q mode) s fun t =>
        t.quadMode q = mode.toNat ∧ (∀ k : Fin 4, t.gf (F.MAC_RXBUF_SIZE (4 * q + k)) = sizeIn mode.toNat (4 * q + k)) ∧
        (∀ r : Fin 4, r ≠ q → t.quadMode r = s.quadMode r) ∧ t = { s with regs := t.regs }) ∧
      (s.quadStopped q = false → exec (.quadmodeWrite m q mode) s = .next (s.cfgViol m (R.MAC_QUADMODE q)))) ∧
    (¬refused → mode.toNat = 5 → s.quadMode q ≠ 5 →
      (s.quadStopped q = true → s.quadStopped (q + 1) = true → completes (.quadmodeWrite m q mode) s fun t =>
        t.quadMode q = 5 ∧ t.quadMode (q + 1) = 5 ∧ t = { s with regs := t.regs }) ∧
      (s.quadStopped q = false ∨ s.quadStopped (q + 1) = false → exec (.quadmodeWrite m q mode) s = .next (s.cfgViol m (R.MAC_QUADMODE q)))) ∧
    (¬refused → mode.toNat ≠ 5 → s.quadMode q = 5 → s.quadStopped q = true → s.quadStopped (q + 1) = true →
      completes (.quadmodeWrite m q mode) s fun t => t.quadMode q = mode.toNat ∧ t.quadMode (q + 1) = 0 ∧ t = { s with regs := t.regs })

/-- A port starts and stops (R21, R86, R98), and its link comes up and goes down with the events of R89, R91 and R95: a start takes the pipeline field and clears STOPPED; a stop discards the transmit
buffer and keeps the stored frames; a loss of link drops the frame being received, counts it and keeps the rest; the stop itself logs nothing. -/
def Obligations.PortsStartStopAndLink : Prop :=
  (∀ (s : State) (m : Master) (n : Fin 16), s.accepts m (R.MAC_PORTCFG n) = true →
    (s.portRate n ≠ 0 → completes (.portStart m n) s fun t =>
      t.gb (F.MAC_PORTCFG_EN n) = true ∧ t.gb (F.MAC_STATUS_STOPPED n) = false ∧ (t.mac n).pipe = bitsOf (s.rdN R.TOP_PIPEMAP) (2 * n) 2 ∧
      (t.mac n).rxBuf = (s.mac n).rxBuf ∧ t = { s with regs := t.regs, macs := t.macs } ∧ regsBut s t (fun o => o == R.MAC_PORTCFG n || o == R.MAC_STATUS n)) ∧
    (s.portRate n = 0 → exec (.portStart m n) s = .next (s.cfgViol m (R.MAC_PORTCFG n))) ∧
    (s.gb (F.MAC_PORTCFG_EN n) = true → ∃ u : State,
      u = { s with regs := u.regs, macs := u.macs } ∧ u.gb (F.MAC_PORTCFG_EN n) = false ∧ (u.mac n).txBuf = [] ∧ (u.mac n).stopAt = some s.now ∧
      (u.mac n).rxBuf = (s.mac n).rxBuf ∧ regsBut s u (· == R.MAC_PORTCFG n) ∧
      exec (.portStop m n) s = .next ((s.mac n).txBuf.foldl (fun s k => (s.macCount n 71 1).dropPkt k 0xD) u))) ∧
  (∀ (s : State) (n : Fin 16), s.works 0x60 (islNQ (n / 4)) = true →
    (s.stopDue n = true → ¬(s.following = true ∧ s.gf F.TKU_CTRL_SRC = 1 ∧ s.gf F.TKU_CTRL_SRCPORT = n) → completes (.portStopped n) s fun t =>
      t.gb (F.MAC_STATUS_STOPPED n) = true ∧ t.gb (F.MAC_STATUS_LINK n) = false ∧ (t.mac n).stopAt = none ∧ (t.mac n).rxBuf = (s.mac n).rxBuf ∧
      t = { s with regs := t.regs, macs := t.macs } ∧ regsBut s t (· == R.MAC_STATUS n)) ∧
    (s.canLink n = true → s.gb (F.MAC_STATUS_LINK n) = false → completes (.macLinkUp n) s fun t =>
      t.gb (F.MAC_STATUS_LINK n) = true ∧ reported s t [⟨0x6001, 0, 0x6000 + n, 0x6000 + n, []⟩] ∧ t = { s with regs := t.regs, flt := t.flt } ∧
      regsBut s t (· == R.MAC_STATUS n)) ∧
    (∀ rcv, s.gb (F.MAC_STATUS_LINK n) = true → ¬(s.following = true ∧ s.gf F.TKU_CTRL_SRC = 1 ∧ s.gf F.TKU_CTRL_SRCPORT = n) →
      (s.rd64 (R.MAC_CNT n 13) + 1) % 2 ^ 47 ≠ 0 → completes (.macLinkDown n rcv) s fun t =>
      t.gb (F.MAC_STATUS_LINK n) = false ∧ reported s t [⟨0x6002, 2, 0x6000 + n, 0x6000 + n, []⟩] ∧ t.macs = s.macs ∧
      t.rd64 (R.MAC_CNT n 13) = (s.rd64 (R.MAC_CNT n 13) + (if rcv then 1 else 0)) % 2 ^ 48) ∧
    (∀ rcv, s.gb (F.MAC_STATUS_LINK n) = true → s.following = true → s.gf F.TKU_CTRL_SRC = 1 → s.gf F.TKU_CTRL_SRCPORT = n →
      completes (.macLinkDown n rcv) s fun t => t.gb (F.MAC_STATUS_LINK n) = false ∧ t.tkuState = 3) ∧
    (s.canLink n = true → s.gb (F.MAC_PORTCFG_AN n) = true → s.gb (F.MAC_STATUS_LINK n) = false → exec (.macAnFail n) s = .next (s.report 0x6003 0 n [])))

/-- A received frame is stamped in its port's domain whatever becomes of it (R46, R92), and judged by length, then FCS (R93): a runt, an oversize frame and a bad FCS are counted and dropped. A good one is
stored with its stamp while its buffer admits it (R99) and else counted as dropped, and logged where its priority is protected; with STRICT a port with MACsec drops a frame without SecTAG (R104). -/
def Obligations.ReceivedFramesAreStampedJudgedAndStored : Prop :=
  ∀ (s : State) (n : Fin 16) (f : List Byte), s.works 0x60 (islNQ (n / 4)) = true → s.accepting n = true →
    (∀ k : Fin 128, s.rd64 (R.MAC_CNT n k) < 2 ^ 46) → f.length ≤ 16384 →
    let c : Instr := .macFrameReceive n f ⟨0, 0, 0, 0⟩
    let maxLen := s.gf (F.MAC_PORTCFG_MAXLEN n)
    let count (t : State) (k : Nat) : Prop := t.rd64 (R.MAC_CNT n k) = s.rd64 (R.MAC_CNT n k) + 1
    let stamped (t : State) : Prop := t.seqOf (0x6000 + n) = (s.seqOf (0x6000 + n) + 1) % 2 ^ 32 ∧
      t.rd64 (R.MAC_CNT n 1) = s.rd64 (R.MAC_CNT n 1) + min f.length (maxLen + 1)
    let dropped (k : Nat) : Prop := completes c s fun t => stamped t ∧ count t k ∧ t.macs = s.macs ∧ t.flt = s.flt ∧
      t = { s with regs := t.regs, seqs := t.seqs, flt := t.flt }
    let st : Stamp := ⟨s.counter (islNQ (n / 4)) / 256 * 256 - 256 * s.rdN (R.TKU_CALRX n), s.islandBound (islNQ (n / 4)), 0x6000 + n, s.seqOf (0x6000 + n)⟩
    let strict := s.gb (F.MAC_PORTCFG_MACSEC n) = true ∧ s.gb (F.MAC_PORTCFG_STRICT n) = true ∧ beAt f 12 2 ≠ 0x88E5 ∧ beAt f 12 2 ≠ 0x888E
    (f.length < 64 → dropped 9) ∧
    (64 ≤ f.length → maxLen < f.length → dropped 10) ∧
    (64 ≤ f.length → f.length ≤ maxLen → fcsOk f = false → dropped 8) ∧
    (64 ≤ f.length → f.length ≤ maxLen → fcsOk f = true → beAt f 12 2 ≠ 0x8808 → strict → dropped 12) ∧
    (64 ≤ f.length → f.length ≤ maxLen → fcsOk f = true → beAt f 12 2 ≠ 0x8808 → ¬strict → s.admits n (s.rxPrio n f) f.length = true →
      completes c s fun t => stamped t ∧ count t 2 ∧ t.rd64 (R.MAC_CNT n 0) = s.rd64 (R.MAC_CNT n 0) + f.length ∧ t.flt = s.flt ∧
        (t.mac n).rxBuf = (s.mac n).rxBuf ++
          [{ bytes := f.take (f.length - 4), port := n, rx := st, stepEpoch := s.gf F.TKU_STATE_EPOCH
             prio := s.rxPrio n f, macsec := s.gb (F.MAC_PORTCFG_MACSEC n) && beAt f 12 2 == 0x88E5 }] ∧
        t = { s with regs := t.regs, seqs := t.seqs, macs := t.macs }) ∧
    (64 ≤ f.length → f.length ≤ maxLen → fcsOk f = true → beAt f 12 2 ≠ 0x8808 → ¬strict → s.admits n (s.rxPrio n f) f.length = false →
      completes c s fun t => stamped t ∧ count t 11 ∧ t.macs = s.macs ∧
        reported s t (if s.protected_ n (s.rxPrio n f) then [⟨0x6007, 2, 0x6000 + n, 0x6000 + n, []⟩] else []))

/-- Flow control (R101 to R103) and the snapshot (R108): a recognised pause frame starts, restarts or ends its holds; a hold ends when its time has passed; one longer than WDLIMIT ms is ignored for as long, and
logged; the device's own pause frames are 64 bytes, sent for the bits that changed and again while they stay asserted; a snapshot copies every counter at once. -/
def Obligations.PauseHoldsAndSnapshot : Prop :=
  (∀ (s : State) (n : Fin 16) (f : List Byte), s.works 0x60 (islNQ (n / 4)) = true → s.accepting n = true → f.length = 64 →
    64 ≤ s.gf (F.MAC_PORTCFG_MAXLEN n) → fcsOk f = true → beAt f 12 2 = 0x8808 → s.pauseRecognised n f = true → s.gf (F.MAC_FCCFG_MODE n) = 1 →
    (s.hold n 8).ignore = none →
    (beAt f 16 2 ≠ 0 → completes (.pauseFrameReceive n f) s fun t =>
      (t.hold n 8).until_ = some (s.now + quantaNs (s.portRate n) (beAt f 16 2)) ∧ t.gb (F.MAC_STATUS_LINKHOLD n) = true ∧ (t.mac n).rxBuf = (s.mac n).rxBuf) ∧
    (beAt f 16 2 = 0 → completes (.pauseFrameReceive n f) s fun t => (t.hold n 8).until_ = none ∧ (t.mac n).rxBuf = (s.mac n).rxBuf)) ∧
  (∀ (s : State) (n : Fin 16) (k : Fin 9) (u : Nat), s.works 0x60 (islNQ (n / 4)) = true → (s.hold n k).until_ = some u →
    (u ≤ s.now → completes (.pauseHoldExpire n k) s fun t => (t.hold n k).until_ = none ∧ t.gb (holdBit n k) = false) ∧
    (s.gf (F.MAC_FCCFG_WDLIMIT n) ≠ 0 → (s.hold n k).since + s.gf (F.MAC_FCCFG_WDLIMIT n) * 1000000 < s.now → completes (.macPauseStorm n k) s fun t =>
      (t.hold n k).until_ = none ∧ (t.hold n k).ignore = some (s.now + s.gf (F.MAC_FCCFG_WDLIMIT n) * 1000000) ∧ t.gb (F.MAC_STATUS_WDACTIVE n) = true ∧
      t.flt.arriving.getLast? = some ⟨0x6005, 2, 0x6000 + n, 0x6000 + n, []⟩)) ∧
  (∀ (s : State) (n : Fin 16) (k : Fin 9) (u : Nat), s.works 0x60 (islNQ (n / 4)) = true → (s.hold n k).ignore = some u → u ≤ s.now →
    completes (.pauseWatchdogEnd n k) s fun t => (t.hold n k).ignore = none ∧ t = { s with regs := t.regs, macs := t.macs } ∧ regsBut s t (· == R.MAC_STATUS n)) ∧
  (∀ (s : State) (n : Fin 16), s.works 0x60 (islNQ (n / 4)) = true → s.canSend n = true →
    let sends (c : Instr) (bs : List Nat) : Prop := completes c s fun t =>
      t.out = .pause n (s.pauseFrame n bs ++ leBytes 4 (fcsOf (s.pauseFrame n bs))) :: s.out ∧ (t.mac n).toSend = [] ∧ (t.mac n).pauseAt = s.now ∧
      t.seqOf (0x6010 + n) = (s.seqOf (0x6010 + n) + 1) % 2 ^ 32
    ((s.mac n).toSend ≠ [] → sends (.pauseFrameSend n) (s.mac n).toSend) ∧
    (s.refreshDue n = true → sends (.pauseRefresh n) (s.asserted n)) ∧
    ∀ bs, (s.pauseFrame n bs).length = 60) ∧
  (∀ (s : State) (m : Master) (n : Fin 16), s.accepts m (R.MAC_CNTSNAP n) = true → completes (.counterSnapshot m n) s fun t =>
    (∀ k : Fin 128, tabGet (fun _ => 0) (t.mac n).snap k = s.rd64 (R.MAC_CNT n k)) ∧ t = { s with macs := t.macs } ∧ (∀ j, j ≠ n.val → t.mac j = s.mac j))

/-- The oldest frame of a port's transmit buffer leaves whole, in order, when the link is up (R96): stamped in the port's transmit domain, with its FCS, counted, and its send entry completed. One longer than MAXLEN is
discarded and completed with status 4. The frame of this statement holds no launch time, and needs no fill and no buffer of its own. -/
def Obligations.TransmittedFramesLeaveInOrder : Prop :=
  ∀ (s : State) (n : Fin 16) (k : Pkt) (rest : List Pkt), s.works 0x60 (islNQ (n / 4)) = true → s.canSend n = true → (s.mac n).txBuf = k :: rest →
    k.launch = none → k.buf = none → k.home = none → k.xref = none → k.skylark = false →
    (s.gf (F.MAC_PORTCFG_MAXLEN n) < wireLen k → ∃ u : State, u = s.setMac n (fun c => { c with txBuf := rest }) ∧
      exec (.frameTransmit n none) s = .next (match k.send with | some r => (u.macCount n 70 1).sendDone r 4 none 0 | none => u.macCount n 70 1)) ∧
    (wireLen k ≤ s.gf (F.MAC_PORTCFG_MAXLEN n) → bitAt (s.gf F.ORS_TXFILL_FILL) n = false → ∃ u : State, u.macs = (s.setMac n fun c => { c with txBuf := rest }).macs ∧
      u.out = s.out ∧ u.seqOf (0x6010 + n) = (s.seqOf (0x6010 + n) + 1) % 2 ^ 32 ∧
      exec (.frameTransmit n none) s = .next ((match k.send with
        | some r => u.sendDone r 0 (some ((s.txStamp n).1, n, false)) k.bytes.length
        | none => u).emit (.frame n (k.bytes ++ leBytes 4 (fcsOf k.bytes)))))

/-! ## Host ports -/

/-- MW4 and its windows (R227 to R229, R235, R236): a request that hits its live window reaches HBM at BASE + w, whole; one that misses changes no memory, is counted and logged, and a read is
completed with Unsupported Request; a commit is refused at the first bad window, else pending until its boundary; requests accepted meanwhile are held, and proceed in order under the new windows. -/
def Obligations.WindowsTranslateAndCommit : Prop :=
  (∀ (s : State) (p f : Fin 2) (o : Nat), s.works (0x10 + p) (islHPI p) = true → s.inReset p f = false → (s.fn p f).mse = true → (s.fn p f).d3 = false →
    (s.gb (F.HP_COMMIT_PENDING p) = true → ∀ kind, completes (.mw4Request p f o kind) s fun t =>
      (t.hp p).held = (s.hp p).held ++ [(f.val, o, kind)] ∧ t = { s with hps := t.hps }) ∧
    (s.gb (F.HP_COMMIT_PENDING p) = false →
      let k := o / 2 ^ 31
      let a := s.lrd64 (R.HP_IBWBASE p f k) + o % 2 ^ 31
      let inside (n : Nat) : Prop := k < 16 ∧ s.lgb (F.HP_IBW_EN p f k) = true ∧ o % 2 ^ 31 + n ≤ 2 ^ s.lgf (F.HP_IBW_LOG2SIZE p f k) ∧ 0 < n
      let missed (t : State) : Prop := t.hbm = s.hbm ∧ t.rd64 (R.HP_CNT p 6) = (s.rd64 (R.HP_CNT p 6) + 1) % 2 ^ 48 ∧
        t.flt.arriving.getLast? = some ⟨0x100D + 0x100 * p, 0, (0x10 + p) * 256, fnBlame p f, fnDetail p f⟩
      (∀ data : List Byte, inside data.length → s.lgb (F.HP_IBW_WR p f k) = true → completes (.mw4Request p f o (.wr data false)) s fun t =>
        t.hbmRead a data.length = data ∧ (∀ x, x < a ∨ a + data.length ≤ x → tabGet hbmDefault t.hbm x = tabGet hbmDefault s.hbm x) ∧
        t = { s with hbm := t.hbm }) ∧
      (∀ n, inside n → s.lgb (F.HP_IBW_RD p f k) = true → 0 < (s.fn p f).mps → completes (.mw4Request p f o (.rd n)) s fun t =>
        ∃ l : List (List Byte), t.out = (l.map (OutEv.completion p f 0)).reverse ++ s.out ∧ l.flatten = s.hbmRead a n ∧
          (∀ d ∈ l, d.length ≤ (s.fn p f).mps) ∧ t = { s with out := t.out }) ∧
      (∀ data : List Byte, ¬(inside data.length ∧ s.lgb (F.HP_IBW_WR p f k) = true) → completes (.mw4Request p f o (.wr data false)) s missed) ∧
      (∀ n, ¬(inside n ∧ s.lgb (F.HP_IBW_RD p f k) = true) → completes (.mw4Request p f o (.rd n)) s fun t =>
        missed t ∧ t.out.head? = some (.completion p f 1 [])) ∧
      (∀ data : List Byte, completes (.mw4Request p f o (.wr data true)) s fun t => t.hbm = s.hbm ∧ t.rd64 (R.HP_CNT p 5) = (s.rd64 (R.HP_CNT p 5) + 1) % 2 ^ 48) ∧
      completes (.mw4Request p f o .atomic) s fun t => t.hbm = s.hbm ∧ t.out.head? = some (.completion p f 1 []))) ∧
  (∀ (s : State) (m : Master) (p : Fin 2), s.accepts m (R.HP_COMMIT p) = true →
    let bad (f : Fin 2) (k : Fin 16) : Prop := s.gb (F.HP_IBW_EN p f k) = true ∧ (s.gf (F.HP_IBW_LOG2SIZE p f k) < 12 ∨
      s.rd64 (R.HP_IBWBASE p f k) % 2 ^ s.gf (F.HP_IBW_LOG2SIZE p f k) ≠ 0 ∨ 2 ^ 35 < s.rd64 (R.HP_IBWBASE p f k) + 2 ^ s.gf (F.HP_IBW_LOG2SIZE p f k))
    (s.gb (F.HP_COMMIT_PENDING p) = true → exec (.hpCommit m p) s = .next s) ∧
    (s.gb (F.HP_COMMIT_PENDING p) = false →
      ((∀ f k, ¬bad f k) → completes (.hpCommit m p) s fun t =>
        t.gb (F.HP_COMMIT_PENDING p) = true ∧ t = { s with regs := t.regs } ∧ regsBut s t (· == R.HP_COMMIT p)) ∧
      (∀ f k, bad f k → (∀ g j, 16 * g.val + j.val < 16 * f.val + k.val → ¬bad g j) → completes (.hpCommit m p) s fun t =>
        t.gb (F.HP_COMMIT_PENDING p) = false ∧ t.gb (F.HP_COMMIT_ERR p) = true ∧ t.gf (F.HP_COMMIT_ERRPF p) = f ∧ t.gf (F.HP_COMMIT_ERRWIN p) = k ∧
        reported s t [⟨0x100E + 0x100 * p, 0, (0x10 + p) * 256, fnBlame p f, fnDetail p f⟩] ∧
        t = { s with regs := t.regs, flt := t.flt } ∧ regsBut s t (· == R.HP_COMMIT p)))) ∧
  (∀ (s : State) (p : Fin 2), s.works (0x10 + p) (islHPI p) = true → s.gb (F.HP_COMMIT_PENDING p) = true → ∃ u : State,
    u.gb (F.HP_COMMIT_PENDING p) = false ∧ (u.hp p).held = [] ∧
    (∀ (f : Fin 2) (k : Fin 16), u.lrd (R.HP_IBW p f k) = s.rdN (R.HP_IBW p f k) ∧ u.lrd64 (R.HP_IBWBASE p f k) = s.rd64 (R.HP_IBWBASE p f k)) ∧
    u = { s with regs := u.regs, live := u.live, hps := u.hps } ∧ regsBut s u (· == R.HP_COMMIT p) ∧
    exec (.hpCommitBoundary p) s = .next ((s.hp p).held.foldl (fun s r => s.mw4Do p r.1 r.2.1 r.2.2) u))

/-- Completions (R231 to R233, R241): the data of a request is assembled and reaches its read when all of it has come; an error, poisoned data or the timeout fails the whole transfer, whose requests not yet issued are
not issued; what belongs to a retired tag is discarded and counted; a completion for no tag is logged. -/
def Obligations.CompletionsEndRequests : Prop :=
  ∀ (s : State) (p : Fin 2) (tag : Nat), s.works (0x10 + p) (islHPI p) = true →
    let h := s.hp p
    let dropped (t : State) : Prop := (t.hp p).tags = h.tags.filter fun x => x.tag ≠ tag
    let counted (t : State) (k : Nat) : Prop := t.rd64 (R.HP_CNT p k) = (s.rd64 (R.HP_CNT p k) + 1) % 2 ^ 48
    (h.tags.find? (fun x => x.tag == tag) = none → ∀ f st poisoned data, completes (.completionReceive p tag f st poisoned data) s fun t =>
      t.hps = s.hps ∧ reported s t [⟨0x1008 + 0x100 * p, 0, (0x10 + p) * 256, fnBlame p f, fnDetail p f⟩]) ∧
    ∀ x, h.tags.find? (fun x => x.tag == tag) = some x →
      let failed (t : State) : Prop := dropped t ∧ (t.hp p).reads = h.reads.map fun r =>
        if r.id = x.read then { r with failed := true, todo := [], open_ := r.open_ - 1 } else r
      let told (t : State) (code : Nat) : Prop :=
        reported s t [⟨code + 0x100 * p, 0, (0x10 + p) * 256, fnBlame p x.fn, fnDetail p x.fn⟩]
      (x.retired = false → x.fngen = (s.fn p x.fn).fngen →
        (∀ f data, (x.got ++ data).length < x.len → completes (.completionReceive p tag f .sc false data) s fun t =>
          (t.hp p).tags = h.tags.map (fun y => if y.tag = tag then { y with got := x.got ++ data } else y) ∧ (t.hp p).reads = h.reads ∧ t = { s with hps := t.hps }) ∧
        (∀ f data, x.len ≤ (x.got ++ data).length → completes (.completionReceive p tag f .sc false data) s fun t =>
          dropped t ∧ t = { s with hps := t.hps } ∧ (t.hp p).reads = h.reads.map fun r =>
            if r.id = x.read then { r with parts := r.parts ++ [(x.addr, (x.got ++ data).take x.len)], open_ := r.open_ - 1 } else r) ∧
        (∀ f st poisoned data, st ≠ CplStatus.sc → completes (.completionReceive p tag f st poisoned data) s fun t => failed t ∧ counted t 3 ∧ told t 0x100F) ∧
        (∀ f data, completes (.completionReceive p tag f .sc true data) s fun t => failed t ∧ counted t 5 ∧ told t 0x1006) ∧
        (x.deadline ≤ s.now → completes (.hpCplTimeout p tag) s fun t => failed t ∧ counted t 2 ∧ told t 0x1003)) ∧
      (x.retired = true →
        (∀ f st poisoned data, (st ≠ CplStatus.sc ∨ x.len ≤ (x.got ++ data).length) → completes (.completionReceive p tag f st poisoned data) s fun t =>
          dropped t ∧ counted t 0 ∧ (t.hp p).reads = h.reads ∧ t.flt = s.flt) ∧
        (x.deadline ≤ s.now → completes (.hpCplTimeout p tag) s fun t => dropped t ∧ counted t 1 ∧ (t.hp p).reads = h.reads ∧ t.flt = s.flt))

/-- Link errors and power states (R222, R233, R236 to R239): link errors are recorded in PF0's AER registers, counted and logged; L1 and the L0p width follow what the host enables; configuration writes change what they
name, or are answered with Request Retry Status while the function is under reset. -/
def Obligations.LinkErrorsAndPowerStates : Prop :=
  (∀ (s : State) (p : Fin 2), s.works (0x10 + p) (islHPI p) = true →
    (∀ err retrain, completes (.hpProtocol p err retrain) s fun t => (t.fn p 0).aer.unc = (s.fn p 0).aer.unc ||| 2 ^ fatalBit err ∧
      reported s t [⟨0x1007 + 0x100 * p, 2, (0x10 + p) * 256, fnBlame p 0, fnDetail p 0⟩] ∧
      (retrain = true → t.out.head? = some (.message p "RETRAIN"))) ∧
    (∀ err, completes (.hpLinkCorr p err) s fun t => (t.fn p 0).aer.cor = (s.fn p 0).aer.cor ||| 2 ^ corrBit err ∧
      t.rd64 (R.HP_CNT p 12) = (s.rd64 (R.HP_CNT p 12) + 1) % 2 ^ 48 ∧
      reported s t [⟨0x1009 + 0x100 * p, 1, (0x10 + p) * 256, fnBlame p 0, fnDetail p 0⟩]) ∧
    (∀ idle, (s.hp p).aspmL1 = true → s.gb (F.HP_STATUS_LINKUP p) = true → (s.hp p).l1 = false → max 1 (s.gf (F.HP_PMCFG_L1IDLE p)) ≤ idle →
      completes (.l1Entry p idle) s fun t => (t.hp p).l1 = true ∧ t = { s with hps := t.hps, out := t.out }) ∧
    ((s.hp p).l1 = true → completes (.l1Exit p) s fun t => (t.hp p).l1 = false ∧ t = { s with hps := t.hps, out := t.out }) ∧
    (∀ demand queued, s.gb (F.HP_STATUS_LINKUP p) = true → s.gb (F.HP_PMCFG_L0PEN p) = true → (s.hp p).l0pEn = true →
      let full := if s.gb (F.HP_LINKCFG_WIDTH p) then 8 else 16
      let lane := laneRate (s.gf (F.HP_STATUS_SPEED p))
      completes (.l0pWidthChange p demand queued) s fun t =>
        (16384 < queued → t.gf (F.HP_STATUS_WIDTH p) = full) ∧
        (queued ≤ 16384 → t.gf (F.HP_STATUS_WIDTH p) =
          if 2 * demand < 4 * lane then 4 else if 2 * demand < 8 * lane then 8 else full) ∧
        t = { s with regs := t.regs } ∧ regsBut s t (· == R.HP_STATUS p))) ∧
  (∀ (s : State) (p : Fin 2) (f : Fin 514), s.inReset p f = true →
    (∀ w, exec (.configWrite p f w) s = .next (s.emit (.completion p f 2 []))) ∧ exec (.d3hotEntry p f) s = .next (s.emit (.completion p f 2 []))) ∧
  (∀ (s : State) (p : Fin 2), completes (.pmeTurnOff p) s fun t => t.out = .message p "PME_TO_Ack" :: s.out ∧ (t.hp p).l23 = true ∧ t = { s with out := t.out, hps := t.hps }) ∧
  (∀ (s : State) (p : Fin 2) (f : Fin 514), s.inReset p f = false →
    let sets (c : Instr) (g : FnCfg → FnCfg) : Prop := completes c s fun t =>
      t.fn p f = g (s.fn p f) ∧ t.out = .completion p f 0 [] :: s.out ∧ t = { s with fns := t.fns, out := t.out } ∧
      ∀ k, k ≠ fnKey p f → tabGet (fun _ => {}) t.fns k = tabGet (fun _ => ({} : FnCfg)) s.fns k
    sets (.d3hotEntry p f) (fun c => { c with d3 := true }) ∧
    (∀ on, sets (.configWrite p f (.mse on)) fun c => { c with mse := on }) ∧
    sets (.configWrite p f .bmeSet) (fun c => { c with bme := true }) ∧
    (∀ n, sets (.configWrite p f (.maxPayload n)) fun c => { c with mps := n }) ∧
    (∀ n, sets (.configWrite p f (.maxReadRequest n)) fun c => { c with mrrs := n }) ∧
    (∀ e, sets (.configWrite p f (.cplTimeout e)) fun c => { c with cplTmo := e }) ∧
    (∀ en clear, sets (.configWrite p f (.pme en clear)) fun c => { c with pmeEn := en, pmeStatus := c.pmeStatus && !clear }) ∧
    (∀ unc sev cor, sets (.configWrite p f (.aerMask unc sev cor)) fun c => { c with aer := { c.aer with uncMask := unc, uncSev := sev, corMask := cor } }) ∧
    (s.queuesOf p f = [] → sets (.configWrite p f .d0) fun c => { c with d3 := false }))

/-- Host resets (R241, R242, R244, R299): PERST and a link loss take the link down; every reset covers its functions until HP_RESET_DONE, retires their tags and halts their queues; the PF0's takes its VFs with it; a VF is reset alone;
clearing Bus Master Enable halts the function's queues without a reset; the link trains to a rate and width within HP_LINKCFG when nothing holds it. -/
def Obligations.HostResetsAndLink : Prop :=
  (∀ (s : State) (p : Fin 2),
    let kept (u : State) : Prop := regsBut s u (fun o => ofBlock (0x10 + p) o) ∧ u.queues = s.queues ∧ u.fns = s.fns ∧ (u.hp p).tags = (s.hp p).tags ∧ (u.hp p).held = []
    let down (u : State) : Prop := u.gb (F.HP_STATUS_LINKUP p) = false ∧ u.gf (F.HP_STATUS_SPEED p) = 0 ∧ u.gf (F.HP_STATUS_WIDTH p) = 0
    (∃ u : State, kept u ∧ down u ∧ u.gb (F.HP_STATUS_PERST p) = true ∧ u.rd (R.HP_LINKCFG p) = s.rd (R.HP_LINKCFG p) ∧
      (∀ o, ofBlock (0x10 + p) o = true → o ≠ R.HP_LINKCFG p → o ≠ R.HP_STATUS p → u.rd o = resetWord o) ∧
      exec (.perstAssert p) s = .next (u.resetStart p (.port false))) ∧
    (completes (.perstDeassert p) s fun t => t.gb (F.HP_STATUS_PERST p) = false ∧ t = { s with regs := t.regs } ∧ regsBut s t (· == R.HP_STATUS p)) ∧
    (∃ u : State, kept u ∧ regsBut s u (fun _ => false) ∧ exec (.hotReset p) s = .next (u.resetStart p (.port true))) ∧
    (s.gb (F.HP_STATUS_LINKUP p) = true → ∃ u : State, kept u ∧ down u ∧ regsBut s u (· == R.HP_STATUS p) ∧
      reported s u [⟨0x1002 + 0x100 * p, 2, (0x10 + p) * 256, fnBlame p 0, fnDetail p 0⟩] ∧
      exec (.hpLinkDown p) s = .next (u.resetStart p (.port true))) ∧
    (∃ u : State, down u ∧ (u.fn p 0).aer.unc = (s.fn p 0).aer.unc ||| 2 ^ 22 ∧
      reported s u [⟨0x100A + 0x100 * p, 3, (0x10 + p) * 256, fnBlame p 0, fnDetail p 0⟩,
        ⟨0x1002 + 0x100 * p, 2, (0x10 + p) * 256, fnBlame p 0, fnDetail p 0⟩] ∧
      exec (.hpInternal p) s = .next (u.resetStart p (.port true))) ∧
    exec (.flrPf0 p) s = .next (s.resetStart p .pf0) ∧ exec (.flr p 0) s = .next (s.resetStart p .pf0) ∧
    (∀ f : Fin 514, f.val ≠ 0 → exec (.flr p f) s = .next (s.resetStart p (.one f))) ∧
    ((s.hp p).vfEn = true → completes (.vfDisable p) s fun t => (t.hp p).vfEn = false ∧ (t.hp p).numVfs = 0 ∧ ∀ f, 2 ≤ f → t.inReset p f = true) ∧
    (∀ r, let t := s.resetStart p r
      (∀ f, r.covers f = true → t.inReset p f = true) ∧ (∀ x ∈ (t.hp p).tags, x.fn < 514 → r.covers x.fn = true → x.retired = true) ∧
      ∃ b w, t.flt.arriving.getLast? = some ⟨0x100B + 0x100 * p, 0, (0x10 + p) * 256, b, w⟩)) ∧
  (∀ (s : State) (p : Fin 2) r rest, (s.hp p).resets = r :: rest → completes (.hpResetDone p) s fun t => (t.hp p).resets = rest ∧
    ∀ f, f < 514 → r.covers f = true → (t.fn p f).bme = false ∧ (t.fn p f).mse = false ∧ (t.fn p f).d3 = false) ∧
  (∀ (s : State) (p : Fin 2) (f : Fin 514), (s.fn p f).bme = true → completes (.bmeClear p f) s fun t =>
    (t.fn p f).bme = false ∧ (∀ x ∈ (t.hp p).tags, x.fn = f → x.retired = true) ∧ (∀ g ∈ s.queuesOf p f, (t.q g).st ≠ 1 ∧ (t.q g).st ≠ 2)) ∧
  (∀ (s : State) (p : Fin 2) (speed : Fin 7) (width : Nat) (flit : Bool), s.works (0x10 + p) (islHPI p) = true → s.canTrain p = true → 0 < speed.val →
    completes (.hpLinkUp p speed width flit) s fun t => t.gb (F.HP_STATUS_LINKUP p) = true ∧
      t.gf (F.HP_STATUS_SPEED p) = min speed.val (s.gf (F.HP_LINKCFG_MAXSPEED p)) ∧ (t.hp p).wakeLow = false ∧
      t.gf (F.HP_STATUS_WIDTH p) = min width (if s.gb (F.HP_LINKCFG_WIDTH p) then 8 else 16) ∧ t.gb (F.HP_STATUS_FLIT p) = flit ∧
      reported s t [⟨0x1001 + 0x100 * p, 0, (0x10 + p) * 256, fnBlame p 0, fnDetail p 0⟩] ∧ regsBut s t (· == R.HP_STATUS p))

/-! ## Rings and queues -/

/-- Doorbells (R226, R251, R252, R254): a write of MW2 that is no aligned word of four bytes is dropped and counted; a doorbell with a reserved bit, for no queue, with another generation or for a queue that does not run is
dropped, counted and, but for the last, logged; a valid one moves the tail (a completion queue's is stated below). DOORBELL and CQ_DOORBELL take the same path. -/
def Obligations.DoorbellsMoveTails : Prop :=
  ∀ (s : State) (p : Fin 2) (f : Fin 514) (off : Nat) (be : BitVec 4) (v : Word) (c : Instr), (c = .doorbell p f off be v ∨ c = .cqDoorbell p f off be v) →
    s.inReset p f = false → (s.fn p f).mse = true → (s.fn p f).d3 = false → off < 0x10000 →
    let counted (t : State) (k : Nat) : Prop := t.rd64 (R.QMG_CNT p k) = (s.rd64 (R.QMG_CNT p k) + 1) % 2 ^ 48 ∧ regsBut s t (fun o => regSpan (R.QMG_CNT p k) (R.QMG_CNT p k + 8) o)
    let turned (k code : Nat) : Prop := completes c s fun t => counted t k ∧
      reported s t [⟨code, 0, 0x3000, fnmBlame f, fnDetail p f⟩] ∧ t = { s with regs := t.regs, flt := t.flt }
    ((off % 8 ≠ 0 ∨ be ≠ 15#4) → completes c s fun t => t.rd64 (R.HP_CNT p 7) = (s.rd64 (R.HP_CNT p 7) + 1) % 2 ^ 48 ∧ t.queues = s.queues ∧
      reported s t [⟨0x1005 + 0x100 * p, 0, (0x10 + p) * 256, fnBlame p f, fnDetail p f⟩]) ∧
    (off % 8 = 0 → be = 15#4 →
      (bitsOf v.toNat 17 7 ≠ 0 → turned 2 0x3002) ∧
      (bitsOf v.toNat 17 7 = 0 → s.localQ p f (off / 8) = none → turned 3 0x3003) ∧
      ∀ g, bitsOf v.toNat 17 7 = 0 → s.localQ p f (off / 8) = some g → (s.q g).port = p → (s.q g).fn = f → (s.q g).loc = off / 8 →
        let q := s.q g
        let idx := bitsOf v.toNat 0 17
        (bitsOf v.toNat 24 8 ≠ q.gen → turned 1 0x3001) ∧
        (bitsOf v.toNat 24 8 = q.gen → q.st ≠ 1 → completes c s fun t => counted t 4 ∧ t = { s with regs := t.regs }) ∧
        (bitsOf v.toNat 24 8 = q.gen → q.st = 1 → q.typ ≠ 2 →
          (idx < 2 * q.size ∧ q.dist q.tail q.ci ≤ q.dist idx q.ci ∧ q.dist idx q.ci ≤ q.size → completes c s fun t =>
            t.q g = { q with tail := idx } ∧ (∀ h, h ≠ g → t.q h = s.q h) ∧ t.rd64 (R.QMG_CNT p 0) = (s.rd64 (R.QMG_CNT p 0) + 1) % 2 ^ 48 ∧
            t = { s with regs := t.regs, queues := t.queues }) ∧
          (¬(idx < 2 * q.size ∧ q.dist q.tail q.ci ≤ q.dist idx q.ci ∧ q.dist idx q.ci ≤ q.size) → turned 2 0x3002)))

/-- A completion queue's doorbell (R253): with v0 entries between the old head and the producer index and v between INDEX and it, both modulo twice the size, it is valid when INDEX is below twice the size and v ≤ v0; it then sets the
head, frees v0 - v slots and arms the queue's interrupt, which is judged at once (R268). Otherwise it is dropped, counted and logged (R252). -/
def Obligations.CompletionDoorbellMovesTheHead : Prop :=
  ∀ (s : State) (p : Fin 2) (f : Fin 514) (off g : Nat) (v : Word) (c : Instr), (c = .doorbell p f off 15 v ∨ c = .cqDoorbell p f off 15 v) →
    s.inReset p f = false → (s.fn p f).mse = true → (s.fn p f).d3 = false → off < 0x10000 → off % 8 = 0 → bitsOf v.toNat 17 7 = 0 →
    s.localQ p f (off / 8) = some g → (s.q g).port = p → (s.q g).fn = f → (s.q g).loc = off / 8 →
    let q := s.q g
    let idx := bitsOf v.toNat 0 17
    let v0 := q.dist q.tail q.ci
    let v1 := q.dist q.tail idx
    bitsOf v.toNat 24 8 = q.gen → q.st = 1 → q.typ = 2 →
      (idx < 2 * q.size ∧ v1 ≤ v0 → ∃ u : State,
        u.q g = { q with ci := idx, times := q.times.drop (v0 - v1), armed := true, unann := v1 } ∧
        (∀ h, h ≠ g → u.q h = s.q h) ∧ u = { s with regs := u.regs, queues := u.queues } ∧ exec c s = .next ((u.irq g).settleBound g)) ∧
      (¬(idx < 2 * q.size ∧ v1 ≤ v0) → completes c s fun t => t.rd64 (R.QMG_CNT p 2) = (s.rd64 (R.QMG_CNT p 2) + 1) % 2 ^ 48 ∧
        regsBut s t (fun o => regSpan (R.QMG_CNT p 2) (R.QMG_CNT p 2 + 8) o) ∧ reported s t [⟨0x3002, 0, 0x3000, fnmBlame f, fnDetail p f⟩] ∧
        t = { s with regs := t.regs, flt := t.flt })

/-- Fetch and dispatch (R230, R231, R255, R257, R267): one ring read takes at most 512 bytes up to the ring's end, as requests with tags that nothing holds; what a whole read brought joins its queue by the queue's type; a send
chain goes with its reserved slot into its pipeline, padded to 60 bytes. -/
def Obligations.RingsAreFetchedAndDispatched : Prop :=
  ∀ (s : State) (g : Fin 131072), s.works 0x30 islSYS = true →
    let c := s.q g
    let p := c.port
    (s.canFetch g = true → c.fault = false → ((s.hp p).reads.find? fun r => r.queue == g.val && !r.todo.isEmpty) = none →
      let n := min (min (c.dist c.tail c.fetch) (512 / c.entryBytes)) (c.size - c.slotOf c.fetch)
      n ≠ 0 → completes (.ringFetch g) s fun t => ∃ (r : ReadSt) (new : List TagSt),
        (t.hp p).reads = (s.hp p).reads ++ [r] ∧ r.queue = g ∧ r.gen = c.gen ∧ r.first = c.fetch ∧ r.count = n ∧ r.failed = false ∧ r.parts = [] ∧ r.open_ = new.length ∧
        (t.hp p).tags = (s.hp p).tags ++ new ∧
        new.map (fun y => (y.addr, y.len)) ++ r.todo = readSplit (s.fn p c.fn).mrrs (c.base + c.entryBytes * c.slotOf c.fetch) (n * c.entryBytes) ∧
        (∀ y ∈ new, y.fn = c.fn ∧ y.retired = false ∧ y.read = r.id ∧ y.got = [] ∧ y.tag < 2 ^ (s.hp p).tagBits ∧ ∀ z ∈ (s.hp p).tags, z.tag ≠ y.tag) ∧
        t.q g = { c with fetch := c.step c.fetch n } ∧ (∀ h, h ≠ g.val → t.q h = s.q h)) ∧
    (∀ r, ((s.hp p).reads.find? fun r => r.queue == g.val) = some r → r.open_ = 0 → r.todo = [] →
      let data := assemble r.parts
      let read (u : State) : Prop := (u.hp p).reads = (s.hp p).reads.filter fun x => x.id ≠ r.id
      (r.gen ≠ c.gen ∨ c.st ≠ 1 → completes (.fetchComplete g) s fun t => read t ∧ t = { s with hps := t.hps }) ∧
      (r.gen = c.gen → c.st = 1 →
        (r.failed = true → ∃ u : State, u.q g = { c with fault := true } ∧ (∀ h, h ≠ g.val → u.q h = s.q h) ∧ exec (.fetchComplete g) s = .next (u.settleAll g)) ∧
        (r.failed = false → c.typ = 1 → c.items = [] → c.fault = false → completes (.fetchComplete g) s fun t => read t ∧
          t.q g = { c with posts := c.posts ++ (List.range r.count).map fun k => (c.step r.first k, entryWords data 16 k) } ∧ t.flt = s.flt ∧ t.out = s.out) ∧
        (r.failed = false → c.typ = 3 → r.count = 1 → cmdBad c.gen knownOpcode (entryWords data 64 0) = false → ∃ u : State, read u ∧
          u.q g = { c with nextItem := c.nextItem + 1, items := c.items ++
            [{ id := c.nextItem, kind := .cmd, slot := c.slotOf (c.step r.first 0), after := c.step (c.step r.first 0) 1, entries := [entryWords data 64 0], stamp := noStamp }] } ∧
          exec (.fetchComplete g) s = .next (u.settleAll g)) ∧
        (r.failed = false → c.typ = 0 → c.xpt = none → c.trace = false → c.open_ = [] → r.count = 1 →
          let w := entryWords data 32 0
          sendBad c.gen w = false → bitAt (w.getD 2 0) 16 = true → bitAt (w.getD 2 0) 17 = true → 14 ≤ bitsOf (w.getD 2 0) 0 16 → bitsOf (w.getD 2 0) 0 16 ≤ 16380 →
          ∃ u : State, read u ∧ u.seqOf (0x3000 + p) = (s.seqOf (0x3000 + p) + 1) % 2 ^ 32 ∧
            (u.q g).items = c.items ++ [{ id := c.nextItem, kind := .chain, slot := c.slotOf (c.step r.first 0), after := c.step (c.step r.first 0) 1, entries := [w],
                                          stamp := ⟨s.counter islSYS / 256 * 256, s.islandBound islSYS, 0x3000 + p, s.seqOf (0x3000 + p)⟩ }] ∧
            exec (.fetchComplete g) s = .next (u.settleAll g)))) ∧
    (∀ i buffers, c.typ = 0 → s.canFetch g = true → (c.items.find? fun i => i.disp.isNone) = some i → i.kind = .chain → s.tmqHolds c.deftmq = false → c.cq ≠ g.val →
      ((s.q c.cq).freeSlots = 0 → exec (.sendDispatch g buffers) s = .next (s.bump (R.QMG_CNT p 15))) ∧
      ((s.q c.cq).freeSlots ≠ 0 →
        let sent (u : State) : Prop := u.q c.cq = { s.q c.cq with res := (s.q c.cq).res + 1 } ∧
          u.q g = { c with items := c.items.map fun j => if j.id == i.id then { j with disp := some c.gen } else j }
        (chainData i.entries buffers = none → ∃ u : State, sent u ∧ exec (.sendDispatch g buffers) s = .next (u.complete g i.id { status := 3, kind := 0, stamp := i.stamp })) ∧
        (∀ l, chainData i.entries buffers = some l → ∃ (u : State) (k : Pkt), sent u ∧ (u.pipe c.pipe).sendIn = (s.pipe c.pipe).sendIn ++ [k] ∧
          k.bytes = l ++ List.replicate (60 - l.length) 0 ∧ k.src = some (p, c.fn) ∧ k.pipe = c.pipe ∧ k.profile = c.profile ∧ k.rx = i.stamp ∧ k.deftmq = c.deftmq ∧
          k.send = some ⟨g, c.gen, i.id⟩ ∧ exec (.sendDispatch g buffers) s = .next (u.settleAll g))))

/-- Interrupts, stops and the admin queues (R249, R250, R268, R271, R281): an interrupt that is due disarms its queue and announces its entries; a stopped queue comes to rest once nothing of it is in the device, or
1 ms after it entered STOPPING, HALTED or, for a destroy, FREE with its generation kept; an admin queue is enabled with new generations when its registers are right, and disabled when no command queue is bound to it. -/
def Obligations.QueuesInterruptStopAndAdmin : Prop :=
  (∀ (s : State) (g : Fin 131072), s.works 0x30 islSYS = true →
    let c := s.q g
    (c.irqDue s.now = false → exec (.coalTimer g) s = .next s) ∧
    (c.irqDue s.now = true → completes (.coalTimer g) s fun t => t.q g = { c with armed := false, unann := 0 } ∧ (∀ h, h ≠ g.val → t.q h = s.q h) ∧
      ((s.fn c.port c.fn).msixEn = true → (s.fn c.port c.fn).bme = true → (s.fn c.port c.fn).msixMask = false → c.vector < 1024 →
        s.gb (F.FN_MSIXCTL_MASK c.port c.fn c.vector) = false → t.out = .msix c.port c.fn c.vector :: s.out)) ∧
    (c.st = 2 → c.typ ≠ 2 → c.waiter = none →
      let halted (e : Instr) : Prop := completes e s fun t => (t.q g).st = 3 ∧ (t.q g).items = [] ∧ (t.q g).open_ = [] ∧ (t.q g).gen = c.gen
      let freed (e : Instr) : Prop := completes e s fun t => (t.q g).st = 0 ∧ (t.q g).gen = c.gen ∧ (t.q g).items = []
      (c.busy = false → (c.reason ≠ 2 → halted (.queueDrainDone g)) ∧ (c.reason = 2 → freed (.queueDrainDone g))) ∧
      (c.stopAt + 1000000 ≤ s.now → (c.reason ≠ 2 → halted (.queueStopTimeout g)) ∧ (c.reason = 2 → freed (.queueStopTimeout g))) ∧
      (c.busy = true → exec (.queueDrainDone g) s = .next s) ∧ (s.now < c.stopAt + 1000000 → exec (.queueStopTimeout g) s = .next s))) ∧
  (∀ (s : State) (p : Fin 2) (f : Fin 514) (v : Word), s.inReset p f = false → (s.fn p f).mse = true → (s.fn p f).d3 = false →
    let a := admQueue p f
    let n := bitsOf v.toNat 0 4
    let m := bitsOf v.toNat 4 4
    let right : Prop := 4 ≤ n ∧ n ≤ 12 ∧ 4 ≤ m ∧ m ≤ 12 ∧ s.rd64 (R.FN_ADMBASE p f) % min (64 * 2 ^ n) 4096 = 0 ∧ s.rd64 (R.FN_ADMCBASE p f) % min (32 * 2 ^ m) 4096 = 0 ∧
      bitsOf v.toNat 8 10 < vectorsOf f ∧ (s.q a).st = 0 ∧ (s.q (a + 1)).st = 0
    (s.gb (F.FN_ADMCFG_EN p f) = false → right → completes (.adminEnable p f v) s fun t =>
      t.rdN (R.FN_ADMCFG p f) = v.toNat % 2 ^ 19 + 2 ^ 31 ∧ t.gb (F.FN_ADMSTAT_ERR p f) = false ∧
      (t.q a).st = 1 ∧ (t.q a).gen = ((s.q a).gen + 1) % 256 ∧ (t.q a).typ = 3 ∧ (t.q a).log2 = n ∧ (t.q a).loc = 0 ∧ (t.q a).cq = a + 1 ∧ (t.q a).base = s.rd64 (R.FN_ADMBASE p f) ∧
      (t.q (a + 1)).st = 1 ∧ (t.q (a + 1)).gen = ((s.q (a + 1)).gen + 1) % 256 ∧ (t.q (a + 1)).typ = 2 ∧ (t.q (a + 1)).log2 = m ∧ (t.q (a + 1)).loc = 1 ∧
      (t.q (a + 1)).vector = bitsOf v.toNat 8 10 ∧ (t.q (a + 1)).inten = bitAt v.toNat 18 ∧ (t.q (a + 1)).armed = true ∧ (t.q (a + 1)).base = s.rd64 (R.FN_ADMCBASE p f) ∧
      t = { s with regs := t.regs, queues := t.queues } ∧ ∀ h, h ≠ a → h ≠ a + 1 → t.q h = s.q h) ∧
    (s.gb (F.FN_ADMCFG_EN p f) = false → ¬right → completes (.adminEnable p f v) s fun t =>
      t.gb (F.FN_ADMCFG_EN p f) = false ∧ t.gb (F.FN_ADMSTAT_ERR p f) = true ∧ t = { s with regs := t.regs }) ∧
    (s.gb (F.FN_ADMCFG_EN p f) = true → bitsOf v.toNat 0 19 = bitsOf (s.rdN (R.FN_ADMCFG p f)) 0 19 →
      ((s.boundTo (a + 1)).any (fun h => h ≠ a && (s.q h).typ == 3) = true → completes (.adminDisable p f v) s fun t =>
        t.gb (F.FN_ADMCFG_EN p f) = true ∧ t.gb (F.FN_ADMSTAT_ERR p f) = true ∧ t = { s with regs := t.regs }) ∧
      ((s.boundTo (a + 1)).any (fun h => h ≠ a && (s.q h).typ == 3) = false → (s.q a).st = 1 → (s.q (a + 1)).st = 1 → completes (.adminDisable p f v) s fun t =>
        t.gb (F.FN_ADMCFG_EN p f) = false ∧ t.gb (F.FN_ADMSTAT_ERR p f) = false ∧ (t.q a).st = 2 ∧ (t.q a).reason = 2 ∧ (t.q (a + 1)).st = 2 ∧ (t.q (a + 1)).reason = 2)))

/-- The queue commands (R250, R272 to R276, R280): each is answered with its result; CREATE_QUEUE makes a FREE context RUNNING with the next generation, DESTROY_QUEUE and STOP_QUEUE stop a running queue before they complete,
RESTART_QUEUE starts a halted one anew, QUERY_QUEUE reports a context as R276 lays it out; QMG_QCMD reads and stops a queue for Skylark. -/
def Obligations.QueueCommandsActAndAnswer : Prop :=
  (∀ (s : State) (g : Fin 131072) (x : CmdCtx),
    let b := s.begun x
    let loc := bitsOf (x.arg 5) 9 13
    (s.takes g 1 x → answered (.nop g) s x 0 0 0 0 0 [] (· = b)) ∧
    (s.takes g 2 x → bitAt (x.arg 5) 3 = true → refusedWith (.createQueue g) s x 0x81) ∧
    (s.takes g 2 x → argsOk x 0xFFFFF3 0 0x1FFFFFFF true = true → bitsOf (x.arg 5) 0 2 = 2 → 2 ≤ loc → 4 ≤ bitsOf (x.arg 5) 4 5 → bitsOf (x.arg 5) 4 5 ≤ 16 →
      (x.arg 6 + x.arg 7 * 2 ^ 32) % min (32 * 2 ^ bitsOf (x.arg 5) 4 5) 4096 = 0 → bitsOf (x.arg 9) 0 10 < vectorsOf x.target →
      (∀ k, b.localQ x.port x.target loc = some k → refusedWith (.createQueue g) s x 0x85) ∧
      (b.localQ x.port x.target loc = none → b.poolRefuses x.port x.target = none → (∃ k, 2056 ≤ k ∧ k < 131072 ∧ (b.q k).st = 0) →
        ∃ k, 2056 ≤ k ∧ k < 131072 ∧ (b.q k).st = 0 ∧ answered (.createQueue g) s x 0 k (((b.q k).gen + 1) % 256) 0 0 [] fun u =>
          (u.q k).st = 1 ∧ (u.q k).gen = ((b.q k).gen + 1) % 256 ∧ (u.q k).port = x.port ∧ (u.q k).fn = x.target ∧ (u.q k).w5 = x.arg 5 ∧
          (u.q k).base = x.arg 6 + x.arg 7 * 2 ^ 32 ∧ (u.q k).w9 = x.arg 9 ∧ (u.q k).armed = true ∧ (u.q k).tail = 0 ∧ (u.q k).ci = 0 ∧
          (∀ h, h ≠ k → u.q h = b.q h) ∧ u.rdN (R.FNM_POOLUSE x.port 0) = (b.rdN (R.FNM_POOLUSE x.port 0) + 1) % 2 ^ 32 ∧
          u = { b with queues := u.queues, regs := u.regs, free := u.free })) ∧
    (argsOk x 0x3FFE00 0 0 false = true → 2 ≤ loc →
      (b.localQ x.port x.target loc = none → (s.takes g 3 x → refusedWith (.destroyQueue g) s x 0x85) ∧ (s.takes g 4 x → refusedWith (.stopQueue g) s x 0x85) ∧
        (s.takes g 5 x → refusedWith (.restartQueue g) s x 0x85) ∧ (s.takes g 6 x → refusedWith (.queryQueue g) s x 0x85)) ∧
      ∀ k, b.localQ x.port x.target loc = some k →
        let c := b.q k
        (s.takes g 3 x →
          (c.typ = 2 ∧ b.boundTo k ≠ [] ∨ c.xpt ≠ none → refusedWith (.destroyQueue g) s x 0x83) ∧
          (¬(c.typ = 2 ∧ b.boundTo k ≠ []) → c.xpt = none →
            (c.st = 3 → answered (.destroyQueue g) s x 0 0 0 0 0 [] fun u => (u.q k).st = 0 ∧ (u.q k).gen = c.gen ∧ (∀ h, h ≠ k → u.q h = b.q h)) ∧
            (c.st = 1 → completes (.destroyQueue g) s fun t => t.q k = { c with st := 2, reason := 2, waiter := some (x.g, x.id), stopAt := s.now } ∧
              (∀ h, h ≠ k → t.q h = b.q h)) ∧
            (c.st = 2 → refusedWith (.destroyQueue g) s x 0x84))) ∧
        (s.takes g 4 x →
          (c.st = 1 → completes (.stopQueue g) s fun t => t.q k = { c with st := 2, reason := 1, waiter := some (x.g, x.id), stopAt := s.now } ∧ ∀ h, h ≠ k → t.q h = b.q h) ∧
          (c.st ≠ 1 → refusedWith (.stopQueue g) s x 0x84)) ∧
        (s.takes g 5 x →
          (c.st ≠ 3 → refusedWith (.restartQueue g) s x 0x84) ∧
          (c.st = 3 → c.typ = 2 → (b.boundTo k).any (fun h => (b.q h).st ≠ 3) = true → refusedWith (.restartQueue g) s x 0x83) ∧
          (c.st = 3 → c.typ ≠ 2 → answered (.restartQueue g) s x 0 0 ((c.gen + 1) % 256) 0 0 [] fun u =>
            (u.q k).st = 1 ∧ (u.q k).gen = (c.gen + 1) % 256 ∧ (u.q k).tail = 0 ∧ (u.q k).ci = 0 ∧ (u.q k).fetch = 0 ∧ (u.q k).items = [] ∧ (u.q k).base = c.base ∧
            (u.q k).w5 = c.w5 ∧ ∀ h, h ≠ k → u.q h = b.q h)) ∧
        (s.takes g 6 x → 64 ≤ x.arg 4 % 65536 → answered (.queryQueue g) s x 0 0 0 0 0
          (bytesOfWords [c.w5, c.base % 2 ^ 32, c.base / 2 ^ 32, c.w8, c.w9, c.st + c.gen * 256 + c.reason * 65536 + b2n c.armed * 2 ^ 24, c.tail, c.ci, k, c.res,
            c.nCqFull, c.nRqEmpty, c.nBad, 0, 0, 0]) (· = b))) ∧
    (argsOk x 0x3FFE00 0 0x1FFFFFFF false = true → 2 ≤ loc → s.takes g 7 x → ∀ k, b.localQ x.port x.target loc = some k → (b.q k).typ = 2 → (b.q k).st ≠ 2 →
      bitsOf (x.arg 9) 0 10 < vectorsOf (b.q k).fn → answered (.modifyCq g) s x 0 0 0 0 0 [] fun u => u.q k = { b.q k with w9 := x.arg 9 } ∧ ∀ h, h ≠ k → u.q h = b.q h)) ∧
  (∀ (s : State) (m : Master) (index : BitVec 17), s.accepts m R.QMG_QCMD = true →
    let c := s.q index.toNat
    (c.st = 0 → (completes (.qmgRead m index) s fun t => t.gf F.QMG_QCMD_STATUS = 2 ∧ t = { s with regs := t.regs }) ∧
      completes (.qmgHalt m index) s fun t => t.gf F.QMG_QCMD_STATUS = 2 ∧ t = { s with regs := t.regs }) ∧
    (c.st ≠ 0 → completes (.qmgRead m index) s fun t => t.gf F.QMG_QCMD_STATUS = 0 ∧ t.rd (R.QMG_QDATA 0) = word c.w5 ∧
      t.rd (R.QMG_QDATA 5) = word (c.st + c.gen * 256 + c.reason * 65536 + b2n c.armed * 2 ^ 24) ∧ t.rd (R.QMG_QDATA 8) = word index.toNat ∧ t = { s with regs := t.regs }) ∧
    (c.st = 1 → completes (.qmgHalt m index) s fun t => t.gf F.QMG_QCMD_STATUS = 0 ∧ (t.q index.toNat).st = 2 ∧ (t.q index.toNat).reason = 9) ∧
    (c.st ≠ 0 → c.st ≠ 1 → completes (.qmgHalt m index) s fun t => t.gf F.QMG_QCMD_STATUS = 3 ∧ t = { s with regs := t.regs }))

/-! ## Tenants -/

/-- Tenants and their VFs (R283 to R294): CREATE_TENANT makes a FREE tenant ACTIVE on its command's port with its quotas and no VF, DESTROY_TENANT makes it DESTROYING once no VF is left, and what it held is returned before its ID is
FREE again with the next TGEN; a command that names no tenant, another port's, or one in a wrong state is refused and changes nothing; a VF belongs to one tenant, and moves on its FNGEN as it comes and goes. -/
def Obligations.TenantsAreMadeChangedAndEnded : Prop :=
  (∀ (s : State) (g : Fin 131072) (x : CmdCtx), x.port < 2 →
    let b := s.begun x
    let t := x.arg 5 % 1024
    let st := b.gf (F.FNM_TSTAT_STATE t)
    let form (k : Nat) : Prop := x.arg 5 &&& 0xFF00FC00 = 0 ∧ zeroFrom x k = true
    let known : Prop := st ≠ 0 ∧ b.gf (F.FNM_TSTAT_TGEN t) = bitsOf (x.arg 5) 16 8
    let home : Prop := known ∧ b.gf (F.FNM_TSTAT_PORT t) = x.port
    let refusals (c : Instr) (op k : Nat) (ok : List Nat) : Prop := s.takes g op x →
      (¬form k → refusedWith c s x 0x81) ∧ (form k → ¬known → refusedWith c s x 0x91) ∧ (form k → known → b.gf (F.FNM_TSTAT_PORT t) ≠ x.port → refusedWith c s x 0x82) ∧
      (form k → home → st ∉ ok → refusedWith c s x 0x84)
    refusals (.destroyTenant g) 0x11 6 [1, 2] ∧ refusals (.modifyTenant g) 0x12 16 [1, 2] ∧ refusals (.queryTenant g) 0x13 6 [1, 2, 3] ∧
    refusals (.attachVf g) 0x14 7 [1, 2] ∧ refusals (.detachVf g) 0x15 7 [1, 2] ∧ refusals (.purgeQueues g) 0x16 7 [1, 2] ∧
    (s.takes g 0x10 x → x.arg 5 < 1024 → tenantBad (fun k => (tenantWords x).getD k 0) = false →
      (st ≠ 0 → refusedWith (.createTenant g) s x 0x90) ∧
      (st = 0 → let r := setRange (tenantWords x)
        (b.setsTaken r.1 r.2 = true ∨ b.setsBusy r.1 r.2 = true → refusedWith (.createTenant g) s x 0x93) ∧
        (b.setsTaken r.1 r.2 = false → b.setsBusy r.1 r.2 = false → b.poolOver x.port [] (tenantWords x) = false →
          answered (.createTenant g) s x 0 (t + b.gf (F.FNM_TSTAT_TGEN t) * 2 ^ 16) 0 0 0 [] fun u =>
            u.gf (F.FNM_TSTAT_STATE t) = 1 ∧ u.gf (F.FNM_TSTAT_PORT t) = x.port ∧ u.gf (F.FNM_TSTAT_NVF t) = 0 ∧ u.tenant t = { args := tenantWords x } ∧
            u.gf (F.TBL_OWNER_LIMIT t) = x.arg 9 ∧ u.gf (F.BPM_QUOTA_LIMIT t) = x.arg 8 % 2 ^ 32 ∧
            (u.node 2 (t + 1024 * x.port)).w1 = x.arg 13 ∧ (u.node 2 (t + 1024 * x.port)).w2 = x.arg 14 ∧
            (∀ i, i < r.2 → bitAt (u.node 1 (r.1 + i)).w0 0 = true ∧ bitsOf (u.node 1 (r.1 + i)).w0 16 11 = t + 1024 * x.port) ∧
            reported b u [⟨0x2001, 0, 0x2000, 0x2000, []⟩]))) ∧
    (s.takes g 0x12 x → form 16 → home → (st = 1 ∨ st = 2) → tenantBad (fun k => (tenantWords x).getD k 0) = false →
      let old := (b.tenant t).args
      x.arg 7 = old.getD 1 0 → bitsOf (x.arg 12) 22 4 = bitsOf (old.getD 6 0) 22 4 → b.poolOver x.port old (tenantWords x) = false →
      answered (.modifyTenant g) s x 0 0 0 0 0 [] fun u => u.tenant t = { b.tenant t with args := tenantWords x } ∧ u.gf (F.TBL_OWNER_LIMIT t) = x.arg 9 ∧
        u.gf (F.BPM_QUOTA_LIMIT t) = x.arg 8 % 2 ^ 32 ∧ u.gf (F.FNM_TSTAT_STATE t) = st) ∧
    (s.takes g 0x11 x → form 6 → home → (st = 1 ∨ st = 2) →
      (b.gf (F.FNM_TSTAT_NVF t) ≠ 0 → refusedWith (.destroyTenant g) s x 0x93) ∧
      (b.gf (F.FNM_TSTAT_NVF t) = 0 → answered (.destroyTenant g) s x 0 0 0 0 0 [] fun u => u.gf (F.FNM_TSTAT_STATE t) = 3 ∧ (u.tenant t).dirty = none ∧
        (u.tenant t).quiescing = none ∧ u.gb (F.FNM_TSTAT_DIRTY t) = false ∧
        reported b u [⟨0x2002, 0, 0x2000, 0x2000, []⟩])) ∧
    (s.takes g 0x13 x → form 6 → home → 64 ≤ x.arg 4 % 65536 → ∃ w : List Nat, w.length = 16 ∧ w.getD 0 0 = t + b.gf (F.FNM_TSTAT_TGEN t) * 2 ^ 16 ∧
      w.getD 11 0 = st + b.gf (F.FNM_TSTAT_NVF t) * 2 ^ 8 + b2n (b.tenant t).dirty.isSome * 2 ^ 16 + b2n ((b.tenant t).dirty.any (·.full)) * 2 ^ 17 ∧
      w.getD 12 0 = b.tenantQueues t ∧ w.getD 13 0 = b.gf (F.TBL_OWNER_COUNT t) ∧ answered (.queryTenant g) s x 0 0 0 0 0 (bytesOfWords w) (· = b)) ∧
    (s.takes g 0x14 x → form 7 → home → (st = 1 ∨ st = 2) → x.arg 6 &&& 0xFFF0FE00 = 0 → (b.hp x.port).vfEn = true → bitsOf (x.arg 6) 0 9 < (b.hp x.port).numVfs →
      let v := bitsOf (x.arg 6) 0 9
      (b.gb (F.FNM_VFTEN_VALID x.port v) = true → refusedWith (.attachVf g) s x 0x93) ∧
      (b.gb (F.FNM_VFTEN_VALID x.port v) = false → (b.vfsOf t).any (fun e => e.1 == bitsOf (x.arg 6) 16 4) = false → b.workQueues x.port (v + 2) = [] →
        answered (.attachVf g) s x 0 0 0 0 0 [] fun u => u.gb (F.FNM_VFTEN_VALID x.port v) = true ∧ u.gf (F.FNM_VFTEN_TENANT x.port v) = t ∧
          u.gf (F.FNM_VFTEN_SLOT x.port v) = bitsOf (x.arg 6) 16 4 ∧ u.gf (F.FNM_TSTAT_NVF t) = (b.gf (F.FNM_TSTAT_NVF t) + 1) % 32 ∧
          (u.fn x.port (v + 2)).fngen = ((b.fn x.port (v + 2)).fngen + 1) % 256)) ∧
    (s.takes g 0x15 x → form 7 → home → (st = 1 ∨ st = 2) → x.arg 6 &&& 0xFFF0FE00 = 0 →
      let v := bitsOf (x.arg 6) 0 9
      (b.vfsOf t).contains (bitsOf (x.arg 6) 16 4, v + 2) = true →
      (b.workQueues x.port (v + 2) ≠ [] → refusedWith (.detachVf g) s x 0x93) ∧
      (b.workQueues x.port (v + 2) = [] → answered (.detachVf g) s x 0 0 0 0 0 [] fun u => u.gb (F.FNM_VFTEN_VALID x.port v) = false ∧
        u.gf (F.FNM_TSTAT_NVF t) = b.gf (F.FNM_TSTAT_NVF t) - 1 ∧ (u.fn x.port (v + 2)).fngen = ((b.fn x.port (v + 2)).fngen + 1) % 256)) ∧
    (s.takes g 0x16 x → form 7 → home → (st = 1 ∨ st = 2) → ∀ e, (b.vfsOf t).find? (fun e => e.1 == x.arg 6) = some e →
      ∃ n, answered (.purgeQueues g) s x 0 n 0 0 0 [] fun u => n = (u.workQueues x.port e.2).length ∧
        ∀ k ∈ b.workQueues x.port e.2, (b.q k).typ ≠ 2 → (b.q k).st = 3 → (b.q k).xpt = none → (u.q k).st = 0 ∧ (u.q k).gen = (b.q k).gen)) ∧
  (∀ (s : State) (t : Fin 1024), s.works 0x20 islSYS = true →
    (s.gf (F.FNM_TSTAT_STATE t) = 3 → completes (.tenantFreed t) s fun u => u.gf (F.FNM_TSTAT_STATE t) = 0 ∧
      u.gf (F.FNM_TSTAT_TGEN t) = (s.gf (F.FNM_TSTAT_TGEN t) + 1) % 256 ∧ u.tenant t = {} ∧ u.gf (F.BPM_QUOTA_LIMIT t) = 0) ∧
    (s.gf (F.FNM_TSTAT_STATE t) ≠ 3 → exec (.tenantFreed t) s = .next s))

/-- Dirty logs, quiescing, saving and restoring (R301 to R308): a log starts empty, is reported and cleared by DIRTY_SYNC, and is closed with its header written by DIRTY_STOP; QUIESCE completes when nothing of the tenant is left
in the device or its time is up; RESUME makes the queues fetch from what completed; an image is saved only while QUIESCED, and a bad one is refused with nothing created. -/
def Obligations.TenantsLogQuiesceAndMove : Prop :=
  (∀ (s : State) (g : Fin 131072) (x : CmdCtx), x.port < 2 →
    let b := s.begun x
    let t := x.arg 5 % 1024
    let st := b.gf (F.FNM_TSTAT_STATE t)
    let named (k : Nat) : Prop := x.arg 5 &&& 0xFF00FC00 = 0 ∧ zeroFrom x k = true ∧ b.gf (F.FNM_TSTAT_TGEN t) = bitsOf (x.arg 5) 16 8 ∧ b.gf (F.FNM_TSTAT_PORT t) = x.port
    let header (d : DirtySt) (u : State) : Prop := (b.fn x.port 0).bme = true →
      u.out = .hostWrite x.port 0 (d.base + 12) (leBytes 4 d.lost) :: .hostWrite x.port 0 d.base (leBytes 4 d.pi ++ leBytes 4 (b2n d.full)) :: b.out
    (s.takes g 0x18 x → named 9 → (st = 1 ∨ st = 2) →
      let n := bitsOf (x.arg 8) 0 5
      (n < 4 ∨ 20 < n → refusedWith (.dirtyStart g) s x 0x81) ∧
      (x.arg 8 &&& 0xFC00FEE0 = 0 → 4 ≤ n → n ≤ 20 → (x.arg 6 + x.arg 7 * 2 ^ 32) % 4096 = 0 →
        ((b.tenant t).dirty ≠ none → refusedWith (.dirtyStart g) s x 0x93) ∧
        ((b.tenant t).dirty = none → ((List.range 1024).filter fun t => b.gb (F.FNM_TSTAT_DIRTY t)).length < 64 →
          answered (.dirtyStart g) s x 0 0 0 0 0 [] fun u => u.gb (F.FNM_TSTAT_DIRTY t) = true ∧ (u.tenant t).dirty = some
            { base := x.arg 6 + x.arg 7 * 2 ^ 32, log2 := n, page := if bitAt (x.arg 8) 8 then 16 else 12, vector := bitsOf (x.arg 8) 16 10 }))) ∧
    (s.takes g 0x19 x → named 6 → (st = 1 ∨ st = 2) →
      ((b.tenant t).dirty = none → refusedWith (.dirtyStop g) s x 0x84) ∧
      (∀ d, (b.tenant t).dirty = some d → answered (.dirtyStop g) s x 0 0 0 0 0 [] fun u => (u.tenant t).dirty = none ∧ u.gb (F.FNM_TSTAT_DIRTY t) = false ∧ header d u)) ∧
    (s.takes g 0x1A x → named 6 → (st = 1 ∨ st = 2) →
      ((b.tenant t).dirty = none → refusedWith (.dirtySync g) s x 0x84) ∧
      (∀ d, (b.tenant t).dirty = some d → answered (.dirtySync g) s x 0 d.pi (b2n d.full) d.lost 0 [] fun u =>
        (u.tenant t).dirty = some { d with full := false, lost := 0, filter := [], told := false } ∧ header d u)) ∧
    (s.takes g 0x1C x → named 7 → st = 1 → x.arg 6 < 65536 →
      ((b.tenant t).quiescing ≠ none → refusedWith (.quiesce g) s x 0x84) ∧
      ((b.tenant t).quiescing = none → completes (.quiesce g) s fun u => (u.tenant t).quiescing = some (x.g, x.id, s.now + 1000 * (if x.arg 6 = 0 then 1000 else x.arg 6)) ∧
        u = { b with tenants := u.tenants })) ∧
    (s.takes g 0x1D x → named 6 → st = 2 → answered (.resume g) s x 0 0 0 0 0 [] fun u => u.gf (F.FNM_TSTAT_STATE t) = 1 ∧
      ∀ k ∈ b.tenantAll t, (b.q k).st = 1 → (b.q k).typ ≠ 2 → (u.q k).fetch = (b.q k).ci ∧ (u.q k).posts = [] ∧ (u.q k).open_ = []) ∧
    (s.takes g 0x1D x → named 6 → (st = 1 ∨ st = 3) → refusedWith (.resume g) s x 0x84) ∧
    (s.takes g 0x1E x → named 9 →
      (st = 1 ∨ st = 3 → refusedWith (.saveState g) s x 0x94) ∧
      (st = 2 → x.arg 8 < (b.image t).length → answered (.saveState g) s x 0x81 (b.image t).length 0 0 0 [] (· = b)) ∧
      (st = 2 → (b.image t).length ≤ x.arg 8 → answered (.saveState g) s x 0 0 0 0 0 [] fun u => u = b.fnWrite x.port 0 (x.arg 6 + x.arg 7 * 2 ^ 32) (b.image t)) ∧
      (b.image t).take 6 = leBytes 4 0x49545146 ++ leBytes 2 1) ∧
    (s.takes g 0x1F x → named 9 → (st = 1 ∨ st = 2) →
      refusedWith (.restoreState g none) s x 3 ∧
      (∀ l, imageOf (l.take (x.arg 8)) = none → answered (.restoreState g (some l)) s x 0x95 0 0 0 0 [] fun u =>
        u = { b with flt := u.flt } ∧ reported b u [⟨0x2005, 0, 0x2000, 0x2000, []⟩]) ∧
      (∀ l im, imageOf (l.take (x.arg 8)) = some im → (∀ r ∈ im.fns, rw r 0 ≤ 15 ∧ (b.vfsOf t).any (fun e => e.1 == rw r 0) = true) → (∀ e ∈ b.vfsOf t, b.workQueues x.port e.2 = []) →
        b.imageBad t im = false → im.work ≤ b.tArg t 6 → b.xptOwned t + im.xs.length ≤ b.tArg t 11 → b.rdN (R.FNM_POOL x.port 0) = 0 →
        answered (.restoreState g (some l)) s x 0 0 0 0 0 [] fun u => u.gf (F.FNM_TSTAT_STATE t) = 2 ∧ ∀ r ∈ im.fns,
          let f := ((b.vfsOf t).find? fun e => e.1 == rw r 0).elim 0 (·.2)
          u.rdN (R.FN_ADMCFG x.port f) = rw r 1 % 2 ^ 32 ∧
          ∀ q ∈ im.qs, recPlace q = (rw r 0, 0) → (u.q (admQueue x.port f)).gen = bitsOf (rw q 5) 8 8 ∧ (u.q (admQueue x.port f)).base = rw q 1 + rw q 2 * 2 ^ 32))) ∧
  (∀ (s : State) (t : Fin 1024), s.works 0x20 islSYS = true →
    (∀ d page f ci, (s.tenant t).dirty = some d → d.wait = [(page, f)] →
      let v := match ci with | some w => w.toNat % 2 ^ (d.log2 + 1) | none => d.ci
      (DirtySt.isFull { d with ci := v } = false → completes (.dirtyCiReread t ci) s fun u =>
        (u.tenant t).dirty = some { d with ci := v, wait := [], pi := (d.pi + 1) % 2 ^ (d.log2 + 1) } ∧ u.rd64 (R.FNM_TCNT t 2) = (s.rd64 (R.FNM_TCNT t 2) + 1) % 2 ^ 48 ∧
        ((s.fn (s.gf (F.FNM_TSTAT_PORT t)) 0).bme = true → u.out = .hostWrite (s.gf (F.FNM_TSTAT_PORT t)) 0 d.base (leBytes 4 ((d.pi + 1) % 2 ^ (d.log2 + 1))) ::
          .hostWrite (s.gf (F.FNM_TSTAT_PORT t)) 0 (d.base + 64 + 8 * (d.pi % 2 ^ d.log2)) (leBytes 8 (page * 2 ^ d.page + 4 * f)) :: s.out)) ∧
      (DirtySt.isFull { d with ci := v } = true → completes (.dirtyCiReread t ci) s fun u => u.rd64 (R.FNM_TCNT t 3) = (s.rd64 (R.FNM_TCNT t 3) + 1) % 2 ^ 48 ∧
        (u.tenant t).dirty = some { d with ci := v, wait := [], full := true, lost := min (d.lost + 1) (2 ^ 32 - 1), filter := d.filter.filter (· ≠ page), told := true })) ∧
    (∀ g id at_, (s.tenant t).quiescing = some (g, id, at_) →
      let rests (u : State) : Prop := u.gf (F.FNM_TSTAT_STATE t) = 2 ∧ (u.tenant t).quiescing = none
      (s.atRest t = true → ∃ u : State, rests u ∧ u = { s with regs := u.regs, tenants := u.tenants } ∧ exec (.quiesceDone t) s = .next (u.cmdDone g id 0 0 0 0 0 0)) ∧
      (s.atRest t = false → exec (.quiesceDone t) s = .next s) ∧
      (at_ ≤ s.now → ∃ u : State, rests u ∧ exec (.fnmQuiesceTmo t) s = .next (u.cmdDone g id 0 0 ((s.tenantAll t).map fun k => (s.q k).left).sum 0 0 0)) ∧
      (s.now < at_ → exec (.fnmQuiesceTmo t) s = .next s)))

/-! ## Parsing and classification -/

/-- Changing the parse graph and the rule set (R9, R120, R128, R129, R145, R146): a commit is refused at the first bad node, else each pipeline takes the new bank at a packet boundary and the old one is refilled when no packet holds
it; a swap changes ACTIVE once every pipeline has switched, stamped and counted, and is over when nothing of the old bank is left or its holds are revoked; a fragment entry is freed only when its life ends. -/
def Obligations.ParseAndRuleBanksChangeAtBoundaries : Prop :=
  (∀ (s : State) (m : Master), s.accepts m R.PRS_COMMIT = true →
    (s.gb F.PRS_COMMIT_PENDING = true → exec (.prsCommit m) s = .next s) ∧
    (s.gb F.PRS_COMMIT_PENDING = false → (∀ n : Fin 256, s.badNode n = false) → (∀ p : Fin 64, s.badProfile p = false) → completes (.prsCommit m) s fun t =>
      t.gb F.PRS_COMMIT_PENDING = true ∧ (∀ p : Fin 4, (t.pipe p).switched = false ∧ (t.pipe p).pass = (s.pipe p).pass) ∧ t.cls = s.cls ∧ t.live = s.live ∧
      regsBut s t (· == R.PRS_COMMIT)) ∧
    (s.gb F.PRS_COMMIT_PENDING = false → ∀ n : Fin 256, s.badNode n = true → (∀ k, k < n → s.badNode k.val = false) → completes (.prsCommit m) s fun t =>
      t.gb F.PRS_COMMIT_PENDING = false ∧ t.gb F.PRS_COMMIT_ERR = true ∧ t.gf F.PRS_COMMIT_ERRKIND = 1 ∧ t.gf F.PRS_COMMIT_ERRINDEX = n ∧
      reported s t [⟨0x7005, 0, 0x7000, 0x7000, []⟩] ∧ t = { s with regs := t.regs, flt := t.flt } ∧ regsBut s t (· == R.PRS_COMMIT))) ∧
  (∀ (s : State) (p : Fin 4), s.works 0x70 (islPP p) = true →
    (s.gb F.PRS_COMMIT_PENDING = true → (s.pipe p).pass = none → completes (.prsBankSwitch p) s fun t =>
      t.pipe p = { s.pipe p with switched := true } ∧ (∀ q, q ≠ p.val → t.pipe q = s.pipe q) ∧ t = { s with pipes := t.pipes }) ∧
    (s.gb F.PRS_COMMIT_PENDING = false ∨ (s.pipe p).pass ≠ none → exec (.prsBankSwitch p) s = .next s) ∧
    (∀ (way : Fin 8192) e, s.fragAt (p * 8192 + way) = some e →
      (e.until_ ≤ s.now → completes (.fragExpire p way) s fun t => t.fragAt (p * 8192 + way) = none ∧ (∀ k, k ≠ p.val * 8192 + way.val → t.fragAt k = s.fragAt k)) ∧
      (s.now < e.until_ → exec (.fragExpire p way) s = .next s))) ∧
  (∀ s : State, s.works 0x70 (islPP 0) = true →
    let ready : Prop := ∀ p : Fin 4, (s.pipe p).switched = true ∧ ∀ k ∈ (s.pipe p).packets, k.pbank ≠ s.cls.cur
    (s.gb F.PRS_COMMIT_PENDING = true → ready → completes .prsRefillDone s fun t => t.gb F.PRS_COMMIT_PENDING = false ∧ t.cls.cur = 1 - s.cls.cur ∧
      (∀ n : Fin 256, t.lrd (R.PRS_NODE n) = s.rdN (R.PRS_NODE n)) ∧ (∀ n : Fin 1024, t.lrd (R.PRS_TRANS n) = s.rdN (R.PRS_TRANS n)) ∧
      t.lrd R.PRS_HKEY = s.rdN R.PRS_HKEY ∧ regsBut s t (· == R.PRS_COMMIT)) ∧
    (¬(s.gb F.PRS_COMMIT_PENDING = true ∧ ready) → exec .prsRefillDone s = .next s)) ∧
  (∀ (s : State) (m : Master), s.accepts m R.CLS_RULESWAP = true →
    (s.gb F.CLS_RULESWAP_BUSY = true ∨ s.gb F.CLS_RULESWAP_COPYBUSY = true → completes (.ruleSwap m) s fun t => t.gb F.CLS_RULESWAP_ERR = true ∧ t.cls = s.cls ∧
      t.gf F.CLS_RULESWAP_ACTIVE = s.gf F.CLS_RULESWAP_ACTIVE ∧ reported s t [⟨0x7102, 0, 0x7100, 0x7100, []⟩]) ∧
    (s.gb F.CLS_RULESWAP_BUSY = false → s.gb F.CLS_RULESWAP_COPYBUSY = false → completes (.ruleSwap m) s fun t => t.gb F.CLS_RULESWAP_BUSY = true ∧
      t.cls = { s.cls with swapping := true, revokeAt := s.now + 1000 * s.gf F.CLS_EPOCHCFG_ENGTMO } ∧ t.gf F.CLS_RULESWAP_ACTIVE = s.gf F.CLS_RULESWAP_ACTIVE ∧
      t = { s with regs := t.regs, cls := t.cls } ∧ regsBut s t (· == R.CLS_RULESWAP))) ∧
  (∀ s : State, s.works 0x71 (islPP 0) = true →
    let a := s.gf F.CLS_RULESWAP_ACTIVE
    (s.cls.swapping = true → (∀ (p : Fin 4) w, (s.pipe p).pass = some w → w.pkt.bank = 1 - a) → completes .clsSwapDone s fun t =>
      t.gf F.CLS_RULESWAP_ACTIVE = 1 - a ∧ t.cls.swapping = false ∧ t.gf F.CLS_RULESWAP_SWAPCOUNT = (s.gf F.CLS_RULESWAP_SWAPCOUNT + 1) % 2 ^ 16 ∧
      t.rd64 R.CLS_SWAPSTAMP = s.counter (islPP 0) / 256 % 2 ^ 64 ∧ t.gf F.CLS_SWAPINFO_BOUND = s.islandBound (islPP 0) % 256 ∧
      t.rdN R.CLS_SWAPSEQ = s.seqOf 0x7100 % 2 ^ 32 ∧ t.seqOf 0x7100 = (s.seqOf 0x7100 + 1) % 2 ^ 32 ∧ t.cls.rules = s.cls.rules ∧ t.cls.alists = s.cls.alists) ∧
    (s.cls.swapping = false → exec .clsSwapDone s = .next s) ∧
    (s.gb F.CLS_RULESWAP_BUSY = true → s.cls.swapping = false →
      (s.gf (inflight (1 - a)) = 0 → s.gf (heldFld (1 - a)) = 0 → completes .swapDrainDone s fun t => t.gb F.CLS_RULESWAP_BUSY = false ∧
        t.gf F.CLS_RULESWAP_ACTIVE = a ∧ t = { s with regs := t.regs } ∧ regsBut s t (· == R.CLS_RULESWAP)) ∧
      (s.gf (inflight (1 - a)) ≠ 0 ∨ s.gf (heldFld (1 - a)) ≠ 0 → exec .swapDrainDone s = .next s) ∧
      (s.cls.revokeAt ≤ s.now → completes .epochHoldRevoke s fun t => t.gf (heldFld (1 - a)) = 0 ∧ t.gf (heldFld a) = s.gf (heldFld a) ∧
        t = { s with regs := t.regs, cls := t.cls } ∧ t.cls = { s.cls with punts := t.cls.punts })))

/-- The rule commands of R148: a bank that is active, draining or being copied is not written, and the attempt is logged; a rule is stored with its HITS at 0; a reserved bit is refused; a bank is copied whole, rules, lists, key
templates and group defaults, when the copy is done; clearing a bank clears VALID in every rule. -/
def Obligations.RuleCommandsReadAndWriteBanks : Prop :=
  (∀ (s : State) (m : Master) (b : Fin 2) (i : BitVec 17), s.accepts m R.CLS_RCMD = true →
    let all : List Instr := [.writeRule m b i, .readRule m b i, .writeAlist m b i, .readAlist m b i, .copyBank m b i, .clearBank m b i]
    (s.gb F.CLS_RCMD_BUSY = true → ∀ c ∈ all, exec c s = .next s) ∧
    (s.gb F.CLS_RCMD_BUSY = false →
      let busy : Prop := s.gf F.CLS_RULESWAP_ACTIVE = b ∨ s.gb F.CLS_RULESWAP_BUSY = true ∨ s.gb F.CLS_RULESWAP_COPYBUSY = true
      let words := (List.range 18).map fun w => s.rdN (R.CLS_RDATA w)
      let acts := (List.range 8).map fun k => s.rdN (R.CLS_RDATA (2 * k)) + s.rdN (R.CLS_RDATA (2 * k + 1)) * 2 ^ 32
      let kept (t : State) : Prop := t.cls = s.cls ∧ regsBut s t (· == R.CLS_RCMD)
      (busy → ∀ c ∈ [Instr.writeRule m b i, .writeAlist m b i, .copyBank m b i, .clearBank m b i], completes c s fun t => t.gf F.CLS_RCMD_STATUS = 1 ∧ kept t ∧
        reported s t [⟨0x7101, 0, 0x7100, 0x7100, []⟩]) ∧
      (¬busy → (words.getD 16 0 &&& 0xF080 ≠ 0 ∨ 0x2000 ≤ words.getD 17 0) → completes (.writeRule m b i) s fun t => t.gf F.CLS_RCMD_STATUS = 3 ∧ kept t) ∧
      (¬busy → words.getD 16 0 &&& 0xF080 = 0 → words.getD 17 0 < 0x2000 → completes (.writeRule m b i) s fun t => t.gf F.CLS_RCMD_STATUS = 0 ∧
        t.rule b i.toNat = words ++ [0, 0] ∧ (∀ c j, ruleKey c j ≠ ruleKey b i.toNat → t.rule c j = s.rule c j) ∧ t.cls = { s.cls with rules := t.cls.rules } ∧
        regsBut s t (· == R.CLS_RCMD)) ∧
      (completes (.readRule m b i) s fun t => t.gf F.CLS_RCMD_STATUS = 0 ∧ t.cls = s.cls ∧ ∀ w : Fin 20, t.rdN (R.CLS_RDATA w) = (s.rule b i.toNat).getD w 0 % 2 ^ 32) ∧
      (¬busy → 8192 ≤ i.toNat → completes (.writeAlist m b i) s fun t => t.gf F.CLS_RCMD_STATUS = 2 ∧ kept t) ∧
      (8192 ≤ i.toNat → completes (.readAlist m b i) s fun t => t.gf F.CLS_RCMD_STATUS = 2 ∧ kept t) ∧
      (¬busy → i.toNat < 8192 → acts.any actBad = true → completes (.writeAlist m b i) s fun t => t.gf F.CLS_RCMD_STATUS = 3 ∧ kept t) ∧
      (¬busy → i.toNat < 8192 → acts.any actBad = false → completes (.writeAlist m b i) s fun t => t.gf F.CLS_RCMD_STATUS = 0 ∧ t.alist b i.toNat = acts ∧
        (∀ c j, listKey c j ≠ listKey b i.toNat → t.alist c j = s.alist c j) ∧ t.cls = { s.cls with alists := t.cls.alists } ∧ regsBut s t (· == R.CLS_RCMD)) ∧
      (i.toNat < 8192 → completes (.readAlist m b i) s fun t => t.gf F.CLS_RCMD_STATUS = 0 ∧ t.cls = s.cls ∧ ∀ k : Fin 8,
        t.rdN (R.CLS_RDATA (2 * k)) = (s.alist b i.toNat).getD k 0 % 2 ^ 32 ∧ t.rdN (R.CLS_RDATA (2 * k + 1)) = (s.alist b i.toNat).getD k 0 / 2 ^ 32 % 2 ^ 32) ∧
      (¬busy → completes (.copyBank m b i) s fun t => t.gb F.CLS_RCMD_BUSY = true ∧ t.gb F.CLS_RULESWAP_COPYBUSY = true ∧ t.cls = { s.cls with copy := some (b.val, s.now) }) ∧
      (¬busy → completes (.clearBank m b i) s fun t => t.gf F.CLS_RCMD_STATUS = 0 ∧ (∀ j, j < 131072 → bitAt ((t.rule b j).getD 16 0) 0 = false) ∧
        (∀ j, j < 131072 → t.rule (1 - b) j = s.rule (1 - b) j) ∧ t.cls.alists = s.cls.alists))) ∧
  (∀ (s : State) (b : Fin 2) at_, s.works 0x71 (islPP 0) = true → s.cls.copy = some (b.val, at_) → completes .copyBankDone s fun t =>
    t.cls.copy = none ∧ t.gb F.CLS_RCMD_BUSY = false ∧ t.gb F.CLS_RULESWAP_COPYBUSY = false ∧ t.gf F.CLS_RCMD_STATUS = 0 ∧
    (∀ i, i < 131072 → t.rule b i = s.rule (1 - b.val) i ∧ t.rule (1 - b.val) i = s.rule (1 - b.val) i) ∧
    (∀ i, i < 8192 → t.alist b i = s.alist (1 - b.val) i) ∧
    (∀ (j : Fin 64) (k : Fin 16), t.rd (R.CLS_KEYTPL b j k) = s.rd (R.CLS_KEYTPL (1 - b.val) j k)) ∧ ∀ j : Fin 64, t.rd (R.CLS_GRPDEF b j) = s.rd (R.CLS_GRPDEF (1 - b.val) j))

/-- Packets in the pipelines (R111, R129, R136, R138, R143 to R145, R170): a pipeline at a packet boundary takes the one packet offered, and nothing while it holds one or the data path is stopped; the rule that wins is the matching one of
largest PRIO, then of lowest index; a lookup is answered by its table, or after 615 ns counts as a miss, which is counted and logged. -/
def Obligations.PacketsPassThePipelines : Prop :=
  (∀ (s : State) (p : Fin 4), s.works 0x71 (islPP p) = true →
    (s.devFatal = true ∨ (s.pipe p).pass ≠ none → exec (.pipelinePass p) s = .next s) ∧
    (s.devFatal = false → (s.pipe p).pass = none → (∀ n : Fin 16, s.macOffers p n = false) →
      let x := s.pipe p
      (x.sendIn = [] → x.recirc = [] → x.ret = [] → x.xptIn = [] → exec (.pipelinePass p) s = .next s) ∧
      (∀ k rest, x.sendIn = k :: rest → x.recirc = [] → x.ret = [] → x.xptIn = [] → ∃ u : State, (u.pipe p).sendIn = rest ∧ (u.pipe p).pass = none ∧
        u = { s with pipes := u.pipes } ∧ exec (.pipelinePass p) s = .next (u.enter p k)) ∧
      (∀ k rest, x.sendIn = [] → x.recirc = k :: rest → x.ret = [] → x.xptIn = [] → ∃ u : State, (u.pipe p).recirc = rest ∧ (u.pipe p).pass = none ∧
        u = { s with pipes := u.pipes } ∧ exec (.pipelinePass p) s = .next (u.enter p k)))) ∧
  (∀ (s : State) (p : Fin 4) (k : Pkt), k.pass = 0 → (s.firstParse p k).1.bank = s.newBank ∧
    (s.firstParse p k).1.pbank = (if s.gb F.PRS_COMMIT_PENDING = true ∧ (s.pipe p).switched = true then 1 - s.cls.cur else s.cls.cur)) ∧
  (∀ (s : State) (b p n key : Nat), tabWf (fun _ => []) s.cls.rules = true → b < 2 →
    let hit (i : Nat) : Prop := i < 131072 ∧ ruleMatches (s.rule b i) p n key = true
    let prio (i : Nat) : Nat := bitsOf ((s.rule b i).getD 16 0) 16 16
    (∀ i, s.ruleWin b p n key = some i → hit i ∧ ∀ j, hit j → prio j < prio i ∨ (prio j = prio i ∧ i ≤ j)) ∧
    (s.ruleWin b p n key = none → ∀ i, ¬hit i)) ∧
  (∀ (s : State) (p : Fin 4) (w : PassSt) (l : LookupSt), s.works 0x71 (islPP p) = true → (s.pipe p).pass = some w → w.lookups = [l] → l.answer = none →
    (l.remote = none → s.now < l.at_ + 615 → exec (.lookupAnswer p) s =
      .next ((s.tblSearch p l.table l.key l.kdef).2.runPass { w with lookups := [{ l with answer := some ((s.tblSearch p l.table l.key l.kdef).1.map (·.1)) }] })) ∧
    (s.now < l.at_ + 615 → exec (.clsLookupTmo p) s = .next s) ∧
    (l.at_ + 615 ≤ s.now → ∃ u : State, u.rd64 (R.CLS_CNT p 15) = (s.rd64 (R.CLS_CNT p 15) + 1) % 2 ^ 48 ∧ u = { s with regs := u.regs, flt := u.flt } ∧
      reported s u (⟨0x7105, 2, 0x7100, 0x8000, []⟩ :: if l.remote.isSome then [⟨0x8006, 2, 0x8000, 0xF000, []⟩] else []) ∧
      (l.remote.isSome = true → u.rd64 (R.TBL_CNT 9) = (s.rd64 (R.TBL_CNT 9) + 1) % 2 ^ 48) ∧
      exec (.clsLookupTmo p) s = .next (u.runPass { w with lookups := [{ l with answer := some none }] })))

/-! ## Tables -/

/-- Hedgerow's commands (R151 to R160, R171 to R173): an insert stores the entry with its CHECK in a free slot of its buckets, where a lookup finds it, stamped and located in the port's registers; it is refused for a reserved bit, a wrong
key definition, a key that is there, or an owner at its limit; update, delete and read act on the entry found, and answer NOT_FOUND without one; a flush removes every entry of the owner. -/
def Obligations.HedgerowCommandsKeepItsEntries : Prop :=
  (∀ (s : State) (m : Master) (c : Fin 4), s.accepts m (R.TBL_CMD c) = true → tabWf (fun _ => []) s.tbl.hedge = true →
    let w (k : Nat) : Nat := s.rdN (R.TBL_CDATA c k)
    let status (i : Instr) (v : Nat) : Prop := completes i s fun t => t.gf (F.TBL_CMD_STATUS c) = v ∧ t.tbl = s.tbl
    let e : List Nat := ((List.range 14).map w).set 8 (w 8 ||| 1) ++ [0]
    let d := bitsOf (w 8) 2 6
    let o := bitsOf (w 8) 16 11
    let key := ofMs ((List.range 8).map w)
    let stamped (t : State) : Prop := t.seqOf 0x8000 = (s.seqOf 0x8000 + 1) % 2 ^ 32 ∧ t.rd64 (R.TBL_CSTAMP c) = s.counter islSHD / 256 % 2 ^ 64 ∧
      t.rdN (R.TBL_CSEQ c) = s.seqOf 0x8000 % 2 ^ 32
    let found (op : Nat) : Option Nat × State := (s.sf (F.TBL_CMD_OP c) op).hFind key d
    (((∃ k, k < 6 ∧ w (8 + k) ||| hedgeMask (8 + k) ≠ hedgeMask (8 + k)) ∨ (0x400 ≤ o ∧ o ≠ 0x7FF)) → status (.tblInsert m c) 5) ∧
    ((∀ k, k < 6 → w (8 + k) ||| hedgeMask (8 + k) = hedgeMask (8 + k)) → (o < 0x400 ∨ o = 0x7FF) →
      (s.kdefTable d ≠ 0 → status (.tblInsert m c) 5) ∧
      (s.kdefTable d = 0 → s.kdefRemote d = true → status (.tblInsert m c) 7) ∧
      (s.kdefTable d = 0 → s.kdefRemote d = false →
        (∀ l, (found 1).1 = some l → completes (.tblInsert m c) s fun t => t.gf (F.TBL_CMD_STATUS c) = 2 ∧ t.tbl = (found 1).2.tbl) ∧
        ((found 1).1 = none → o ≠ 0x7FF → (found 1).2.gf (F.TBL_OWNER_LIMIT o) ≤ (found 1).2.gf (F.TBL_OWNER_COUNT o) → completes (.tblInsert m c) s fun t =>
          t.gf (F.TBL_CMD_STATUS c) = 4 ∧ t.tbl = (found 1).2.tbl) ∧
        ((found 1).1 = none → (o = 0x7FF ∨ (found 1).2.gf (F.TBL_OWNER_COUNT o) < (found 1).2.gf (F.TBL_OWNER_LIMIT o)) → ∀ l,
          (found 1).2.hFree (slotsOf (s.hPlaces key d).1 ++ slotsOf (s.hPlaces key d).2.1) = some l → completes (.tblInsert m c) s fun t =>
            t.gf (F.TBL_CMD_STATUS c) = 0 ∧ t.hEnt l = hSeal e ∧ (∀ j, j ≠ l → t.hEnt j = (found 1).2.hEnt j) ∧ t.rdN (R.TBL_CDATA c 16) = locWord l ∧ stamped t ∧
            (t.hFind key d).1.isSome = true))) ∧
    (s.kdefTable d = 0 → s.kdefRemote d = false →
      (∀ l, (found 2).1 = some l → (∀ k, k < 5 → w (9 + k) ||| hedgeMask (9 + k) = hedgeMask (9 + k)) → completes (.tblUpdate m c) s fun t =>
        let old := (found 2).2.hEnt l
        t.gf (F.TBL_CMD_STATUS c) = 0 ∧ hKey (t.hEnt l) = hKey old ∧ (∀ k, k < 5 → (t.hEnt l).getD (9 + k) 0 = w (9 + k)) ∧ hStatic (t.hEnt l) = bitAt (w 8) 1 ∧
        bitsOf ((t.hEnt l).getD 14 0) 0 16 = (bitsOf (old.getD 14 0) 0 16 + 1) % 2 ^ 16 ∧ hSeal (t.hEnt l) = t.hEnt l ∧
        (∀ j, j ≠ l → t.hEnt j = (found 2).2.hEnt j) ∧ t.rdN (R.TBL_CDATA c 16) = locWord l ∧ stamped t) ∧
      ((found 2).1 = none → (∀ k, k < 5 → w (9 + k) ||| hedgeMask (9 + k) = hedgeMask (9 + k)) → completes (.tblUpdate m c) s fun t => t.gf (F.TBL_CMD_STATUS c) = 1) ∧
      (∀ l, (found 3).1 = some l → completes (.tblDelete m c) s fun t => t.gf (F.TBL_CMD_STATUS c) = 0 ∧ t.hEnt l = [] ∧ (∀ j, j ≠ l → t.hEnt j = (found 3).2.hEnt j) ∧
        t.rdN (R.TBL_CDATA c 16) = locWord l ∧ stamped t) ∧
      ((found 3).1 = none → completes (.tblDelete m c) s fun t => t.gf (F.TBL_CMD_STATUS c) = 1 ∧ t.tbl = (found 3).2.tbl) ∧
      (∀ l, (found 4).1 = some l → ((found 4).2.hEnt l).length = 16 → completes (.tblRead m c) s fun t => t.gf (F.TBL_CMD_STATUS c) = 0 ∧ t.tbl = (found 4).2.tbl ∧
        (∀ k : Fin 16, t.rdN (R.TBL_CDATA c k) = ((found 4).2.hEnt l).getD k 0 % 2 ^ 32) ∧ t.rdN (R.TBL_CDATA c 16) = locWord l) ∧
      ((found 4).1 = none → completes (.tblRead m c) s fun t => t.gf (F.TBL_CMD_STATUS c) = 1 ∧ t.tbl = (found 4).2.tbl)) ∧
    (∀ l, ofLocWord (w 16) = some l → completes (.readLoc m c) s fun t => t.gf (F.TBL_CMD_STATUS c) = 0 ∧ t.tbl = s.tbl ∧
      ∀ k : Fin 16, t.rdN (R.TBL_CDATA c k) = (s.hEnt l).getD k 0 % 2 ^ 32) ∧
    (ofLocWord (w 16) = none → status (.readLoc m c) 5) ∧
    (0x400 ≤ o → o ≠ 0x7FF → status (.flushOwner m c) 5) ∧
    (o < 0x400 ∨ o = 0x7FF → completes (.flushOwner m c) s fun t => t.gf (F.TBL_CMD_STATUS c) = 0 ∧
      (∀ l, t.hEnt l = if hValid (s.hEnt l) && hOwner (s.hEnt l) == o then [] else s.hEnt l) ∧
      t.rdN (R.TBL_CDATA c 17) = (s.tbl.hedge.filter fun x => hValid x.2 && hOwner x.2 == o).length % 2 ^ 32) ∧
    ((∀ x ∈ s.tbl.hedge, x.1 < 2 ^ 24) → completes (.compact m c) s fun t => t.gf (F.TBL_CMD_STATUS c) = 0 ∧ t.tbl.hedge = s.tbl.hedge ∧ t.rdN (R.TBL_CDATA c 17) = 0) ∧
    (∀ l x, s.tbl.hedge.filter (fun y => 2 ^ 24 ≤ y.1) = [(l, x)] → ∀ j,
      s.hFree (slotsOf (s.hPlaces (hKey x) (hKdef x)).1 ++ slotsOf (s.hPlaces (hKey x) (hKdef x)).2.1) = some j → completes (.compact m c) s fun t =>
        t.gf (F.TBL_CMD_STATUS c) = 0 ∧ t.hEnt j = x ∧ t.hEnt l = [] ∧ t.rdN (R.TBL_CDATA c 17) = 1)) ∧
  (∀ (s : State) (m : Master), s.accepts m R.TBL_COMMIT = true →
    (s.gb F.TBL_COMMIT_PENDING = true → exec (.tblCommit m) s = .next s) ∧
    (s.gb F.TBL_COMMIT_PENDING = false → (∀ d : Fin 64, s.kdefBad d = false) →
      ((∀ p : Fin 4, (s.pipe p).pass = none) → completes (.tblCommit m) s fun t => t.gb F.TBL_COMMIT_PENDING = false ∧
        (∀ (d : Fin 64) (k : Fin 17), t.lrd (R.TBL_KDEF d + 4 * k) = s.rdN (R.TBL_KDEF d + 4 * k)) ∧ regsBut s t (· == R.TBL_COMMIT)) ∧
      ((∃ p : Fin 4, (s.pipe p).pass ≠ none) → completes (.tblCommit m) s fun t => t.gb F.TBL_COMMIT_PENDING = true ∧ t.live = s.live ∧ regsBut s t (· == R.TBL_COMMIT))) ∧
    (s.gb F.TBL_COMMIT_PENDING = false → ∀ d : Fin 64, s.kdefBad d = true → (∀ k, k < d → s.kdefBad k.val = false) → completes (.tblCommit m) s fun t =>
      t.gb F.TBL_COMMIT_PENDING = false ∧ t.gb F.TBL_COMMIT_ERR = true ∧ t.gf F.TBL_COMMIT_ERRINDEX = d ∧ t.live = s.live ∧ reported s t [⟨0x8009, 0, 0x8000, 0x8000, []⟩]))

/-- Prefix rows (R162 to R164, R171): the rows stay in order of falling length through every insert and delete, which add or take exactly the row named; the first row that matches is then the longest; an insert of a row that is there,
or into a full table, and an update, delete or read of none, are refused. -/
def Obligations.PrefixRowsStayInOrder : Prop :=
  ∀ (s : State) (m : Master) (c : Fin 4), s.accepts m (R.TBL_CMD c) = true →
    let rows := s.tbl.lpm
    let w (k : Nat) : Nat := s.rdN (R.TBL_CDATA c k)
    let n := bitsOf (w 5) 0 8
    let v := ofMs ((List.range 5).map w) / 2 ^ (160 - n) * 2 ^ (160 - n)
    let res := w 6 + w 7 * 2 ^ 32
    let at_ := rows.findIdx? fun r => r.1 == v && r.2.1 == n
    let status (i : Instr) (k : Nat) : Prop := completes i s fun t => t.gf (F.TBL_CMD_STATUS c) = k ∧ t.tbl = s.tbl
    let stamped (t : State) : Prop := t.seqOf 0x8001 = (s.seqOf 0x8001 + 1) % 2 ^ 32 ∧ t.rd64 (R.TBL_CSTAMP c) = s.counter islSHD / 256 % 2 ^ 64
    let falling (l : List (Nat × Nat × Nat)) : Prop := l.Pairwise fun a b => b.2.1 ≤ a.2.1
    (160 < n → status (.lpmInsert m c) 5 ∧ status (.lpmUpdate m c) 5 ∧ status (.lpmDelete m c) 5) ∧
    (n ≤ 160 →
      (2 ^ 56 ≤ res → status (.lpmInsert m c) 5 ∧ status (.lpmUpdate m c) 5) ∧
      (at_ = none → (res < 2 ^ 56 → status (.lpmUpdate m c) 1) ∧ status (.lpmDelete m c) 1) ∧
      (∀ i, at_ = some i →
        (res < 2 ^ 56 → status (.lpmInsert m c) 2) ∧
        (res < 2 ^ 56 → completes (.lpmUpdate m c) s fun t => t.gf (F.TBL_CMD_STATUS c) = 0 ∧ t.tbl.lpm = rows.set i (v, n, res) ∧ t.rdN (R.TBL_CDATA c 16) = i % 2 ^ 32 ∧ stamped t) ∧
        (falling rows → completes (.lpmDelete m c) s fun t => t.gf (F.TBL_CMD_STATUS c) = 0 ∧ falling t.tbl.lpm ∧ rows.Perm (rows.getD i (0, 0, 0) :: t.tbl.lpm) ∧
          t.rdN (R.TBL_CDATA c 16) = i % 2 ^ 32 ∧ stamped t)) ∧
      (at_ = none → res < 2 ^ 56 →
        (262144 ≤ rows.length → status (.lpmInsert m c) 3) ∧
        (rows.length < 262144 → falling rows → completes (.lpmInsert m c) s fun t => t.gf (F.TBL_CMD_STATUS c) = 0 ∧ falling t.tbl.lpm ∧ t.tbl.lpm.Perm ((v, n, res) :: rows) ∧
          (∃ i, t.tbl.lpm[i]? = some (v, n, res) ∧ t.rdN (R.TBL_CDATA c 16) = i) ∧ t.gf F.TBL_LPMSTAT_COUNT = rows.length + 1 ∧ stamped t))) ∧
    (262144 ≤ w 16 → status (.lpmRead m c) 5) ∧
    (∀ r, w 16 < 262144 → rows[w 16]? = some r → r.2.1 ≤ 160 → completes (.lpmRead m c) s fun t => t.gf (F.TBL_CMD_STATUS c) = 0 ∧ t.tbl = s.tbl ∧
      t.rdN (R.TBL_CDATA c 5) = r.2.1 + 256 ∧ t.rdN (R.TBL_CDATA c 6) = r.2.2 % 2 ^ 32 ∧ t.rdN (R.TBL_CDATA c 7) = r.2.2 / 2 ^ 32 % 2 ^ 32) ∧
    (w 16 < 262144 → rows.length ≤ w 16 → completes (.lpmRead m c) s fun t => t.gf (F.TBL_CMD_STATUS c) = 0 ∧ t.tbl = s.tbl ∧ t.rdN (R.TBL_CDATA c 5) = 0) ∧
    (falling rows → ∀ key i, (s.lpmLookup key).1 = some i → rowMatches (rows.getD i (0, 0, 0)) key = true ∧
      ∀ r ∈ rows, rowMatches r key = true → r.2.1 ≤ (rows.getD i (0, 0, 0)).2.1)

/-- Learned MAC addresses (R165 to R169, R171): MAC_WRITE stores an entry with its CHECK where a lookup finds it, or answers FULL; a learn keeps, moves or adds its address within RATE; delete, read and flush act on what is there; a
sweep ages what was not hit, removes what has been idle too long, and leaves static entries alone. -/
def Obligations.MacAddressesAreLearnedAndAged : Prop :=
  (∀ (s : State) (m : Master) (c : Fin 4), s.accepts m (R.TBL_CMD c) = true → tabWf (fun _ => []) s.tbl.macs = true →
    let w (k : Nat) : Nat := s.rdN (R.TBL_CDATA c k)
    let p := bitsOf (w 4) 0 2
    let mac := w 0 + bitsOf (w 1) 0 16 * 2 ^ 32
    let fid := bitsOf (w 1) 16 16
    let found (op : Nat) : Option Nat × State := (s.sf (F.TBL_CMD_OP c) op).macFind p fid mac
    let stored (k : Nat) : Prop := completes (.macWrite m c) s fun t => t.gf (F.TBL_CMD_STATUS c) = 0 ∧
      t.macEnt k = macWords fid mac (bitsOf (w 2) 0 11) (bitAt (w 2) 11) 0 ∧ (∀ j, j ≠ k → t.macEnt j = (found 12).2.macEnt j) ∧
      t.seqOf (0x8010 + p) = (s.seqOf (0x8010 + p) + 1) % 2 ^ 32 ∧ (t.macFind p fid mac).1.isSome = true
    (bitsOf (w 2) 13 3 ≠ 0 ∨ bitsOf (w 2) 24 8 ≠ 0 → completes (.macWrite m c) s fun t => t.gf (F.TBL_CMD_STATUS c) = 5 ∧ t.tbl = s.tbl) ∧
    (bitsOf (w 2) 13 3 = 0 → bitsOf (w 2) 24 8 = 0 →
      (∀ k, (found 12).1 = some k → stored k) ∧
      ((found 12).1 = none → ∀ i : Fin 4, mValid ((found 12).2.macEnt (s.macBucket p fid mac + i)) = false →
        (∀ j, j < i → mValid ((found 12).2.macEnt (s.macBucket p fid mac + j.val)) = true) → stored (s.macBucket p fid mac + i)) ∧
      ((found 12).1 = none → (∀ i : Fin 4, mValid ((found 12).2.macEnt (s.macBucket p fid mac + i)) = true) → completes (.macWrite m c) s fun t =>
        t.gf (F.TBL_CMD_STATUS c) = 3 ∧ t.tbl = (found 12).2.tbl)) ∧
    (∀ k, (found 13).1 = some k → completes (.macDelete m c) s fun t => t.gf (F.TBL_CMD_STATUS c) = 0 ∧ t.macEnt k = [] ∧ ∀ j, j ≠ k → t.macEnt j = (found 13).2.macEnt j) ∧
    ((found 13).1 = none → completes (.macDelete m c) s fun t => t.gf (F.TBL_CMD_STATUS c) = 1 ∧ t.tbl = (found 13).2.tbl) ∧
    (∀ k, (found 14).1 = some k → completes (.macRead m c) s fun t => t.gf (F.TBL_CMD_STATUS c) = 0 ∧ t.tbl = (found 14).2.tbl ∧
      ∀ i, i < ((found 14).2.macEnt k).length → i < 4 → t.rdN (R.TBL_CDATA c i) = ((found 14).2.macEnt k).getD i 0 % 2 ^ 32) ∧
    ((found 14).1 = none → completes (.macRead m c) s fun t => t.gf (F.TBL_CMD_STATUS c) = 1 ∧ t.tbl = (found 14).2.tbl) ∧
    (completes (.macFlush m c) s fun t => t.gf (F.TBL_CMD_STATUS c) = 0 ∧ ∀ k, t.macEnt k =
      if bitAt (bitsOf (w 4) 16 4) (k / 2 ^ 18) && (!bitAt (w 4) 20 || mTag (s.macEnt k) == bitsOf (w 2) 0 11) && (!bitAt (w 4) 21 || mFid (s.macEnt k) == fid) &&
        (bitAt (w 4) 22 || !mStatic (s.macEnt k)) then [] else s.macEnt k)) ∧
  (∀ (s : State) (p : Fin 4) (key tag : Nat) (rest : List (Nat × Nat)), s.works 0x80 islSHD = true → s.learnsOf p = (key, tag) :: rest →
    let mac := key % 2 ^ 48
    let fid := key / 2 ^ 48 % 65536
    let u : State := s.modTbl fun t => { t with learns := tabSet (fun _ => []) t.learns p rest }
    let r := u.macFind p fid mac
    let counted (t : State) (k : Nat) : Prop := t.rd64 (R.TBL_MCNT p k) = (r.2.rd64 (R.TBL_MCNT p k) + 1) % 2 ^ 48
    (∀ k, r.1 = some k → mTag (r.2.macEnt k) = tag → completes (.learnProcess p) s fun t => t.learnsOf p = rest ∧ tabGet (fun _ => false) t.tbl.mhit k = true ∧
      t.tbl.macs = r.2.tbl.macs) ∧
    (∀ k, r.1 = some k → mTag (r.2.macEnt k) ≠ tag → mStatic (r.2.macEnt k) = true → completes (.learnProcess p) s fun t => t.learnsOf p = rest ∧ t.tbl.macs = r.2.tbl.macs) ∧
    (∀ k, r.1 = some k → mTag (r.2.macEnt k) ≠ tag → mStatic (r.2.macEnt k) = false → s.gf (F.TBL_MLCFG_RATE p) = 0 → completes (.learnProcess p) s fun t =>
      t.learnsOf p = rest ∧ t.macEnt k = macWords fid mac tag false 0 ∧ counted t 3) ∧
    (∀ i : Fin 4, r.1 = none → mValid (r.2.macEnt (s.macBucket p fid mac + i)) = false → (∀ j, j < i → mValid (r.2.macEnt (s.macBucket p fid mac + j.val)) = true) →
      s.gf (F.TBL_MLCFG_RATE p) = 0 → completes (.learnProcess p) s fun t => t.learnsOf p = rest ∧ t.macEnt (s.macBucket p fid mac + i) = macWords fid mac tag false 0 ∧ counted t 2) ∧
    (r.1 = none → (∀ i : Fin 4, mValid (r.2.macEnt (s.macBucket p fid mac + i)) = true) → completes (.learnProcess p) s fun t =>
      t.learnsOf p = rest ∧ t.tbl.macs = r.2.tbl.macs ∧ counted t 5)) ∧
  (∀ (s : State), s.works 0x80 islSHD = true →
    let tick := s.gf F.TBL_AGECFG_TICK
    (∀ b, tick = 0 ∨ s.now < s.tbl.lastAge + 1000000 * tick → exec (.ageSweep b) s = .next s) ∧
    (tick ≠ 0 → s.tbl.lastAge + 1000000 * tick ≤ s.now →
      (completes (.ageSweep true) s fun t => t.rd64 (R.TBL_CNT 11) = (s.rd64 (R.TBL_CNT 11) + 1) % 2 ^ 48 ∧ t.tbl = { s.tbl with lastAge := s.now } ∧
        reported s t [⟨0x8007, 0, 0x8000, 0x8000, []⟩]) ∧
      (tabWf (fun _ => []) s.tbl.hedge = true → tabWf (fun _ => []) s.tbl.macs = true → completes (.ageSweep false) s fun t => t.tbl.lastAge = s.now ∧
        (∀ l, hValid (s.hEnt l) = false ∨ hStatic (s.hEnt l) = true → t.hEnt l = s.hEnt l) ∧
        (∀ l, hValid (s.hEnt l) = true → hStatic (s.hEnt l) = false → (s.hEnt l).length = 16 →
          let most := s.gf F.TBL_AGECFG_HMAXIDLE
          let idle := min 255 (hIdle (s.hEnt l) + 1)
          (tabGet (fun _ => false) s.tbl.hhit l = true → hIdle (t.hEnt l) = 0 ∧ hKey (t.hEnt l) = hKey (s.hEnt l) ∧ tabGet (fun _ => false) t.tbl.hhit l = false) ∧
          (tabGet (fun _ => false) s.tbl.hhit l = false → most ≠ 0 → most ≤ idle → t.hEnt l = []) ∧
          (tabGet (fun _ => false) s.tbl.hhit l = false → most = 0 ∨ idle < most → hIdle (t.hEnt l) = idle ∧ hKey (t.hEnt l) = hKey (s.hEnt l))) ∧
        ∀ k, mValid (s.macEnt k) = true → mStatic (s.macEnt k) = false → (s.macEnt k).length = 4 →
          let most := s.gf F.TBL_AGECFG_MMAXIDLE
          let idle := min 255 (mIdle (s.macEnt k) + 1)
          (tabGet (fun _ => false) s.tbl.mhit k = true → mIdle (t.macEnt k) = 0 ∧ mMac (t.macEnt k) = mMac (s.macEnt k)) ∧
          (tabGet (fun _ => false) s.tbl.mhit k = false → most ≠ 0 → most ≤ idle → t.macEnt k = []) ∧
          (tabGet (fun _ => false) s.tbl.mhit k = false → most = 0 ∨ idle < most → mIdle (t.macEnt k) = idle ∧ mMac (t.macEnt k) = mMac (s.macEnt k)))))

/-! ## Traffic manager -/

/-- Scheduling (R177, R183 to R198): a tick adds RATE to every shaper and meter up to its cap; a port that may start a frame sends the head of an eligible queue and charges its whole path, and the class chosen has the largest PRIO; a
launch frame waits for its place, leaves at its launch time or misses it; a new gate list is taken at a cycle start that R192 names; a sweep samples its queues and starts them afresh. -/
def Obligations.TrafficIsShapedAndSelected : Prop :=
  (∀ s : State, s.works 0x90 islSHD = true →
    (s.now < s.tmg.lastTick + 1000 → exec .shaperTick s = .next s) ∧
    (s.tmg.lastTick + 1000 ≤ s.now → tabWf nodeDefault s.tmg.nodes = true → tabWf (fun _ => {}) s.tmg.meters = true → completes .shaperTick s fun t =>
      t.tmg.lastTick = s.tmg.lastTick + 1000 ∧ t = { s with tmg := t.tmg } ∧ t.tmg.queues = s.tmg.queues ∧
      (∀ l i, l ≤ 4 → i < 2 ^ 20 → -(2 ^ 31) ≤ (s.node l i).credit →
        let v := s.node l i
        let r : Int := v.rate
        let credit : Int := if v.rate = 0 then 0 else if l = 0 then (if (s.tmq i).frames = [] then min (v.credit + r) 0 else min (v.credit + r) r)
          else min (v.credit + r) (8 * (bitsOf v.w2 0 24 : Nat))
        t.node l i = { v with credit }) ∧
      ∀ i, (t.meterOf i).tc = min ((s.meterOf i).tc + (s.meterOf i).word 0) (8 * (s.meterOf i).word 2) ∧
        (t.meterOf i).tp = min ((s.meterOf i).tp + (s.meterOf i).word 1) (8 * (s.meterOf i).word 3) ∧ (t.meterOf i).counts = (s.meterOf i).counts)) ∧
  (∀ (s : State) (n : Fin 16), s.works 0x90 islSHD = true →
    (s.portGo n = false ∨ s.now < s.busyTo n ∨ (s.mac n).txBuf ≠ [] → exec (.tmgSelect n) s = .next s) ∧
    (∀ (q : Nat) (k : Pkt) at_, s.portGo n = true → s.busyTo n ≤ s.now → (s.mac n).txBuf = [] → s.portQueues n = [q] → (s.tmq q).frames = [(k, at_)] → k.launch = none →
      (s.tmq q).inCal = false → s.oversize n (q % 8) k = false → s.eligible n q = true → (∀ e ∈ s.tmqPath q, (s.node e.1 e.2).ok = true) →
      (∀ e ∈ s.tmqPath q, 1 ≤ e.1 → e.1 ≤ 3 → (s.node e.1 e.2).cap = false) → (s.node 0 q).weight ≠ 0 → q < 131072 → completes (.tmgSelect n) s fun t =>
        (t.tmq q).frames = [] ∧ (t.mac n).txBuf = [k] ∧ t.busyTo n = s.now + s.txNs n (wireLen k) ∧ t.flt = s.flt ∧ t.out = s.out ∧
        ∀ e ∈ s.tmqPath q, (t.node e.1 e.2).credit = if (s.node e.1 e.2).rate = 0 then (s.node e.1 e.2).credit
          else clamp32 ((s.node e.1 e.2).credit - 8 * (wireLen k + s.gf (F.TMG_PORTCFG_OVH n) : Nat))) ∧
    (∀ q, (s.choose n).1 = some q → ∀ c, c < 8 → s.classAct ((s.portQueues n).filter fun q => s.eligible n q) n c ≠ 0 →
      (s.node 3 (8 * n + c)).prio ≤ (s.node 3 (8 * n + q % 8)).prio) ∧
    (∀ c pos : Nat, pos = s.gclPos n s.tku.dt → c < (s.gcl n).2.length →
      (((s.gcl n).2.take c).map (·.2)).sum ≤ pos → pos < (((s.gcl n).2.take (c + 1)).map (·.2)).sum → completes (.gateEntryChange n) s fun t =>
        t.gf (F.TMG_GCLCTL_CURENTRY n) = c % 2 ^ 10 ∧ t = { s with regs := t.regs } ∧ regsBut s t (· == R.TMG_GCLCTL n)) ∧
    (s.gb (F.TMG_GCLCTL_PENDING n) = true → tabGet (fun _ => 0) s.tmg.gclFrom n ≤ s.tku.dt → completes (.gclTakeEffect n) s fun t =>
      t.gb (F.TMG_GCLCTL_PENDING n) = false ∧ t.lrd (R.TMG_GCLCYCLE n) = s.rdN (R.TMG_GCLCYCLE n) ∧ t.lrd (R.TMG_GCLCOUNT n) = s.rdN (R.TMG_GCLCOUNT n) ∧
      (∀ (e : Fin 1024), t.lrd (R.TMG_GCL n e) = s.rdN (R.TMG_GCL n e) ∧ t.lrd (R.TMG_GCL n e + 4) = s.rdN (R.TMG_GCL n e + 4)) ∧
      (∀ c : Fin 8, t.rdN (R.TMG_GCLOPEN n c) = maxOpen c (t.gcl n).2 % 2 ^ 32) ∧ t = { s with regs := t.regs, live := t.live }) ∧
    (s.gb (F.TMG_GCLCTL_PENDING n) = false ∨ s.tku.dt < tabGet (fun _ => 0) s.tmg.gclFrom n → exec (.gclTakeEffect n) s = .next s)) ∧
  (∀ (s : State) (m : Master) (n : Fin 16), s.accepts m (R.TMG_GCLCTL n) = true →
    let cyc := s.rdN (R.TMG_GCLCYCLE n)
    let bad : Prop := s.gf (F.TMG_GCLCOUNT_COUNT n) = 0 ∨ 1024 < s.gf (F.TMG_GCLCOUNT_COUNT n) ∨ cyc < 1000 ∨ 1000000000 < cyc ∨ 999999999 < fullNs (s.rdWide (R.TMG_GCLBASE n) 3) ∨
      999999999 < fullNs (s.rdWide (R.TMG_GCLCHG n) 3) ∨ ∃ e, e < s.gf (F.TMG_GCLCOUNT_COUNT n) ∧ s.gf (F.TMG_GCL_INTERVAL n e) < 32
    let base := timeOfFull (s.rdWide (R.TMG_GCLBASE n) 3)
    let from_ := max (timeOfFull (s.rdWide (R.TMG_GCLCHG n) 3)) (s.tku.dt + 65536000)
    (s.gb (F.TMG_GCLCTL_PENDING n) = true → exec (.gclCommit m n) s = .next s) ∧
    (s.gb (F.TMG_GCLCTL_PENDING n) = false → bad → completes (.gclCommit m n) s fun t => t.gb (F.TMG_GCLCTL_PENDING n) = false ∧ t.gb (F.TMG_GCLCTL_ERR n) = true ∧
      reported s t [⟨0x9004, 0, 0x9000, 0x9000, []⟩] ∧ t = { s with regs := t.regs, flt := t.flt }) ∧
    (s.gb (F.TMG_GCLCTL_PENDING n) = false → ¬bad → completes (.gclCommit m n) s fun t => t.gb (F.TMG_GCLCTL_PENDING n) = true ∧ t = { s with regs := t.regs, tmg := t.tmg } ∧
      let at_ := tabGet (fun _ => 0) t.tmg.gclFrom n
      from_ ≤ at_ ∧ at_ < from_ + cyc * 65536 ∧ ((at_ : Int) - (base : Int)) % ((cyc * 65536 : Nat) : Int) = 0)) ∧
  (∀ (s : State) (q : Fin 131072), s.works 0x90 islSHD = true →
    ((s.tmq q).calWait = true → (s.calOf (s.tmqPort q)).length < 256 → completes (.launchCalendarEnter q) s fun t =>
      t.tmq q = { s.tmq q with calWait := false, inCal := true } ∧ t.calOf (s.tmqPort q) = s.calOf (s.tmqPort q) ++ [q.val] ∧ t = { s with tmg := t.tmg }) ∧
    ((s.tmq q).calWait = false ∨ 256 ≤ (s.calOf (s.tmqPort q)).length → exec (.launchCalendarEnter q) s = .next s)) ∧
  (∀ (s : State) (n : Fin 16), s.works 0x60 (islNQ (n / 4)) = true →
    (s.earliest n = none → exec (.launchInstant n) s = .next s) ∧
    (∀ e q k at_, s.earliest n = some (e, q) → (s.tmq q).frames = [(k, at_)] →
      (0 < s.launchGap n (k.launch.getD 0) → exec (.launchInstant n) s = .next s) ∧
      (s.launchGap n (k.launch.getD 0) ≤ 0 → s.launchStopped n q (s.txNs n (wireLen k)) k = true → completes (.launchInstant n) s fun t =>
        (t.tmq q).frames = [] ∧ t.rd64 (R.TMG_CNT n 7) = (s.rd64 (R.TMG_CNT n 7) + 1) % 2 ^ 48 ∧ t.macs = s.macs) ∧
      (s.launchGap n (k.launch.getD 0) ≤ 0 → s.launchStopped n q (s.txNs n (wireLen k)) k = false → completes (.launchInstant n) s fun t =>
        (t.tmq q).frames = [] ∧ t.rd64 (R.TMG_CNT n 6) = (s.rd64 (R.TMG_CNT n 6) + 1) % 2 ^ 48 ∧ (s.canSend n = false → (t.mac n).txBuf = k :: (s.mac n).txBuf)))) ∧
  (∀ s : State, s.works 0x90 islSHD = true →
    let p := s.gf F.TMG_SAMPPER_PERIOD
    let us := s.tku.dt / 65536000 / p * p
    (s.gb F.TMG_SAMPCFG_EN = false ∨ p = 0 ∨ us ≤ s.tmg.lastSweep → exec .sampleSweep s = .next s) ∧
    (s.gb F.TMG_SAMPCFG_EN = true → p ≠ 0 → s.tmg.lastSweep < us → completes .sampleSweep s fun t => t.tmg.lastSweep = us ∧ t.tmg.sweeps = (s.tmg.sweeps + 1) % 2 ^ 32 ∧
      ∀ i, i < s.gf F.TMG_SAMPCNT_COUNT → let q := s.gf (F.TMG_SAMPQ_QUEUE i); t.tmq q = { s.tmq q with drops := 0, maxWait := 0 }))

/-- The node and meter commands (R200, R201): a node is written with its values held to their limits and its credit kept, unless its index or kind is out of range or its PARENT would change while frames stand below it; a meter starts
with full buckets and counts 0; what is read is what is there; FLUSH_QUEUE empties an L0 queue; a command that is refused changes nothing but its STATUS. -/
def Obligations.NodeAndMeterCommandsKeepLimits : Prop :=
  ∀ (s : State) (m : Master) (kind : BitVec 3) (i : BitVec 18), s.accepts m R.TMG_NCMD = true →
    let l := kind.toNat
    let x := i.toNat
    let d (k : Nat) : Nat := s.rdN (R.TMG_NDATA k)
    let status (c : Instr) (v : Nat) : Prop := completes c s fun t => t.gf F.TMG_NCMD_STATUS = v ∧ t = { s with regs := t.regs } ∧ regsBut s t (· == R.TMG_NCMD)
    let ok (t : State) : Prop := t.gf F.TMG_NCMD_STATUS = 0
    (5 ≤ l → status (.writeNode m kind i) 3 ∧ status (.readNode m kind i) 3) ∧
    (l < 5 → levelSize l ≤ x → status (.writeNode m kind i) 1 ∧ status (.readNode m kind i) 1) ∧
    (l < 5 → x < levelSize l →
      let old := s.node l x
      let parent := bitsOf (d 0) 16 11
      (l = 2 → 16 ≤ parent → status (.writeNode m kind i) 3) ∧
      ((l = 1 ∨ (l = 2 ∧ parent < 16)) → parent ≠ old.parent → s.subtreeBusy l x = true → status (.writeNode m kind i) 2) ∧
      ((l = 0 ∨ l = 3 ∨ l = 4 ∨ ((l = 1 ∨ l = 2) ∧ (l = 2 → parent < 16) ∧ (parent = old.parent ∨ s.subtreeBusy l x = false))) → completes (.writeNode m kind i) s fun t => ok t ∧
        (t.node l x).credit = old.credit ∧ (t.node l x).rate = min 2000000 (bitsOf (d 1) 0 21) ∧ (t.node l x).en = bitAt (d 0) 0 ∧
        (l ≠ 4 → (t.node l x).weight = max 1 (bitsOf (d 0) 2 8)) ∧ (l = 1 ∨ l = 2 → (t.node l x).parent = parent) ∧ (l = 3 → (t.node l x).prio = bitsOf (d 0) 10 3) ∧
        (t.node l x).w2 = bitsOf (d 2) 0 24 ∧ (∀ j y, j * 2 ^ 20 + y ≠ l * 2 ^ 20 + x → t.node j y = s.node j y) ∧ t = { s with regs := t.regs, tmg := t.tmg }) ∧
      (completes (.readNode m kind i) s fun t => ok t ∧ t.tmg = s.tmg ∧ t.rdN (R.TMG_NDATA 0) = old.w0 % 2 ^ 32 ∧ t.rdN (R.TMG_NDATA 1) = old.w1 % 2 ^ 32 ∧
        t.rdN (R.TMG_NDATA 2) = old.w2 % 2 ^ 32 ∧ t.rdN (R.TMG_NDATA 3) = old.w3 % 2 ^ 32 ∧ t.rdN (R.TMG_NDATA 4) = ofSigned 32 old.credit % 2 ^ 32 ∧
        (l = 0 → t.rdN (R.TMG_NDATA 6) = (s.tmq x).frames.length % 2 ^ 32))) ∧
    (l ≠ 0 → status (.flushQueue m kind i) 3) ∧ (l = 0 → 131072 ≤ x → status (.flushQueue m kind i) 1) ∧
    (l = 0 → x < 131072 → completes (.flushQueue m kind i) s fun t => ok t ∧ (t.tmq x).frames = [] ∧ (t.tmq x).inCal = false ∧ x ∉ t.calOf (s.tmqPort x)) ∧
    (l ≠ 5 → status (.writeMeter m kind i) 3 ∧ status (.readMeter m kind i) 3) ∧
    (l = 5 →
      let bad : Prop := bitsOf (d 1) 0 21 < bitsOf (d 0) 0 21 ∨ bitsOf (d 2) 0 24 = 0 ∨ bitsOf (d 3) 0 24 = 0 ∨ bitsOf (d 4) 3 2 = 3 ∨ bitsOf (d 4) 5 2 = 3
      (bad → status (.writeMeter m kind i) 3) ∧
      (¬bad → completes (.writeMeter m kind i) s fun t => ok t ∧ (∀ j, j ≠ x → t.meterOf j = s.meterOf j) ∧ t.meterOf x =
        ⟨[bitsOf (d 0) 0 21, bitsOf (d 1) 0 21, bitsOf (d 2) 0 24, bitsOf (d 3) 0 24, bitsOf (d 4) 0 7], 8 * bitsOf (d 2) 0 24, 8 * bitsOf (d 3) 0 24, [0, 0, 0, 0]⟩) ∧
      (completes (.readMeter m kind i) s fun t => ok t ∧ t.tmg = s.tmg ∧ (∀ k : Fin 5, t.rdN (R.TMG_NDATA k) = (s.meterOf x).word k % 2 ^ 32) ∧
        ∀ k : Fin 4, t.rdN (R.TMG_NDATA (6 + 2 * k)) = (s.meterOf x).counts.getD k 0 % 2 ^ 32 ∧ t.rdN (R.TMG_NDATA (7 + 2 * k)) = (s.meterOf x).counts.getD k 0 / 2 ^ 32 % 2 ^ 32))

/-- The order restorer (R205, R207, R212, R213, R219 to R221): a context is opened with a key that no open context has, modified in its limits alone, closed and read; a packet is placed among those held without disturbing them; the
head leaves when its window has passed; disabling lets every held packet leave. -/
def Obligations.OrderRestorerHoldsAndReleases : Prop :=
  (∀ (s : State) (m : Master) (i : Fin 16384), s.accepts m R.ORS_FCMD = true →
    (s.gb F.ORS_FCMD_BUSY = true → ∀ c ∈ [Instr.orsOpen m i, .orsModify m i, .orsClose m i, .orsRead m i], exec c s = .next s) ∧
    (s.gb F.ORS_FCMD_BUSY = false →
      let w := (List.range 10).map fun k => s.rdN (R.ORS_FDATA k)
      let v := s.flow i
      let status (c : Instr) (n : Nat) : Prop := completes c s fun t => t.gf F.ORS_FCMD_STATUS = n ∧ t = { s with regs := t.regs } ∧ regsBut s t (· == R.ORS_FCMD)
      let done (t : State) : Prop := t.gf F.ORS_FCMD_STATUS = 0
      let limit := max 1 (min 4096 (bitsOf (w.getD 8 0) 0 13))
      let new : FlowSt := { isOpen := true, w := (w.set 4 (putBits (w.getD 4 0) 0 1 0)).set 8 limit }
      let taken : Prop := v.isOpen = true ∨ ∃ e ∈ s.sec.flows, e.2.isOpen = true ∧ sameKey e.2 new = true
      (flowBad w true = true → status (.orsOpen m i) 4) ∧
      (flowBad w true = false → taken → status (.orsOpen m i) 2) ∧
      (flowBad w true = false → ¬taken → completes (.orsOpen m i) s fun t => done t ∧ t.flow i = new ∧ (∀ j, j ≠ i.val → t.flow j = s.flow j) ∧ t = { s with regs := t.regs, sec := t.sec }) ∧
      (v.isOpen = false → status (.orsModify m i) 3 ∧ status (.orsClose m i) 3) ∧
      (v.isOpen = true → flowBad w false = true → status (.orsModify m i) 4) ∧
      (v.isOpen = true → v.w.length = 10 → flowBad w false = false → completes (.orsModify m i) s fun t => done t ∧ (∀ k, k < 4 → (t.flow i).word k = v.word k) ∧ (t.flow i).word 5 = v.word 5 ∧
        (t.flow i).kind = v.kind ∧ (t.flow i).flowtag = v.flowtag ∧ (t.flow i).lateact = bitAt (w.getD 4 0) 3 ∧ (t.flow i).word 6 = w.getD 6 0 ∧ (t.flow i).word 7 = w.getD 7 0 ∧
        (t.flow i).maxpkt = limit ∧ (t.flow i).word 9 = w.getD 9 0 ∧ (t.flow i).held = v.held ∧ ∀ j, j ≠ i.val → t.flow j = s.flow j) ∧
      (v.isOpen = true → completes (.orsClose m i) s fun t => done t ∧ t.flow i = {}) ∧
      (completes (.orsRead m i) s fun t => done t ∧ t.sec = s.sec ∧
        (v.isOpen = true → (∀ k : Fin 10, t.rdN (R.ORS_FDATA k) = (if k = 4 then v.word 4 + 1 else v.word k) % 2 ^ 32) ∧ t.rdN (R.ORS_FDATA 10) = v.held.length % 2 ^ 32) ∧
        (v.isOpen = false → ∀ k : Fin 12, t.rdN (R.ORS_FDATA k) = 0)))) ∧
  (∀ (s : State) (f : Fin 16384), s.works 0x88 islSHD = true →
    ((s.flow f).held = [] → exec (.orsRelease f) s = .next s) ∧
    (∀ h, (s.flow f).held = [h] → ((s.window (s.flow f) h).2 = false ∨ h.clipped = true) →
      (s.headDue (s.flow f) h = false → exec (.orsRelease f) s = .next s) ∧
      (s.headDue (s.flow f) h = true → ∃ u : State, u.flow f = { s.flow f with held := [], last := some h.s } ∧ (∀ g, g ≠ f.val → u.flow g = s.flow g) ∧
        u.rd64 (R.ORS_CNT 1) = (s.rd64 (R.ORS_CNT 1) + 1) % 2 ^ 48 ∧ u = { s with regs := u.regs, sec := u.sec } ∧
        exec (.orsRelease f) s = .next (u.handOver (match h.dest with
          | .tmq _ => if (s.flow f).word 9 = 0 then h.pkt else { h.pkt with launch := some ((shortOf h.s.time + 256 * (s.flow f).word 9) % 2 ^ 64) }
          | _ => h.pkt) h.dest)))) ∧
  (∀ (s : State) (m : Master), s.accepts m R.ORS_CFG = true → tabWf (fun _ => {}) s.sec.flows = true → completes (.orsDisable m) s fun t =>
    t.gb F.ORS_CFG_EN = false ∧ ∀ f, (t.flow f).held = []) ∧
  (∀ (kind : Nat) (p : HeldSt) (l r : List HeldSt), placeRev kind p l = some r → r.Perm (p :: l) ∧ l.Sublist r)

/-! ## Sedge engines -/

/-- Arithmetic (R314 to R317, R327): the thread whose instruction it is writes the result of R316 or R317 to rd, where a write to g0 is discarded, goes on at the next word and has retired one more;
nothing else changes. An fn that R317 reserves raises ILLEGAL, and so does a used rb of BSWAP, CLZ or POPCNT. -/
def Obligations.ArithmeticWritesItsResult : Prop :=
  ∀ (s : State) (t : Fin 8192) (rd ra rb : Fin 32) (imm : BitVec 16) (sh : Fin 64),
    let x := s.thread t
    let a := x.g ra
    let b := x.g rb
    let sx : Int := imm.toInt
    let k := b.toNat % 64
    let out (c : Instr) (w : Nat) (v : DWord) : Prop := s.issuing t w → completes c s fun u => engFrame s u t ∧ retires s u t rd v (x.pc + 4)
    let fr (c : Instr) (fn : Nat) (v : DWord) : Prop := out c (rd * 2 ^ 21 + ra * 2 ^ 16 + rb * 2 ^ 11 + fn) v
    let fi (c : Instr) (op : Nat) (v : DWord) : Prop := out c (op * 2 ^ 26 + rd * 2 ^ 21 + ra * 2 ^ 16 + imm.toNat) v
    let fs (c : Instr) (op : Nat) (v : DWord) : Prop := out c (op * 2 ^ 26 + rd * 2 ^ 21 + ra * 2 ^ 16 + sh) v
    let num (n : Nat) : DWord := BitVec.ofNat 64 n
    let lane (l : Nat) : DWord := num (a.toNat - bitsOf a.toNat (16 * l) 16 * 2 ^ (16 * l) + imm.toNat * 2 ^ (16 * l))
    fr (.add t rd ra rb) 0x000 (num (a.toNat + b.toNat)) ∧
    fr (.sub t rd ra rb) 0x001 (num (a.toNat + (2 ^ 64 - b.toNat))) ∧
    fr (.and t rd ra rb) 0x002 (a &&& b) ∧ fr (.or t rd ra rb) 0x003 (a ||| b) ∧ fr (.xor t rd ra rb) 0x004 (a ^^^ b) ∧
    fr (.sll t rd ra rb) 0x005 (num (a.toNat * 2 ^ k)) ∧
    fr (.srl t rd ra rb) 0x006 (num (a.toNat / 2 ^ k)) ∧
    fr (.sra t rd ra rb) 0x007 (BitVec.ofInt 64 (a.toInt / 2 ^ k)) ∧
    fr (.rotl t rd ra rb) 0x008 (num (a.toNat * 2 ^ k + a.toNat * 2 ^ k / 2 ^ 64)) ∧
    fr (.mul t rd ra rb) 0x009 (num (a.toNat * b.toNat)) ∧
    fr (.mulhu t rd ra rb) 0x00A (num (a.toNat * b.toNat / 2 ^ 64)) ∧
    fr (.divu t rd ra rb) 0x00B (if b.toNat = 0 then 0xFFFFFFFFFFFFFFFF else num (a.toNat / b.toNat)) ∧
    fr (.remu t rd ra rb) 0x00C (if b.toNat = 0 then a else num (a.toNat % b.toNat)) ∧
    fr (.sltu t rd ra rb) 0x00D (if a.toNat < b.toNat then 1 else 0) ∧
    fr (.slt t rd ra rb) 0x00E (if a.toInt < b.toInt then 1 else 0) ∧
    fr (.crc32c t rd ra rb) 0x00F (num ((List.range 64).foldl (fun c i => let c := c ^^^ bitsOf b.toNat i 1; if c % 2 = 1 then c / 2 ^^^ 0x82F63B78 else c / 2) (a.toNat % 2 ^ 32))) ∧
    out (.bswap t rd ra) (rd * 2 ^ 21 + ra * 2 ^ 16 + 0x010) (num ((List.range 8).foldl (fun n i => n * 256 + bitsOf a.toNat (8 * i) 8) 0)) ∧
    out (.clz t rd ra) (rd * 2 ^ 21 + ra * 2 ^ 16 + 0x011) (num (if a.toNat = 0 then 64 else 63 - a.toNat.log2)) ∧
    out (.popcnt t rd ra) (rd * 2 ^ 21 + ra * 2 ^ 16 + 0x012) (num (((List.range 64).map fun i => bitsOf a.toNat i 1).sum)) ∧
    fi (.addi t rd ra imm) 0x01 (BitVec.ofInt 64 (a.toInt + sx)) ∧
    fi (.andi t rd ra imm) 0x02 (num (a.toNat &&& imm.toNat)) ∧ fi (.ori t rd ra imm) 0x03 (num (a.toNat ||| imm.toNat)) ∧
    fi (.xori t rd ra imm) 0x04 (num (a.toNat ^^^ imm.toNat)) ∧
    fs (.slli t rd ra sh) 0x05 (num (a.toNat * 2 ^ sh.val)) ∧
    fs (.srli t rd ra sh) 0x06 (num (a.toNat / 2 ^ sh.val)) ∧
    fs (.srai t rd ra sh) 0x07 (BitVec.ofInt 64 (a.toInt / 2 ^ sh.val)) ∧
    fi (.sltui t rd ra imm) 0x08 (if (a.toNat : Int) < sx % 2 ^ 64 then 1 else 0) ∧
    fi (.slti t rd ra imm) 0x09 (if a.toInt < sx then 1 else 0) ∧
    fi (.puth0 t rd ra imm) 0x0A (lane 0) ∧ fi (.puth1 t rd ra imm) 0x0B (lane 1) ∧ fi (.puth2 t rd ra imm) 0x0C (lane 2) ∧ fi (.puth3 t rd ra imm) 0x0D (lane 3) ∧
    ∀ w : Word, w.toNat / 2 ^ 26 = 0 → (let fn := bitsOf w.toNat 0 11; 0x012 < fn ∨ (0x010 ≤ fn ∧ bitsOf w.toNat 11 5 ≠ 0)) → s.issuing t w.toNat →
      completes (.illegal t w) s fun u => raised s u t w.toNat 1 0 0 (excReport t 1 x.pc 0 (0xC000 + swardOf t))

/-- Branches, jumps, FENCE, CSRR, STAMP and the instructions that stop their thread (R316, R323, R327, R328, R330, R332): a branch goes to its target if its comparison holds, a jump to its target with
the link in rd or g31; FENCE only goes on; CSRR reads a thread register; STAMP writes a pair and takes one sequence; TRAP, BRK, a word that is no instruction, a pc outside the image and a refused target, pair or
register raise their exceptions. -/
def Obligations.BranchesJumpsAndTrapsMoveThePc : Prop :=
  ∀ (s : State) (t : Fin 8192) (rd ra rb : Fin 32) (imm : BitVec 16) (off : BitVec 26),
    let x := s.thread t
    let a := x.g ra
    let b := x.g rb
    let sw := swardOf t
    let go (c : Instr) (w r : Nat) (v : DWord) (pc : Nat) : Prop := s.issuing t w → completes c s fun u => engFrame s u t ∧ retires s u t r v pc
    let fx (r xop i : Nat) : Nat := 0x30 * 2 ^ 26 + r * 2 ^ 21 + xop * 2 ^ 5 + i
    let stops (c : Instr) (w code addr i : Nat) : Prop :=
      s.issuing t w → completes c s fun u => raised s u t w code addr i (excReport t code x.pc i (0xC000 + sw))
    let br (c : Instr) (op : Nat) (yes : Bool) : Prop := go c (op * 2 ^ 26 + ra * 2 ^ 21 + rb * 2 ^ 16 + imm.toNat) 0 0 (if yes then (((x.pc : Int) + 4 * imm.toInt) % 2 ^ 32).toNat else x.pc + 4)
    br (.beq t ra rb imm) 0x20 (decide (a.toNat = b.toNat)) ∧ br (.bne t ra rb imm) 0x21 (decide (a.toNat ≠ b.toNat)) ∧
    br (.blt t ra rb imm) 0x22 (decide (a.toInt < b.toInt)) ∧ br (.bge t ra rb imm) 0x23 (decide (b.toInt ≤ a.toInt)) ∧
    br (.bltu t ra rb imm) 0x24 (decide (a.toNat < b.toNat)) ∧ br (.bgeu t ra rb imm) 0x25 (decide (b.toNat ≤ a.toNat)) ∧
    go (.j t off) (0x28 * 2 ^ 26 + off.toNat) 0 0 (((x.pc : Int) + 4 * off.toInt) % 2 ^ 32).toNat ∧
    go (.jal t off) (0x29 * 2 ^ 26 + off.toNat) 31 (BitVec.ofNat 64 (x.pc + 4)) (((x.pc : Int) + 4 * off.toInt) % 2 ^ 32).toNat ∧
    (let goal := (((a.toNat : Int) + 4 * imm.toInt) % 2 ^ 64).toNat;
      let w := 0x2A * 2 ^ 26 + rd * 2 ^ 21 + ra * 2 ^ 16 + imm.toNat;
      (goal % 4 = 0 → goal < 2 ^ 32 → go (.jalr t rd ra imm) w rd (BitVec.ofNat 64 (x.pc + 4)) goal) ∧
      (goal % 4 ≠ 0 ∨ 2 ^ 32 ≤ goal → stops (.jalr t rd ra imm) w 5 goal 0)) ∧
    go (.fence t) (0x2C * 2 ^ 26) 0 0 (x.pc + 4) ∧
    stops (.trap t imm) (0x2D * 2 ^ 26 + imm.toNat) 8 0 imm.toNat ∧
    stops (.brk t imm) (0x2E * 2 ^ 26 + imm.toNat) 9 0 imm.toNat ∧
    (∀ w : Word, legalWord w.toNat = false → stops (.illegal t w) w.toNat 1 0 0) ∧
    (s.mayIssue t = true → s.pcOk t x.pc = false → completes (.pcfault t) s fun u => raised s u t 0 5 0 0 (excReport t 5 x.pc 0 (0xC000 + sw))) ∧
    (let w (i : Fin 32) := fx rd 0x01 i;
      go (.csrr t rd 0) (w 0) rd (BitVec.ofNat 64 t) (x.pc + 4) ∧
      go (.csrr t rd 1) (w 1) rd (BitVec.ofNat 64 ((s.now - tabGet (fun _ => 0) s.eng.resetAt sw) * 8 / 5)) (x.pc + 4) ∧
      go (.csrr t rd 2) (w 2) rd (BitVec.ofNat 64 x.retired) (x.pc + 4) ∧
      go (.csrr t rd 3) (w 3) rd (BitVec.ofNat 64 (x.pend % 2 ^ 32)) (x.pc + 4) ∧
      go (.csrr t rd 4) (w 4) rd x.arg (x.pc + 4) ∧
      ∀ i : Fin 32, 5 ≤ i.val → stops (.csrr t rd i) (w i) 1 0 0) ∧
    (let w := fx rd 0 0;
      (rd.val % 2 = 1 ∨ rd.val = 0 → stops (.stamp t rd) w 1 0 0) ∧
      (rd.val % 2 = 0 → rd.val ≠ 0 → s.issuing t w → completes (.stamp t rd) s fun u =>
        let d := 0xC000 + sw
        let y := u.thread t
        u.seqOf d = (s.seqOf d + 1) % 2 ^ 32 ∧ (∀ e, e ≠ d → u.seqOf e = s.seqOf e) ∧ u = { s with eng := u.eng, seqs := u.seqs } ∧
        (∀ r, y.g r = if r = rd then BitVec.ofNat 64 (s.counter (islSW sw) / 256)
          else if r = rd + 1 then BitVec.ofNat 64 (s.islandBound (islSW sw) + d * 2 ^ 16 + s.seqOf d * 2 ^ 32) else x.g r) ∧
        y.pc = x.pc + 4 ∧ y.retired = (x.retired + 1) % 2 ^ 64 ∧ y.st = 1 ∧ (∀ k, k ≠ t.val → u.thread k = s.thread k) ∧
        u.eng = { s.eng with threads := u.eng.threads, icache := u.eng.icache }))

/-- Loads, stores and atomic operations (R318 to R321, R324, R325, R330 to R332, R348, R416, R417): each reaches exactly the bytes that its address names in scratch, sward memory, a slot the thread may use, the packet buffer or
an admitted HBM window, and register space by 4 or 8 bytes; a misaligned address, one that no space or window admits, a buffer that fails its checks, a slot of another and a gated block raise their exceptions. -/
def Obligations.LoadsStoresAndAtomicsReachMemory : Prop :=
  ∀ (s : State) (t : Fin 8192) (rd ra rb : Fin 32) (imm : BitVec 16),
    let x := s.thread t
    let sw := swardOf t
    let zero : Nat → Byte := fun _ => 0
    let stops (c : Instr) (w code a : Nat) : Prop := completes c s fun u => raised s u t w code a 0 (excReport t code x.pc 0 (0xC000 + sw))
    let own (a o : Nat) : Prop := a = 0x100000 + o
    let at_ (a k o : Nat) : Prop := (k = sw ∧ own a o) ∨ a = 0x1000000 + 0x100000 * k + o
    let mapped (a : Nat) : Prop := a < 0x8000 ∨ (0x100000 ≤ a ∧ a < 0x200000) ∨ (0x1000000 ≤ a ∧ a < 0x5000000) ∨ (0x10000000 ≤ a ∧ a < 0x20000000) ∨
      (0x400000000 ≤ a ∧ a < 0x404000000) ∨ (0x800000000 ≤ a ∧ a < 0x1000000000)
    let hits (h n : Nat) (right : Nat → Fld) : Prop := ∃ i, i < 4 ∧
      let l := s.gf (F.ENG_SWDWIN_LOG2SIZE sw i)
      let b := s.rd64 (R.ENG_SWDWINBASE sw i) % 2 ^ 35
      s.gb (F.ENG_SWDWIN_EN sw i) = true ∧ 12 ≤ l ∧ l ≤ 35 ∧ b % 2 ^ l = 0 ∧ b + 2 ^ l ≤ 2 ^ 35 ∧ b ≤ h ∧ h + n ≤ b + 2 ^ l ∧ s.gb (right i) = true
    let gatedStop (c : Instr) (w a : Nat) : Prop := s.gb F.CGU_COMPAT_ZEROREAD = false → completes c s fun u =>
      let blk := blockOf (a - 0x10000000) * 256
      raised s u t w 4 a 0 (⟨0x0103, 2, 0x0100, blk, [a - 0x10000000, masterWord (.engine t)]⟩ :: excReport t 4 x.pc 0 blk)
    let noted (o : Nat) : Report := ⟨0x0103, 0, 0x0100, blockOf o * 256, [o, masterWord (.engine t)]⟩
    let words (o n : Nat) : List Report := noted o :: (if n = 8 then [noted (o + 4)] else [])
    let goesOn (u : State) : Prop := retires s u t 0 0 (x.pc + 4) ∧ ∀ k, k ≠ t.val → u.thread k = s.thread k
    let ld (c : Instr) (op n : Nat) (inRegs : Bool) (f : Nat → DWord) : Prop :=
      let a := (((x.g ra).toNat : Int) + imm.toInt) % 2 ^ 64
      ∀ a' : Nat, a' = a.toNat →
      let w := op * 2 ^ 26 + rd * 2 ^ 21 + ra * 2 ^ 16 + imm.toNat
      let gives (v : Nat) : Prop := completes c s fun u => engFrame s u t ∧ retires s u t rd (f v) (x.pc + 4)
      s.issuing t w →
      (a' % n ≠ 0 → stops c w 2 a') ∧
      (a' % n = 0 →
        (a' < 0x8000 → gives (ofLe (memRead zero s.eng.scratch (engineOf t * 2 ^ 15 + a') n))) ∧
        (∀ k o, k < 64 → o < 0xC0000 → at_ a' k o → gives (ofLe (memRead zero s.eng.smem (k * 2 ^ 20 + o) n))) ∧
        (∀ k ch i o, k < 64 → ch < 256 → i < 16 → o < 64 → at_ a' k (0xC0000 + 0x400 * ch + 0x40 * i + o) →
          let y := (s.chan (k * 256 + ch)).slot i
          ((y.st = 1 ∨ y.st = 3) ∧ y.holder = t.val → gives (bitsOf (if y.st = 3 ∧ y.len ≤ o / 8 then 0 else y.mem.getD (o / 8) 0) (o % 8 * 8) (8 * n))) ∧
          (¬((y.st = 1 ∨ y.st = 3) ∧ y.holder = t.val) → stops c w 7 a')) ∧
        (0x400000000 ≤ a' → a' < 0x404000000 →
          (∀ h o, s.bufFor sw (a' - 0x400000000) n false = some (h, o) → gives (ofLe (s.bufRead h o n))) ∧
          (s.bufFor sw (a' - 0x400000000) n false = none → stops c w 6 a')) ∧
        (0x800000000 ≤ a' → a' < 0x1000000000 →
          (hits (a' - 0x800000000) n (F.ENG_SWDWIN_RD sw) → gives (ofLe (s.hbmRead (a' - 0x800000000) n))) ∧
          (¬hits (a' - 0x800000000) n (F.ENG_SWDWIN_RD sw) → stops c w 3 a')) ∧
        (¬mapped a' → stops c w 3 a') ∧
        (0x10000000 ≤ a' → a' < 0x20000000 →
          let o := a' - 0x10000000
          (inRegs = false ∨ (0x80000 ≤ o ∧ o < 0x90000) → stops c w 3 a') ∧
          (inRegs = true → ¬(0x80000 ≤ o ∧ o < 0x90000) →
            (s.enabled (blockOf o) = false → gatedStop c w a' ∧
              (s.gb F.CGU_COMPAT_ZEROREAD = true → completes c s fun u => u = { s with eng := u.eng, flt := u.flt } ∧ retires s u t rd (f 0) (x.pc + 4) ∧ reported s u (words o n))) ∧
            (s.enabled (blockOf o) = true →
              (n = 4 → let r := (s.issued t).readReg (.engine t) o; exec c s = .next (r.2.ends t rd (f r.1.toNat))) ∧
              (n = 8 → let r := (s.issued t).readReg (.engine t) o; let r' := r.2.engReg t (o + 4); exec c s = .next (r'.2.ends t rd (f (r.1.toNat + r'.1 * 2 ^ 32))))))))
    let st (c : Instr) (op n : Nat) (inRegs : Bool) : Prop :=
      let a := (((x.g ra).toNat : Int) + imm.toInt) % 2 ^ 64
      ∀ a' : Nat, a' = a.toNat →
      let w := op * 2 ^ 26 + rd * 2 ^ 21 + ra * 2 ^ 16 + imm.toNat
      let v := (x.g rd).toNat
      s.issuing t w →
      (a' % n ≠ 0 → stops c w 2 a') ∧
      (a' % n = 0 →
        (a' < 0x8000 → completes c s fun u => goesOn u ∧ u = { s with eng := u.eng } ∧
          u.eng = { s.eng with threads := u.eng.threads, icache := u.eng.icache, scratch := u.eng.scratch } ∧
          bytesPut s.eng.scratch u.eng.scratch (engineOf t * 2 ^ 15 + a') n v) ∧
        (∀ k o, k < 64 → o < 0xC0000 → at_ a' k o → completes c s fun u => goesOn u ∧ u = { s with eng := u.eng } ∧
          u.eng = { s.eng with threads := u.eng.threads, icache := u.eng.icache, smem := u.eng.smem } ∧ bytesPut s.eng.smem u.eng.smem (k * 2 ^ 20 + o) n v) ∧
        (∀ k ch i o, k < 64 → ch < 256 → i < 16 → o < 64 → at_ a' k (0xC0000 + 0x400 * ch + 0x40 * i + o) →
          let y := (s.chan (k * 256 + ch)).slot i
          (y.st = 1 ∧ y.holder = t.val → completes c s fun u => goesOn u ∧ u = { s with eng := u.eng, chans := u.chans, regs := u.regs } ∧
            u.chan (k * 256 + ch) = (s.chan (k * 256 + ch)).setSlot i
              { y with mem := (List.range 8).map fun j => if j = o / 8 then putBits (y.mem.getD j 0) (o % 8 * 8) (8 * n) v else y.mem.getD j 0 } ∧
            (∀ e, e ≠ k * 256 + ch → u.chan e = s.chan e) ∧ regsBut s u (fun off => off == R.ENG_CHCFG k ch)) ∧
          (¬(y.st = 1 ∧ y.holder = t.val) → stops c w 7 a')) ∧
        (0x400000000 ≤ a' → a' < 0x404000000 →
          (∀ h o, s.bufFor sw (a' - 0x400000000) n true = some (h, o) → completes c s fun u => goesOn u ∧ u = { s with eng := u.eng, bufs := u.bufs } ∧
            u.buf h = { s.buf h with data := (u.buf h).data, vlen := max (s.buf h).vlen (o + n) } ∧ bytesPut (s.buf h).data (u.buf h).data o n v ∧
            ∀ g, g % 2 ^ 24 ≠ h % 2 ^ 24 → u.buf g = s.buf g) ∧
          (s.bufFor sw (a' - 0x400000000) n true = none → stops c w 6 a')) ∧
        (0x800000000 ≤ a' → a' < 0x1000000000 →
          (hits (a' - 0x800000000) n (F.ENG_SWDWIN_WR sw) → completes c s fun u => goesOn u ∧ u = { s with eng := u.eng, hbm := u.hbm } ∧
            bytesPut s.hbm u.hbm (a' - 0x800000000) n v) ∧
          (¬hits (a' - 0x800000000) n (F.ENG_SWDWIN_WR sw) → stops c w 3 a')) ∧
        (¬mapped a' → stops c w 3 a') ∧
        (0x10000000 ≤ a' → a' < 0x20000000 →
          let o := a' - 0x10000000
          (inRegs = false ∨ (0x80000 ≤ o ∧ o < 0x90000) → stops c w 3 a') ∧
          (inRegs = true → ¬(0x80000 ≤ o ∧ o < 0x90000) →
            (s.enabled (blockOf o) = false → gatedStop c w a' ∧
              (s.gb F.CGU_COMPAT_ZEROREAD = true → completes c s fun u => goesOn u ∧ u = { s with eng := u.eng, flt := u.flt } ∧ reported s u (words o n))) ∧
            (s.enabled (blockOf o) = true →
              let u := ((s.issued t).ends t 0 0).writeBy (.engine t) o o (v % 2 ^ 32)
              (n = 4 → exec c s = .next u) ∧ (n = 8 → exec c s = .next (u.engPut t (o + 4) (v / 2 ^ 32)))))))
    let amo (c : Instr) (fn : Nat) (new : Nat → Nat) : Prop :=
      let a := (x.g ra).toNat
      let w := 0x1C * 2 ^ 26 + rd * 2 ^ 21 + ra * 2 ^ 16 + rb * 2 ^ 11 + fn
      let done (u : State) (m m' : Tab Byte) (k : Nat) : Prop :=
        let old := ofLe (memRead zero m k 8)
        bytesPut m m' k 8 (new old) ∧ retires s u t rd (BitVec.ofNat 64 old) (x.pc + 4) ∧ (∀ e, e ≠ t.val → u.thread e = s.thread e) ∧ u = { s with eng := u.eng }
      s.issuing t w →
      (a % 8 ≠ 0 → stops c w 2 a) ∧
      (a % 8 = 0 →
        (a < 0x8000 → completes c s fun u => done u s.eng.scratch u.eng.scratch (engineOf t * 2 ^ 15 + a) ∧
          u.eng = { s.eng with threads := u.eng.threads, icache := u.eng.icache, scratch := u.eng.scratch }) ∧
        (∀ k o, k < 64 → o < 0xC0000 → at_ a k o → completes c s fun u => done u s.eng.smem u.eng.smem (k * 2 ^ 20 + o) ∧
          u.eng = { s.eng with threads := u.eng.threads, icache := u.eng.icache, smem := u.eng.smem }) ∧
        (¬(a < 0x8000) → (∀ k o, k < 64 → o < 0xC0000 → ¬at_ a k o) → stops c w 3 a))
    let b := (x.g rb).toNat
    let sext (n v : Nat) : DWord := BitVec.ofInt 64 (signedOf (8 * n) v)
    ld (.ld8u t rd ra imm) 0x10 1 false (BitVec.ofNat 64) ∧ ld (.ld16u t rd ra imm) 0x11 2 false (BitVec.ofNat 64) ∧ ld (.ld32u t rd ra imm) 0x12 4 true (BitVec.ofNat 64) ∧
    ld (.ld64 t rd ra imm) 0x13 8 true (BitVec.ofNat 64) ∧
    ld (.ld8s t rd ra imm) 0x14 1 false (sext 1) ∧ ld (.ld16s t rd ra imm) 0x15 2 false (sext 2) ∧ ld (.ld32s t rd ra imm) 0x16 4 false (sext 4) ∧
    st (.st8 t rd ra imm) 0x18 1 false ∧ st (.st16 t rd ra imm) 0x19 2 false ∧ st (.st32 t rd ra imm) 0x1A 4 true ∧ st (.st64 t rd ra imm) 0x1B 8 true ∧
    amo (.amoadd t rd ra rb) 0 (fun old => old + b) ∧ amo (.amoswap t rd ra rb) 1 (fun _ => b) ∧
    amo (.amocas t rd ra rb) 2 (fun old => if old = (x.g rd).toNat then b else old) ∧
    amo (.amoand t rd ra rb) 3 (fun old => old &&& b) ∧ amo (.amoor t rd ra rb) 4 (fun old => old ||| b)

/-- Channels and events (R321, R326, R344, R346 to R349): CLAIM takes the lowest FREE slot behind the claims that wait, SEAL queues the first words of a claimed slot, CRECV takes the oldest sealed slot, CFREE frees a received one, and a grant
serves the thread that has waited longest; EVSEND sets a pending event or drops it. -/
def Obligations.ChannelsAndEventsPassBetweenThreads : Prop :=
  (∀ (s : State) (t : Fin 8192) (rd ra n : Fin 32) (nw : Bool),
    let x := s.thread t
    let a := (x.g ra).toNat
    let sw := swardOf t
    let w (r xa xop i : Nat) : Nat := 0x30 * 2 ^ 26 + r * 2 ^ 21 + xa * 2 ^ 16 + xop * 2 ^ 5 + i
    let stops (c : Instr) (wd code : Nat) : Prop := completes c s fun u => raised s u t wd code 0 0 (excReport t code x.pc 0 (0xC000 + sw))
    let frame (u : State) (c : Nat) : Prop := u = { s with eng := u.eng, chans := u.chans, regs := u.regs } ∧ (∀ e, e ≠ c → u.chan e = s.chan e) ∧ u.eng.scratch = s.eng.scratch ∧
      u.eng.smem = s.eng.smem ∧ regsBut s u (fun o => o == R.ENG_CHCFG (c / 256) (c % 256) || regSpan (R.ENG_CNT (c / 256) 4) (R.ENG_CNT (c / 256) 5) o)
    let addr (c k : Nat) : DWord := BitVec.ofNat 64 (0x1000000 + 0x100000 * (c / 256) + 0xC0000 + 0x400 * (c % 256) + 0x40 * k)
    let names (c k : Nat) : Prop := c < 16384 ∧ k < 16 ∧ (a = (addr c k).toNat ∨ (c / 256 = sw ∧ a = 0x1C0000 + 0x400 * (c % 256) + 0x40 * k))
    let c := a % 2 ^ 14
    let ch := s.chan c
    let lowest (k : Nat) : Prop := k < 16 ∧ (ch.slot k).st = 0 ∧ ∀ j, j < k → (ch.slot j).st ≠ 0
    (s.issuing t (w rd ra 3 (b2n nw)) →
      (s.supChan (c / 256) = c ∨ 4 ≤ (s.slotsHeld t 1).length → stops (.claim t rd ra nw) (w rd ra 3 (b2n nw)) 7) ∧
      (s.supChan (c / 256) ≠ c → (s.slotsHeld t 1).length < 4 →
        (∀ k, lowest k → ch.claims = [] → completes (.claim t rd ra nw) s fun u => frame u c ∧ retires s u t rd (addr c k) (x.pc + 4) ∧ othersKeep s u [t] ∧
          u.chan c = ch.setSlot k { ch.slot k with st := 1, holder := t, claimedAt := s.now, told := none }) ∧
        (ch.claims ≠ [] ∨ (∀ k, k < 16 → (ch.slot k).st ≠ 0) →
          (nw = true → completes (.claim t rd ra nw) s fun u => engFrame s u t ∧ retires s u t rd 0 (x.pc + 4)) ∧
          (nw = false → completes (.claim t rd ra nw) s fun u => frame u c ∧ blocked s u t (.claim rd c) ∧ u.chan c = { ch with claims := ch.claims ++ [t.val] })))) ∧
    (s.issuing t (w 0 ra 4 n) →
      (n.val = 0 ∨ 8 < n.val → stops (.seal t ra n) (w 0 ra 4 n) 1) ∧
      (1 ≤ n.val → n.val ≤ 8 → ((∀ d k, names d k → ¬((((s.chan d).slot k).st = 1) ∧ ((s.chan d).slot k).holder = t.val)) → stops (.seal t ra n) (w 0 ra 4 n) 7) ∧
        ∀ d k, names d k → ((s.chan d).slot k).st = 1 → ((s.chan d).slot k).holder = t.val → completes (.seal t ra n) s fun u => frame u d ∧ retires s u t 0 0 (x.pc + 4) ∧ othersKeep s u [t] ∧
          u.chan d = { (s.chan d).setSlot k { (s.chan d).slot k with st := 2, holder := 0, len := n, told := none } with queue := (s.chan d).queue ++ [k] } ∧
          u.rd64 (R.ENG_CNT (d / 256) 4) = (s.rd64 (R.ENG_CNT (d / 256) 4) + 1) % 2 ^ 48)) ∧
    (s.issuing t (w rd ra 5 (b2n nw)) →
      (c / 256 ≠ sw ∨ 4 ≤ (s.slotsHeld t 3).length → stops (.crecv t rd ra nw) (w rd ra 5 (b2n nw)) 7) ∧
      (c / 256 = sw → (s.slotsHeld t 3).length < 4 →
        (∀ k rest, ch.queue = k :: rest → ch.recvs = [] → completes (.crecv t rd ra nw) s fun u => frame u c ∧ retires s u t rd (addr c k) (x.pc + 4) ∧ othersKeep s u [t] ∧
          u.chan c = { ch.setSlot k { ch.slot k with st := 3, holder := t } with queue := rest }) ∧
        (ch.queue = [] ∨ ch.recvs ≠ [] →
          (nw = true → completes (.crecv t rd ra nw) s fun u => engFrame s u t ∧ retires s u t rd 0 (x.pc + 4)) ∧
          (nw = false → completes (.crecv t rd ra nw) s fun u => frame u c ∧ blocked s u t (.crecv rd c) ∧ u.chan c = { ch with recvs := ch.recvs ++ [t.val] })))) ∧
    (s.issuing t (w 0 ra 6 0) →
      ((∀ d k, names d k → ¬((((s.chan d).slot k).st = 3) ∧ ((s.chan d).slot k).holder = t.val)) → stops (.cfree t ra) (w 0 ra 6 0) 7) ∧
      ∀ d k, names d k → ((s.chan d).slot k).st = 3 → ((s.chan d).slot k).holder = t.val → completes (.cfree t ra) s fun u => frame u d ∧ retires s u t 0 0 (x.pc + 4) ∧ othersKeep s u [t] ∧
        u.chan d = (s.chan d).setSlot k { (s.chan d).slot k with st := 0, holder := 0, told := none }) ∧
    (s.issuing t (w 0 ra 7 n) →
      let d := a % 2 ^ 13
      let y := s.thread d
      let cnt (u : State) (k : Nat) : Prop := u.rd64 (R.ENG_CNT (swardOf d) k) = (s.rd64 (R.ENG_CNT (swardOf d) k) + 1) % 2 ^ 48 ∧
        regsBut s u (regSpan (R.ENG_CNT (swardOf d) k) (R.ENG_CNT (swardOf d) k + 8))
      ((y.st = 1 ∨ y.st = 2) → d ≠ t → completes (.evsend t ra n) s fun u => cnt u 2 ∧ u = { s with eng := u.eng, regs := u.regs } ∧ retires s u t 0 0 (x.pc + 4) ∧
        u.thread d = { y with pend := y.pend ||| 2 ^ n.val } ∧ othersKeep s u [t.val, d]) ∧
      (d = t → completes (.evsend t ra n) s fun u => cnt u 2 ∧ (u.thread t).pend = x.pend ||| 2 ^ n.val ∧ (u.thread t).pc = x.pc + 4 ∧ (u.thread t).st = 1 ∧
        (∀ r, (u.thread t).g r = x.g r) ∧ othersKeep s u [t]) ∧
      (y.st ≠ 1 → y.st ≠ 2 → completes (.evsend t ra n) s fun u => cnt u 3 ∧ u = { s with eng := u.eng, regs := u.regs, flt := u.flt } ∧ retires s u t 0 0 (x.pc + 4) ∧ othersKeep s u [t] ∧
        reported s u [⟨0xC022, 0, 0xC000 + swardOf d, 0xC000 + swardOf d, []⟩]))) ∧
  (∀ (s : State) (c : Fin 16384), s.works 0xC0 (islSW (c.val / 256)) = true →
    let ch := s.chan c
    let addr (k : Nat) : DWord := BitVec.ofNat 64 (0x1000000 + 0x100000 * (c.val / 256) + 0xC0000 + 0x400 * (c.val % 256) + 0x40 * k)
    let frame (u : State) (h : Nat) : Prop := u = { s with eng := u.eng, chans := u.chans, regs := u.regs } ∧ (∀ e, e ≠ c.val → u.chan e = s.chan e) ∧ othersKeep s u [h]
    (∀ h rest k rd d, ch.claims = h :: rest → k < 16 → (ch.slot k).st = 0 → (∀ j, j < k → (ch.slot j).st ≠ 0) → (s.thread h).st = 2 → (s.thread h).wait = .claim rd d → completes (.claimGrant c) s fun u => frame u h ∧
      woken s u h rd (addr k) ∧ u.chan c = { ch.setSlot k { ch.slot k with st := 1, holder := h, claimedAt := s.now, told := none } with claims := rest }) ∧
    (ch.claims = [] ∨ (∀ k, k < 16 → (ch.slot k).st ≠ 0) → exec (.claimGrant c) s = .next s) ∧
    (∀ h rest k more rd d, ch.recvs = h :: rest → ch.queue = k :: more → (s.thread h).st = 2 → (s.thread h).wait = .crecv rd d → completes (.crecvGrant c) s fun u => frame u h ∧
      woken s u h rd (addr k) ∧ u.chan c = { ch.setSlot k { ch.slot k with st := 3, holder := h } with queue := more, recvs := rest }) ∧
    (ch.recvs = [] ∨ ch.queue = [] → exec (.crecvGrant c) s = .next s))

/-- Threads start and end (R339 to R341, R343, R354): FORK takes a FREE thread of the sward as R341 chooses it, with the start state of R340, or waits; EXIT and KILL release the thread's
slots, free its exited children and detach its living ones. Masters with the write right run and hold a sward, invalidate its caches, and halt, resume, step and kill its threads; Skylark's queue gives up its head notice. -/
def Obligations.ThreadsForkExitAndObeyMasters : Prop :=
  (∀ (s : State) (t : Fin 8192) (rd ra rb : Fin 32),
    let x := s.thread t
    let a := (x.g ra).toNat
    let sw := swardOf t
    let w (r xa xb xop : Nat) : Nat := 0x30 * 2 ^ 26 + r * 2 ^ 21 + xa * 2 ^ 16 + xb * 2 ^ 11 + xop * 2 ^ 5
    let id (e i : Nat) : Nat := sw * 128 + e * 8 + i
    let count (e : Nat) : Nat := ((List.range 8).filter fun i => (s.thread (id e i)).st == 0).length
    let chosen (e i : Nat) : Prop := e < 16 ∧ i < 8 ∧ (s.thread (id e i)).st = 0 ∧ (∀ j, j < i → (s.thread (id e j)).st ≠ 0) ∧
      (e = engineOf t % 16 ∨ (count (engineOf t % 16) = 0 ∧ ∀ g, g < 16 → count g ≤ count e ∧ (g < e → count g < count e)))
    let started (u : State) (k pc : Nat) (arg : DWord) : Prop :=
      let y := u.thread k
      y = { st := 1, pc := pc, arg := arg, parent := some t.val, regs := y.regs } ∧ ∀ r, y.g r = if r = 1 then arg else if r = 2 then BitVec.ofNat 64 t else 0
    let forks := tabGet (fun _ => []) s.eng.forkq sw
    (s.issuing t (w rd ra rb 9) →
      (∀ e i, chosen e i → forks = [] → completes (.fork t rd ra rb) s fun u => started u (id e i) a (x.g rb) ∧ retires s u t rd (BitVec.ofNat 64 (id e i)) (x.pc + 4) ∧
        othersKeep s u [t.val, id e i] ∧ u.rd64 (R.ENG_CNT sw 0) = (s.rd64 (R.ENG_CNT sw 0) + 1) % 2 ^ 48 ∧
        u = { s with eng := u.eng, regs := u.regs, latches := u.latches, heldLow := u.heldLow } ∧ regsBut s u (regSpan (R.ENG_CNT sw 0) (R.ENG_CNT sw 1))) ∧
      (forks ≠ [] ∨ (∀ e i, ¬chosen e i) → completes (.fork t rd ra rb) s fun u => u = { s with eng := u.eng } ∧
        blocked s u t (.fork rd a (x.g rb) s.now) ∧ tabGet (fun _ => []) u.eng.forkq sw = forks ++ [t.val])) ∧
    (s.issuing t (w 0 ra 0 11) → tabWf (fun _ => ({} : ThreadSt)) s.eng.threads = true → tabWf (fun _ => ({} : ChanSt)) s.chans = true → (∀ c, 16384 ≤ c → s.chan c = {}) →
      x.parent ≠ some t.val → x.wait = .none →
      completes (.exit t ra) s fun u =>
        (u.thread t = match x.parent with | some p => { st := 3, exit := x.g ra, parent := some p, pc := x.pc } | none => {}) ∧
        (∀ c k, k < 16 → ((s.chan c).slot k).holder = t.val → ((s.chan c).slot k).st = 1 ∨ ((s.chan c).slot k).st = 3 → ((u.chan c).slot k).st = 0) ∧
        (∀ c k, k < 16 → ¬(((s.chan c).slot k).holder = t.val ∧ (((s.chan c).slot k).st = 1 ∨ ((s.chan c).slot k).st = 3)) → (u.chan c).slot k = (s.chan c).slot k) ∧
        (∀ c, c ≠ t.val → u.thread c = if (s.thread c).parent = some t.val then (if (s.thread c).st = 3 then {} else { s.thread c with parent := none }) else s.thread c) ∧
        (∀ k, u.rd64 (R.ENG_CNT k 5) = (s.rd64 (R.ENG_CNT k 5) + ((s.slotsHeld t 1).filter fun e => e.1 / 256 == k).length) % 2 ^ 48 ∨ 64 ≤ k ∨ s.rd64 (R.ENG_CNT k 5) ≥ 2 ^ 48) ∧
        u.bufs = s.bufs ∧ u.eng.scratch = s.eng.scratch ∧ u.eng.smem = s.eng.smem ∧ u.hbm = s.hbm)) ∧
  (∀ (s : State) (w : Fin 64), s.works 0xC0 (islSW w) = true →
    ∀ t rest rd pc arg at_ c, tabGet (fun _ => []) s.eng.forkq w.val = t :: rest → (s.thread t).wait = .fork rd pc arg at_ → swardOf t = w → s.forkThread t = some c → c ≠ t →
      completes (.forkGrant w) s fun u => tabGet (fun _ => []) u.eng.forkq w.val = rest ∧ woken s u t rd (BitVec.ofNat 64 c) ∧ othersKeep s u [t, c] ∧
        (u.thread c).st = 1 ∧ (u.thread c).pc = pc ∧ (u.thread c).parent = some t ∧ (u.thread c).g 1 = arg ∧ (u.thread c).g 2 = BitVec.ofNat 64 t ∧
        u.rd64 (R.ENG_CNT w 0) = (s.rd64 (R.ENG_CNT w 0) + 1) % 2 ^ 48 ∧ u.rd64 (R.ENG_CNT w 1) = (s.rd64 (R.ENG_CNT w 1) + (s.now - at_) * 8 / 5) % 2 ^ 48) ∧
  (∀ (s : State) (m : Master) (w : Fin 64), s.accepts m (R.ENG_SWCTL w) = true →
    let sup := w * 128 + s.gf (F.ENG_SWSUP_SUPTID w)
    let ctl (u : State) : Prop := regsBut s u (fun o => o == R.ENG_SWCTL w)
    ((s.allFree w = true → completes (.swardRun m w) s fun u => u.gb (F.ENG_SWCTL_RUN w) = true ∧ u.gb (F.ENG_SWCTL_STOPPED w) = s.gb (F.CGU_ISL_STOPREQ (islSW w)) ∧ ctl u ∧
        (u.thread sup).st = 1 ∧ (u.thread sup).pc = 0 ∧ (u.thread sup).parent = none ∧ (∀ r, (u.thread sup).g r = if r = 1 then BitVec.ofNat 64 w else if r = 2 then 0xFFFF else 0) ∧
        (u.thread sup).retired = 0 ∧ (u.thread sup).pend = 0 ∧ othersKeep s u [sup] ∧ u = { s with regs := u.regs, eng := u.eng, latches := u.latches, heldLow := u.heldLow }) ∧
      (s.allFree w = false → completes (.swardRun m w) s fun u => u.gb (F.ENG_SWCTL_RUN w) = true ∧ u.gb (F.ENG_SWCTL_STOPPED w) = s.gb (F.CGU_ISL_STOPREQ (islSW w)) ∧ ctl u ∧
        u.eng.threads = s.eng.threads ∧ u = { s with regs := u.regs, eng := u.eng }) ∧
      (completes (.swardHold m w) s fun u => u.gb (F.ENG_SWCTL_RUN w) = false ∧ ctl u ∧ u = { s with regs := u.regs }) ∧
      (completes (.icinv m w) s fun u => u.gb (F.ENG_SWCTL_ICINV w) = true ∧ ctl u ∧ u = { s with regs := u.regs }))) ∧
  (∀ (s : State) (m : Master) (w : Fin 64), s.denies m (R.ENG_SWCTL w) = true →
    ∀ c : Instr, c = .swardRun m w ∨ c = .swardHold m w ∨ c = .icinv m w → exec c s = .next (s.cfgViol m (R.ENG_SWCTL w))) ∧
  (∀ (s : State) (w : Fin 64),
    (s.gb (F.ENG_SWCTL_RUN w) = false → completes (.swardStopped w) s fun u => u.gb (F.ENG_SWCTL_STOPPED w) = true ∧ regsBut s u (fun o => o == R.ENG_SWCTL w) ∧ u = { s with regs := u.regs }) ∧
    (s.gb (F.ENG_SWCTL_RUN w) = true → exec (.swardStopped w) s = .next s) ∧
    (s.gb (F.ENG_SWCTL_ICINV w) = true → completes (.icinvDone w) s fun u => u.gb (F.ENG_SWCTL_ICINV w) = false ∧ regsBut s u (fun o => o == R.ENG_SWCTL w) ∧
      u = { s with regs := u.regs, eng := u.eng } ∧ u.eng = { s.eng with icache := u.eng.icache } ∧
      ∀ k, tabGet (fun _ => []) u.eng.icache k = if k / 2 ^ 22 = w then [] else tabGet (fun _ => []) s.eng.icache k)) ∧
  (∀ (s : State) (m : Master) (t : Fin 8192), s.accepts m (R.ENG_TDBG t) = true →
    let x := s.thread t
    let only (u : State) (v : ThreadSt) : Prop := u = { s with eng := u.eng } ∧ u.thread t = v ∧ othersKeep s u [t]
    (completes (.threadHalt m t) s fun u => only u (if x.st = 0 ∨ x.st = 3 then x else { x with halted := true, step := false, stopped := some (x.stopped.getD s.now) })) ∧
    (completes (.threadResume m t) s fun u => only u (if x.halted = true ∨ x.st = 4 then { x with halted := false, step := false, stopped := none, st := if x.st = 4 then 1 else x.st } else x)) ∧
    (completes (.threadStep m t) s fun u => only u (if x.halted = true then { x with step := true } else x)) ∧
    (x.st = 0 → exec (.threadKill m t) s = .next s) ∧
    (x.st ≠ 0 → x.parent ≠ some t.val → tabWf (fun _ => ({} : ThreadSt)) s.eng.threads = true → completes (.threadKill m t) s fun u =>
      (u.thread t = match x.parent with | some p => { st := 3, exit := 0xFFFFFFFFFFFFFFFF, parent := some p, pc := x.pc } | none => {}) ∧ u.bufs = s.bufs ∧ u.mov.bursts = s.mov.bursts)) ∧
  (∀ (s : State) (m : Master), s.accepts m R.ENG_SKYQPOP = true → s.eng.skyq.length ≤ 256 → completes (.skyqPop m) s fun u =>
    u.eng = { s.eng with skyq := s.eng.skyq.drop 1 } ∧ u.gf F.ENG_SKYQSTAT_COUNT = s.eng.skyq.length - 1 ∧ regsBut s u (fun o => o == R.ENG_SKYQSTAT) ∧ u = { s with eng := u.eng, regs := u.regs })

/-- WAIT (R345): the events of its mask that are pending come to rd at once and are cleared; without one the thread waits until some bit of the mask is pending, and then takes every pending bit in the same way; a mask of 0 returns 0
at once. -/
def Obligations.WaitTakesPendingEvents : Prop :=
  (∀ (s : State) (t : Fin 8192) (rd ra : Fin 32), s.issuing t (0x30 * 2 ^ 26 + rd * 2 ^ 21 + ra * 2 ^ 16 + 8 * 2 ^ 5) →
    let x := s.thread t
    let m := (x.g ra).toNat % 2 ^ 32
    let got := x.pend &&& m
    (m = 0 ∨ got ≠ 0 → completes (.wait t rd ra) s fun u => u = { s with eng := u.eng } ∧ othersKeep s u [t] ∧ (u.thread t).pend = x.pend - got ∧ (u.thread t).st = 1 ∧
      (u.thread t).pc = x.pc + 4 ∧ (u.thread t).retired = (x.retired + 1) % 2 ^ 64 ∧ ∀ r, (u.thread t).g r = if r = rd ∧ r ≠ 0 then BitVec.ofNat 64 got else x.g r) ∧
    (m ≠ 0 → got = 0 → completes (.wait t rd ra) s fun u => u = { s with eng := u.eng } ∧ blocked s u t (.event rd m))) ∧
  (∀ (s : State) (t : Fin 8192) (rd m : Nat), s.works 0xC0 (islSW (swardOf t)) = true → (s.thread t).st = 2 → (s.thread t).wait = .event rd m →
    let got := (s.thread t).pend &&& m
    (got = 0 → exec (.waitWake t) s = .next s) ∧
    (got ≠ 0 → completes (.waitWake t) s fun u => u = { s with eng := u.eng } ∧ othersKeep s u [t] ∧ (u.thread t).pend = (s.thread t).pend - got ∧ (u.thread t).st = 1 ∧ (u.thread t).wait = .none ∧
      ∀ r, (u.thread t).g r = if r = rd ∧ r ≠ 0 then BitVec.ofNat 64 got else (s.thread t).g r))

/-- JOIN (R342): an EXITED child's exit value comes to rd at once and the child becomes FREE; a child that has not exited is waited for, and then joined in the same way; a thread that is no child of the joining one, or one joined
before, raises ILLEGAL. -/
def Obligations.JoinTakesTheExitValue : Prop :=
  (∀ (s : State) (t : Fin 8192) (rd ra : Fin 32), s.issuing t (0x30 * 2 ^ 26 + rd * 2 ^ 21 + ra * 2 ^ 16 + 10 * 2 ^ 5) →
    let w : Nat := 0x30 * 2 ^ 26 + rd * 2 ^ 21 + ra * 2 ^ 16 + 10 * 2 ^ 5
    let x := s.thread t
    let c := (x.g ra).toNat % 2 ^ 13
    let y := s.thread c
    let child : Prop := y.parent = some t.val ∧ y.st ≠ 0
    (¬child → completes (.join t rd ra) s fun u => raised s u t w 1 0 0 (excReport t 1 x.pc 0 (0xC000 + swardOf t))) ∧
    (child → c ≠ t → y.st = 3 → completes (.join t rd ra) s fun u => u = { s with eng := u.eng } ∧ retires s u t rd y.exit (x.pc + 4) ∧ u.thread c = {} ∧ othersKeep s u [t.val, c]) ∧
    (child → y.st ≠ 3 → completes (.join t rd ra) s fun u => u = { s with eng := u.eng } ∧ blocked s u t (.join rd c))) ∧
  (∀ (s : State) (t : Fin 8192) (rd c : Nat), s.works 0xC0 (islSW (swardOf t)) = true → (s.thread t).st = 2 → (s.thread t).wait = .join rd c → c ≠ t →
    ((s.thread c).st = 3 → completes (.joinWake t) s fun u => u = { s with eng := u.eng } ∧ woken s u t rd (s.thread c).exit ∧ u.thread c = {} ∧ othersKeep s u [t.val, c]) ∧
    ((s.thread c).st ≠ 3 → exec (.joinWake t) s = .next s))

/-- What the units do for threads (R144, R170, R329, R351, R353, R357, R410, R412, R415 to R418): a held claim is reported once a period and never taken away; the wait-cycle detector latches its snapshot; TLOOK waits for its answer or 615 ns, and writes
its result on a hit; BALLOC takes a charged buffer, waits or returns 0; BFREE releases the engine reference; PRET and PSEND hand a frame to a pipeline's return queue or wait for room in it. -/
def Obligations.UnitsServeThreads : Prop :=
  (∀ (s : State) (c : Fin 16384) (k : Fin 16), s.works 0xC0 (islSW (c.val / 256)) = true →
    let w := c.val / 256
    let x := (s.chan c).slot k
    let late (since : Nat) : Prop := x.told ≠ some since ∧ since + 1000 * max 1 (s.gf (F.ENG_CHCFG_HOLDLIM w (c.val % 256))) < s.now
    (∀ t0, x.st = 1 → (s.thread x.holder).stopped = some t0 →
      let since := max t0 x.claimedAt
      (late since → s.supChan w ≠ c.val → completes (.engChanHeld c k) s fun u =>
        (u.chan c).slot k = { x with told := some since } ∧ u.rd64 (R.ENG_CNT w 6) = (s.rd64 (R.ENG_CNT w 6) + 1) % 2 ^ 48 ∧
        (∃ l, reported s u (⟨0xC011, 2, 0xC000 + w, 0xC000 + w, []⟩ :: l)) ∧ u.thread x.holder = { s.thread x.holder with pend := (u.thread x.holder).pend } ∧
        (∀ i, i < 16 → ((s.chan (s.supChan w)).slot i).st = 0 → (∀ j, j < i → ((s.chan (s.supChan w)).slot j).st ≠ 0) →
          (u.chan (s.supChan w)).queue = (s.chan (s.supChan w)).queue ++ [i] ∧ ∃ w1 w2 : Nat, (u.chan (s.supChan w)).slot i = { st := 2, mem :=
            [2 + x.holder * 2 ^ 8 + c * 2 ^ 22 + w * 2 ^ 48, w1, w2, 0x1000000 + 0x100000 * w + 0xC0000 + 0x400 * (c.val % 256) + 0x40 * k, 0, 0, 0, 0] })) ∧
      (¬late since → exec (.engChanHeld c k) s = .next s)) ∧
    (x.st ≠ 1 ∨ (s.thread x.holder).stopped = none → exec (.engChanHeld c k) s = .next s)) ∧
  (∀ (s : State) (w : Fin 64), s.works 0xC0 (islSW w) = true →
    let due : Prop := s.cycleNow w = true ∧ tabGet (fun _ => false) s.eng.fired w.val = false ∧ tabGet (fun _ => 0) s.eng.changed w.val + 5120 ≤ s.now
    (due → completes (.engWaitCycle w) s fun u => (∀ i, i < 128 → u.rd64 (R.ENG_WCSNAP (w * 128 + i)) = (s.thread (w * 128 + i)).snapshot % 2 ^ 64) ∧
      u.rd64 (R.ENG_CNT w 9) = (s.rd64 (R.ENG_CNT w 9) + 1) % 2 ^ 48 ∧ (∃ l, reported s u (⟨0xC020, 2, 0xC000 + w.val, 0xC000 + w.val, []⟩ :: l)) ∧
      (∀ t, t ≠ s.supOf w → u.thread t = s.thread t) ∧
      (s.supWaits w = true → s.eng.skyq.length < 256 → ∃ w1 w2 : Nat, u.eng.skyq = s.eng.skyq ++ [[3 + w.val * 2 ^ 48, w1, w2, 0, 0, 0, 0, 0]] ∧ u.chans = s.chans)) ∧
    (¬due → exec (.engWaitCycle w) s = .next s)) ∧
  (∀ (s : State) (t : Fin 8192) (rd ra rb : Fin 32),
    let x := s.thread t
    let a := (x.g ra).toNat
    let ctl := (x.g rb).toNat
    let sw := swardOf t
    let w (r xb xop : Nat) : Nat := 0x30 * 2 ^ 26 + r * 2 ^ 21 + ra * 2 ^ 16 + xb * 2 ^ 11 + xop * 2 ^ 5
    let stops (c : Instr) (wd code addr : Nat) : Prop := completes c s fun u => raised s u t wd code addr 0 (excReport t code x.pc 0 (0xC000 + sw))
    let goes (u : State) (r : Nat) (v : DWord) : Prop := retires s u t r v (x.pc + 4) ∧ othersKeep s u [t]
    (s.issuing t (w rd rb 2) →
      let plain := (place t a).plain
      let refused : Prop := 2 ^ 9 ≤ ctl ∨ ctl % 4 = 3 ∨ (ctl % 4 = 0 ∧ s.kdefTable (bitsOf ctl 2 6) ≠ 0)
      let remote := ctl % 4 == 0 && s.kdefRemote (bitsOf ctl 2 6)
      let key := s.lookupKey (place t a) (ctl % 4)
      (a % 64 ≠ 0 → stops (.tlook t rd ra rb) (w rd rb 2) 2 a) ∧
      (a % 64 = 0 → plain = false → stops (.tlook t rd ra rb) (w rd rb 2) 3 a) ∧
      (a % 64 = 0 → plain = true → refused → completes (.tlook t rd ra rb) s fun u => engFrame s u t ∧ goes u rd 4) ∧
      (a % 64 = 0 → plain = true → ¬refused → remote = false → completes (.tlook t rd ra rb) s fun u => u = { s with eng := u.eng } ∧ blocked s u t (.tlook rd a ctl key s.now none)) ∧
      (a % 64 = 0 → plain = true → ¬refused → remote = true →
        let r := (s.issued t).askMember (s.lgf (F.TBL_KDEFCTL_MEMBER (bitsOf ctl 2 6))) (bitsOf ctl 2 6) key
        exec (.tlook t rd ra rb) s = .next (match r.1 with | some q => r.2.waits t (.tlook rd a ctl key s.now (some q)) | none => r.2.ends t rd 0))) ∧
    (s.issuing t (w rd 0 13) →
      let p := poolFor a
      let z := poolSize p
      let r := 1044 + sw
      let charge : Prop := s.rdN (R.BPM_QUOTAUSE r) * 256 + z ≤ s.rdN (R.BPM_QUOTA r) * 1024
      let found : Prop := ∃ k h i, (k, h) ∈ s.partsFor p false ∧ i < s.partCount k h ∧ s.bufFree (bufKey k h i) = true
      (a = 0 ∨ 65536 < a → stops (.balloc t rd ra) (w rd 0 13) 6 0) ∧
      (1 ≤ a → a ≤ 65536 →
        (¬charge → completes (.balloc t rd ra) s fun u => goes u rd 0 ∧ u = { s with eng := u.eng, regs := u.regs, flt := u.flt } ∧ u.rd64 (R.BPM_CNT 2) = (s.rd64 (R.BPM_CNT 2) + 1) % 2 ^ 48 ∧
          reported s u [⟨0x5001, 0, 0x5000, 0xC000 + sw, [0, 0, 0, 0, 0, 0, 0]⟩]) ∧
        (charge → found → completes (.balloc t rd ra) s fun u => ∃ key, s.bufFree key = true ∧ key < 2 ^ 24 ∧ inHbm key = false ∧ a ≤ poolSize (poolOf key) ∧
          u.buf key = { s.buf key with alloc := true, owner := r, refs := 1, eng := some (s.gf (F.BPM_SWGRP_GROUP sw)), vlen := 0, data := [], freedAt := none } ∧
          goes u rd (BitVec.ofNat 64 (key + (s.buf key).gen * 2 ^ 24 + r * 2 ^ 32)) ∧ (∀ h, h % 2 ^ 24 ≠ key → u.buf h = s.buf h) ∧
          u.rdN (R.BPM_QUOTAUSE r) = (s.rdN (R.BPM_QUOTAUSE r) + poolSize (poolOf key) / 256) % 2 ^ 32 ∧ u.rd64 (R.BPM_CNT 0) = (s.rd64 (R.BPM_CNT 0) + 1) % 2 ^ 48) ∧
        (charge → ¬found → completes (.balloc t rd ra) s fun u => blocked s u t (.balloc rd a s.now) ∧ u.bufs = s.bufs ∧ u.rd64 (R.BPM_CNT 3) = (s.rd64 (R.BPM_CNT 3) + 1) % 2 ^ 48))) ∧
    (s.issuing t (w 0 0 14) →
      (s.handleOkEng a sw = false → stops (.bfree t ra) (w 0 0 14) 6 0) ∧
      (s.handleOkEng a sw = true →
        let b := s.buf a
        (2 ≤ b.refs → completes (.bfree t ra) s fun u => goes u 0 0 ∧ u.buf a = { b with eng := none, refs := b.refs - 1 } ∧ ∀ h, h % 2 ^ 24 ≠ a % 2 ^ 24 → u.buf h = s.buf h) ∧
        (b.refs ≤ 1 → completes (.bfree t ra) s fun u => goes u 0 0 ∧ u.buf a = { gen := if b.gen < 255 then b.gen + 1 else 1, freedAt := some s.now } ∧
          (∀ h, h % 2 ^ 24 ≠ a % 2 ^ 24 → u.buf h = s.buf h) ∧ u.rdN (R.BPM_QUOTAUSE b.owner) = s.rdN (R.BPM_QUOTAUSE b.owner) - poolSize (poolOf a) / 256 ∧
          u.rd64 (R.BPM_CNT 1) = (s.rd64 (R.BPM_CNT 1) + 1) % 2 ^ 48))) ∧
    (let len := bitsOf ctl 16 14;
      let wide : Prop := 2 ^ 30 ≤ ctl ∨ bitsOf ctl 8 8 ≠ 0
      (s.issuing t (w 0 rb 15) →
        let bad : Prop := wide ∨ bitsOf ctl 6 2 ≠ 0 ∨ (len ≠ 0 ∧ (len < 14 ∨ 16380 < len))
        (bad → stops (.pret t ra rb) (w 0 rb 15) 1 0) ∧
        (¬bad → s.handleOkEng a sw = false ∨ s.punted a = none → stops (.pret t ra rb) (w 0 rb 15) 6 0) ∧
        ∀ k copy revoked, ¬bad → s.handleOkEng a sw = true → s.punted a = some (k, copy, revoked) →
          let n := if len = 0 then k.bytes.length else len
          let room : Prop := (s.pipe k.pipe).ret.length < 64 ∧ tabGet (fun _ => []) s.eng.retq k.pipe = []
          (poolSize (poolOf a) < 128 + n → stops (.pret t ra rb) (w 0 rb 15) 6 0) ∧
          (128 + n ≤ poolSize (poolOf a) →
            (¬room → completes (.pret t ra rb) s fun u => u = { s with eng := u.eng } ∧ blocked s u t (.pret a ctl) ∧
              tabGet (fun _ => []) u.eng.retq k.pipe = tabGet (fun _ => []) s.eng.retq k.pipe ++ [t.val]) ∧
            (room → copy = true → completes (.pret t ra rb) s fun u => goes u 0 0 ∧ (u.buf a).eng = none ∧ u.rd64 (R.ENG_CNT sw 12) = (s.rd64 (R.ENG_CNT sw 12) + 1) % 2 ^ 48 ∧ u.pipes = s.pipes) ∧
            (room → copy = false → revoked = false → k.pass < 3 → completes (.pret t ra rb) s fun u => goes u 0 0 ∧ u.rd64 (R.ENG_CNT sw 10) = (s.rd64 (R.ENG_CNT sw 10) + 1) % 2 ^ 48 ∧
              (u.pipe k.pipe).ret = (s.pipe k.pipe).ret ++ [{ k with bytes := s.bufRead a 128 n, buf := some a, profile := ctl % 64, pass := k.pass + 1 }] ∧
              u.buf a = { s.buf a with eng := none, vlen := 128 + n } ∧ u.punted a = none) ∧
            (room → copy = false → revoked = true → k.pipe < 4 → k.home = none → k.send = none → k.xref = none → completes (.pret t ra rb) s fun u => (u.thread t).pc = x.pc + 4 ∧ u.rd64 (R.CLS_CNT k.pipe 14) = (s.rd64 (R.CLS_CNT k.pipe 14) + 1) % 2 ^ 48 ∧ u.punted a = none))) ∧
      (s.issuing t (w 0 rb 16) →
        let p := bitsOf ctl 6 2
        let bad : Prop := wide ∨ len < 14 ∨ 16380 < len
        let room : Prop := (s.pipe p).ret.length < 64 ∧ tabGet (fun _ => []) s.eng.retq p = []
        (bad → stops (.psend t ra rb) (w 0 rb 16) 1 0) ∧
        (¬bad → s.handleOkEng a sw = false ∨ poolSize (poolOf a) < 128 + len → stops (.psend t ra rb) (w 0 rb 16) 6 0) ∧
        (¬bad → s.handleOkEng a sw = true → 128 + len ≤ poolSize (poolOf a) →
          (¬room → completes (.psend t ra rb) s fun u => u = { s with eng := u.eng } ∧ blocked s u t (.psend a ctl) ∧
            tabGet (fun _ => []) u.eng.retq p = tabGet (fun _ => []) s.eng.retq p ++ [t.val]) ∧
          (room → completes (.psend t ra rb) s fun u => goes u 0 0 ∧ u.rd64 (R.ENG_CNT sw 11) = (s.rd64 (R.ENG_CNT sw 11) + 1) % 2 ^ 48 ∧
            (u.pipe p).ret = (s.pipe p).ret ++ [{ bytes := s.bufRead a 128 len, buf := some a, pipe := p, profile := ctl % 64 }] ∧ u.buf a = { s.buf a with eng := none, vlen := 128 + len }))))) ∧
  (∀ (s : State) (t : Fin 8192) (rd : Nat), s.works 0xC0 (islSW (swardOf t)) = true → (s.thread t).st = 2 →
    let x := s.thread t
    (∀ area ctl key at_, x.wait = .tlook rd area ctl key at_ none →
      (at_ + 615 ≤ s.now → exec (.tlookAnswer t) s = .next s) ∧
      (s.now < at_ + 615 →
        (∀ l loc, (s.engSearch ctl key).1 = some (l, loc) → completes (.tlookAnswer t) s fun u => woken s u t rd (BitVec.ofNat 64 (1 + loc * 2 ^ 32)) ∧ othersKeep s u [t] ∧ l.length = 32 ∧
          (∀ m, place t (area + 32) = .scratch m → memRead (fun _ => 0) u.eng.scratch m 32 = l ∧ u.eng.smem = s.eng.smem ∧ ∀ i, i < m ∨ m + 32 ≤ i → tabGet (fun _ => 0) u.eng.scratch i = tabGet (fun _ => 0) s.eng.scratch i) ∧
          (∀ m, place t (area + 32) = .data m → memRead (fun _ => 0) u.eng.smem m 32 = l ∧ u.eng.scratch = s.eng.scratch ∧ ∀ i, i < m ∨ m + 32 ≤ i → tabGet (fun _ => 0) u.eng.smem i = tabGet (fun _ => 0) s.eng.smem i)) ∧
        ((s.engSearch ctl key).1 = none → completes (.tlookAnswer t) s fun u => woken s u t rd 0 ∧ othersKeep s u [t] ∧ u.eng.scratch = s.eng.scratch ∧ u.eng.smem = s.eng.smem) ∧
        (∀ e, ctl % 4 = 0 → (s.hLookup key (bitsOf ctl 2 6)).1 = some e → (s.engSearch ctl key).1 =
          some (fitBytes 32 (((List.range 6).map fun i => ((s.hLookup key (bitsOf ctl 2 6)).2.hEnt e).getD (9 + i) 0).flatMap fun v => leBytes 4 v), locWord e)) ∧
        (∀ i r, ctl % 4 = 1 → (s.tbl.lpm.findIdx? fun r => rowMatches r key) = some i → s.tbl.lpm[i]? = some r →
          (s.engSearch ctl key).1 = some (fitBytes 32 (leBytes 4 (r.2.2 % 2 ^ 32) ++ leBytes 4 (r.2.2 / 2 ^ 32)), i)))) ∧
    (∀ area ctl key at_ far, x.wait = .tlook rd area ctl key at_ far →
      (s.now < at_ + 615 → exec (.tlookTimeout t) s = .next s) ∧
      (at_ + 615 ≤ s.now → far = none → completes (.tlookTimeout t) s fun u => u = { s with eng := u.eng } ∧ woken s u t rd 2 ∧ othersKeep s u [t]) ∧
      (at_ + 615 ≤ s.now → far ≠ none → completes (.tlookTimeout t) s fun u => u = { s with eng := u.eng, regs := u.regs, flt := u.flt } ∧ woken s u t rd 2 ∧
        u.rd64 (R.TBL_CNT 9) = (s.rd64 (R.TBL_CNT 9) + 1) % 2 ^ 48 ∧ reported s u [⟨0x8006, 2, 0x8000, 0xF000, []⟩])) ∧
    (∀ n at_, x.wait = .balloc rd n at_ →
      let r := 1044 + swardOf t
      let charge : Prop := s.rdN (R.BPM_QUOTAUSE r) * 256 + poolSize (poolFor n) ≤ s.rdN (R.BPM_QUOTA r) * 1024
      let found : Prop := ∃ k h i, (k, h) ∈ s.partsFor (poolFor n) false ∧ i < s.partCount k h ∧ s.bufFree (bufKey k h i) = true
      (¬charge → completes (.ballocGrant t) s fun u => woken s u t rd 0 ∧ u.bufs = s.bufs) ∧
      (charge → found → completes (.ballocGrant t) s fun u => ∃ key, s.bufFree key = true ∧ key < 2 ^ 24 ∧
        u.buf key = { s.buf key with alloc := true, owner := r, refs := 1, eng := some (s.gf (F.BPM_SWGRP_GROUP (swardOf t))), vlen := 0, data := [], freedAt := none } ∧
        woken s u t rd (BitVec.ofNat 64 (key + (s.buf key).gen * 2 ^ 24 + r * 2 ^ 32)) ∧ othersKeep s u [t]) ∧
      (charge → ¬found → exec (.ballocGrant t) s = .next s) ∧
      (at_ + 1000 * max 1 (s.gf F.BPM_CFG_ALLOCTMO) ≤ s.now → completes (.ballocTimeout t) s fun u => u = { s with eng := u.eng } ∧ woken s u t rd 0 ∧ othersKeep s u [t]) ∧
      (s.now < at_ + 1000 * max 1 (s.gf F.BPM_CFG_ALLOCTMO) → exec (.ballocTimeout t) s = .next s))) ∧
  (∀ (s : State) (p : Fin 4) (t : Nat) (rest : List Nat), s.works 0x71 (islPP p) = true → tabGet (fun _ => []) s.eng.retq p.val = t :: rest → (s.thread t).st = 2 →
    (64 ≤ (s.pipe p).ret.length → exec (.returnQueueAccept p) s = .next s) ∧
    (∀ h ctl, (s.pipe p).ret.length < 64 → (s.thread t).wait = .psend h ctl → bitsOf ctl 6 2 = p.val → s.handleOkEng h (swardOf t) = true →
      completes (.returnQueueAccept p) s fun u => woken s u t 0 0 ∧ othersKeep s u [t] ∧ tabGet (fun _ => []) u.eng.retq p.val = rest ∧
        (u.pipe p).ret = (s.pipe p).ret ++ [{ bytes := s.bufRead h 128 (bitsOf ctl 16 14), buf := some h, pipe := p, profile := ctl % 64 }]) ∧
    (∀ h ctl, (s.pipe p).ret.length < 64 → (s.thread t).wait = .psend h ctl ∨ (s.thread t).wait = .pret h ctl → s.handleOkEng h (swardOf t) = false →
      completes (.returnQueueAccept p) s fun u => woken s u t 0 0 ∧ tabGet (fun _ => []) u.eng.retq p.val = rest ∧ u.rd64 (R.BPM_CNT 10) = (s.rd64 (R.BPM_CNT 10) + 1) % 2 ^ 48 ∧
        reported s u [⟨0x5003, 0, 0x5000, 0xC000 + swardOf t, []⟩]))

/-- The movers (R422 to R431): MOVE answers an acceptance code, takes a line and a reference to each buffer, or waits; a waiting MOVE is judged again when a line is free; a commit checks the channel's set and puts it into force at an
idle channel or the next burst start; a burst starts in order, moves exactly its bytes, and ends with its stamp, record, event and counts. -/
def Obligations.MoversMoveBursts : Prop :=
  (∀ (s : State) (t : Fin 8192) (rd ra rb : Fin 32),
    let x := s.thread t
    let a := (x.g ra).toNat
    let c := (x.g rb).toNat
    let sw := swardOf t
    let w : Nat := 0x30 * 2 ^ 26 + rd * 2 ^ 21 + ra * 2 ^ 16 + rb * 2 ^ 11 + 12 * 2 ^ 5
    let stops (code addr : Nat) : Prop := completes (.move t rd ra rb) s fun u => raised s u t w code addr 0 (excReport t code x.pc 0 (0xC000 + sw))
    let q := (List.range 16).map fun i => ofLe (((s.plainRead (place t a) 64).drop (4 * i)).take 4)
    let code := s.moveCode sw c q
    let plain := (place t a).plain
    s.issuing t w →
      (256 ≤ c → stops 1 0) ∧ (c < 256 → a % 64 ≠ 0 → stops 2 a) ∧ (c < 256 → a % 64 = 0 → plain = false → stops 3 a) ∧
      (c < 256 → a % 64 = 0 → plain = true →
        (224 ≤ c ∨ s.lgb (F.MOV_CH_EN c) = false ∨ s.lgf (F.MOV_CH_GROUP c) ≠ s.gf (F.BPM_SWGRP_GROUP sw) → code = 1) ∧
        (code ≠ 0 → completes (.move t rd ra rb) s fun u => engFrame s u t ∧ retires s u t rd (BitVec.ofNat 64 code) (x.pc + 4)) ∧
        (code = 0 → s.lineFree c = true → tabGet (fun _ => []) s.mov.waiting c = [] → completes (.move t rd ra rb) s fun u => retires s u t rd 0 (x.pc + 4) ∧ othersKeep s u [t] ∧
          (∃ l, l < 128 ∧ (∀ o ∈ s.mov.bursts, o.line ≠ l) ∧ u.mov.bursts = s.mov.bursts ++ [{ line := l, chan := c, thread := t, req := q }]) ∧
          (∀ h, (u.buf h).refs = (s.buf h).refs + ((reqBufs q).filter fun g => g % 2 ^ 24 == h % 2 ^ 24).length) ∧
          u = { s with eng := u.eng, mov := u.mov, bufs := u.bufs, regs := u.regs, free := u.free }) ∧
        (code = 0 → s.lineFree c = false ∨ tabGet (fun _ => []) s.mov.waiting c ≠ [] → completes (.move t rd ra rb) s fun u => blocked s u t (.move rd c q) ∧
          u.mov = { s.mov with waiting := u.mov.waiting } ∧ tabGet (fun _ => []) u.mov.waiting c = tabGet (fun _ => []) s.mov.waiting c ++ [t.val]))) ∧
  (∀ s : State, s.works 0x40 islSYS = true →
    let head (c t : Nat) (rest : List Nat) : Prop := c < 224 ∧ s.lineFree c = true ∧ tabGet (fun _ => []) s.mov.waiting c = t :: rest
    ((∀ c t rest, ¬head c t rest) → exec .moveAccept s = .next s) ∧
    ((∃ c t rest, head c t rest) → (∀ c t rest, head c t rest → (s.thread t).st = 2 ∧ ∃ rd d q, (s.thread t).wait = .move rd d q) →
      ∃ c t rest rd d q, head c t rest ∧ (s.thread t).wait = .move rd d q ∧ completes .moveAccept s fun u => tabGet (fun _ => []) u.mov.waiting c = rest ∧
        woken s u t rd (BitVec.ofNat 64 (s.moveCode (swardOf t) c q)) ∧ othersKeep s u [t] ∧
        (s.moveCode (swardOf t) c q ≠ 0 → u.mov.bursts = s.mov.bursts) ∧
        (s.moveCode (swardOf t) c q = 0 → ∃ l, l < 128 ∧ (∀ o ∈ s.mov.bursts, o.line ≠ l) ∧ u.mov.bursts = s.mov.bursts ++ [{ line := l, chan := c, thread := t, req := q }]))) ∧
  (∀ (s : State) (m : Master) (c : Fin 256), s.accepts m R.MOV_COMMIT = true →
    let hl := s.gf (F.MOV_CHHLOG_HLOG2SIZE c)
    let dl := s.gf (F.MOV_CHDLOG_DLOG2SIZE c)
    let db := s.rd64 (R.MOV_CHDBASE c) % 2 ^ 35
    let en := s.gb (F.MOV_CH_EN c)
    let bad (k : Nat) : Prop :=
      (k = 1 ∧ en = true ∧ s.gb (F.MOV_CH_HOSTEN c) = true ∧ (hl < 12 ∨ 48 < hl ∨ s.rd64 (R.MOV_CHHBASE c) % 2 ^ hl ≠ 0)) ∨
      (k = 2 ∧ en = true ∧ (dl < 12 ∨ 35 < dl ∨ db % 2 ^ dl ≠ 0 ∨ 2 ^ 35 < db + 2 ^ dl)) ∨
      (k = 3 ∧ en = true ∧ 513 < s.gf (F.MOV_CH_HFN c)) ∨ (k = 4 ∧ en = true ∧ s.gf (F.MOV_CH_MAXLINES c) = 0) ∨ (k = 5 ∧ 224 ≤ c.val)
    let idle : Prop := ∀ b ∈ s.mov.bursts, b.chan ≠ c.val
    let reg (u : State) : Prop := regsBut s u (fun o => o == R.MOV_COMMIT)
    s.gb F.MOV_COMMIT_PENDING = false →
      ((∃ k, bad k) → completes (.movCommit m c) s fun u => ∃ k, bad k ∧ u.gb F.MOV_COMMIT_ERR = true ∧ u.gf F.MOV_COMMIT_ERRKIND = k ∧ u.gb F.MOV_COMMIT_PENDING = false ∧ reg u ∧
        u = { s with regs := u.regs, flt := u.flt } ∧ reported s u [⟨0x4003, 0, 0x4000, 0x4000, []⟩]) ∧
      ((∀ k, ¬bad k) → idle → completes (.movCommit m c) s fun u => (∀ i, i < 9 → u.lrd (R.MOV_CH c + 4 * i) = s.rdN (R.MOV_CH c + 4 * i)) ∧
        (∀ o, regSpan (R.MOV_CH c) (R.MOV_CH c + 36) o = false → u.lrd o = s.lrd o) ∧ u.gb F.MOV_COMMIT_PENDING = false ∧ u.gf F.MOV_COMMIT_CH = c ∧ reg u ∧
        u = { s with regs := u.regs, live := u.live, mov := { s.mov with commit := none } }) ∧
      ((∀ k, ¬bad k) → ¬idle → completes (.movCommit m c) s fun u => u.gb F.MOV_COMMIT_PENDING = true ∧ u.gf F.MOV_COMMIT_CH = c ∧ reg u ∧
        u = { s with regs := u.regs, mov := { s.mov with commit := some c.val } })) ∧
  (∀ s : State, s.works 0x40 islSYS = true →
    (s.mov.commit = none → exec .movCommitApply s = .next s) ∧
    (∀ c, s.mov.commit = some c → (∃ b ∈ s.mov.bursts, b.chan = c) → s.nextBurst c = none → exec .movCommitApply s = .next s) ∧
    (∀ c, s.mov.commit = some c → c < 224 → (∀ b ∈ s.mov.bursts, b.chan ≠ c) → completes .movCommitApply s fun u => (∀ i, i < 9 → u.lrd (R.MOV_CH c + 4 * i) = s.rdN (R.MOV_CH c + 4 * i)) ∧
      u.mov = { s.mov with commit := none } ∧ u.gb F.MOV_COMMIT_PENDING = false)) ∧
  (∀ (s : State) (c : Fin 224), s.works 0x40 islSYS = true → s.mov.commit ≠ some c.val →
    (s.nextBurst c = none → exec (.burstStart c) s = .next s) ∧
    ∀ n, s.nextBurst c = some n →
      let b := s.burstSet n
      let q := n.req
      let f := s.fn b.host.1 b.host.2
      let badBuf : Prop := ∃ h ∈ reqBufs q, s.handleOk h = false
      let halted : Prop := (reqSrc q = 0 ∨ reqDst q = 0) ∧ (f.bme = false ∨ f.d3 = true ∨ s.inReset b.host.1 b.host.2 = true)
      let ends (e : Nat) : Prop := completes (.burstStart c) s fun u => u.mov.bursts = s.mov.bursts.filter (fun o => o.line != n.line) ∧
        u.rd64 (R.MOV_CNT c 0) = (s.rd64 (R.MOV_CNT c 0) + 1) % 2 ^ 48 ∧ u.rd64 (R.MOV_CNT c 2) = (s.rd64 (R.MOV_CNT c 2) + 1) % 2 ^ 48 ∧
        u.seqOf (0x4000 + c) = (s.seqOf (0x4000 + c) + 1) % 2 ^ 32 ∧ u.hbm = s.hbm ∧ u.eng.smem = s.eng.smem ∧
        ∃ l, reported s u ((if e = 1 then ⟨0x4001, 0, 0x4000, 0x5000, []⟩ else ⟨0x4001, 0, 0x4000, fnBlame b.host.1 b.host.2, fnDetail b.host.1 b.host.2⟩) :: l)
      (badBuf → ends 1) ∧ (¬badBuf → halted → ends 5) ∧
      (¬badBuf → ¬halted → s.sideFits c (reqSrc q) (reqSaddr q) (reqSoff q) (reqLen q) = true → s.sideFits c (reqDst q) (reqDaddr q) (reqDoff q) (reqLen q) = true →
        completes (.burstStart c) s fun u => ∃ data : List Byte,
          u.mov = { s.mov with bursts := s.mov.bursts.map fun o => if o.line = n.line then { b with data := data } else o } ∧ b.started = true ∧ b.req = q ∧
          b.host = (s.lgf (F.MOV_CH_HPORT c), s.lgf (F.MOV_CH_HFN c)) ∧
          (reqSrc q = 1 → data = s.hbmRead (s.lrd64 (R.MOV_CHDBASE c) % 2 ^ 35 + reqSaddr q) (reqLen q)) ∧
          (reqSrc q = 2 → data = s.bufRead (reqSaddr q) (reqSoff q) (reqLen q)) ∧
          (reqSrc q = 3 → data = memRead (fun _ => 0) s.eng.smem (swardOf n.thread * 2 ^ 20 + reqSaddr q) (reqLen q)) ∧
          u.out = (if reqSrc q = 0 then ((readSplit f.mrrs (s.lrd64 (R.MOV_CHHBASE c) + reqSaddr q) (reqLen q)).map fun e => OutEv.hostRead b.host.1 b.host.2 0 e.1 e.2).reverse else []) ++ s.out ∧
          u = { s with mov := u.mov, regs := u.regs, out := u.out })) ∧
  (∀ (s : State) (line : Fin 128) (data : Option (List Byte)), s.works 0x40 islSYS = true →
    ((∀ b ∈ s.mov.bursts, b.line = line.val → b.started = false) → exec (.burstComplete line data) s = .next s) ∧
    ∀ b, (s.mov.bursts.find? fun b => b.line == line.val && b.started) = some b → b.chan < 224 → (reqRec b.req = false) → reqBufs b.req = [] → (s.thread b.thread).st = 1 →
      let q := b.req
      let l := fitBytes (reqLen q) (if reqSrc q = 0 then data.getD [] else b.data)
      let st : Stamp := ⟨s.counter islSYS / 256 * 256, s.islandBound islSYS, 0x4000 + b.chan, s.seqOf (0x4000 + b.chan)⟩
      let ends (u : State) (e : Nat) : Prop := u.mov.bursts = s.mov.bursts.filter (fun o => o.line != b.line) ∧ u.seqOf st.domain = (st.seq + 1) % 2 ^ 32 ∧
        u.rd64 (R.MOV_CNT b.chan 0) = (s.rd64 (R.MOV_CNT b.chan 0) + 1) % 2 ^ 48 ∧
        (e = 0 → u.rd64 (R.MOV_CNT b.chan 1) = (s.rd64 (R.MOV_CNT b.chan 1) + reqLen q) % 2 ^ 48 ∧ u.flt = s.flt) ∧
        (e ≠ 0 → u.rd64 (R.MOV_CNT b.chan 2) = (s.rd64 (R.MOV_CNT b.chan 2) + 1) % 2 ^ 48) ∧
        (u.thread b.thread).pend = (if reqEvt q then (s.thread b.thread).pend ||| 2 ^ 30 else (s.thread b.thread).pend)
      let put (m m' : Tab Byte) : Prop := ∀ k, tabGet (fun _ => 0) m' k = if b.dst ≤ k ∧ k < b.dst + reqLen q then l.getD (k - b.dst) 0 else tabGet (fun _ => 0) m k
      (b.aborted = true → completes (.burstComplete line data) s fun u => ends u 0x0D ∧ u.hbm = s.hbm ∧ u.eng.smem = s.eng.smem ∧ u.out = s.out) ∧
      (b.aborted = false → reqSrc q = 0 → data = none → completes (.burstComplete line data) s fun u => ends u 3 ∧ u.hbm = s.hbm ∧ u.eng.smem = s.eng.smem ∧ u.out = s.out) ∧
      (b.aborted = false → (reqSrc q = 0 → data ≠ none) → (reqSrc q ≠ 0 → b.data.length = reqLen q) →
        (reqDst q = 1 → completes (.burstComplete line data) s fun u => ends u 0 ∧ put s.hbm u.hbm ∧ u.eng.smem = s.eng.smem ∧ u.out = s.out) ∧
        (reqDst q = 3 → completes (.burstComplete line data) s fun u => ends u 0 ∧ put s.eng.smem u.eng.smem ∧ u.hbm = s.hbm ∧ u.out = s.out) ∧
        (reqDst q = 0 → s.tenantOf b.host.1 b.host.2 = none → completes (.burstComplete line data) s fun u => ends u 0 ∧ u.out = (s.fnWrite b.host.1 b.host.2 b.dst l).out ∧ u.eng.smem = s.eng.smem))) ∧
  (∀ (s : State) (line : Fin 128) (data : Option (List Byte)) (b : BurstSt) (i : Nat), s.works 0x40 islSYS = true → (s.mov.bursts.find? fun b => b.line == line.val && b.started) = some b →
    reqRec b.req = true → b.aborted = true → reqBufs b.req = [] → b.rec_ < 16384 →
    i < 16 → ((s.chan b.rec_).slot i).st = 0 → (∀ j, j < i → ((s.chan b.rec_).slot j).st ≠ 0) →
    let st : Stamp := ⟨s.counter islSYS / 256 * 256, s.islandBound islSYS, 0x4000 + b.chan, s.seqOf (0x4000 + b.chan)⟩
    completes (.burstComplete line data) s fun u => (u.chan b.rec_).queue = (s.chan b.rec_).queue ++ [i] ∧
      ((u.chan b.rec_).slot i).mem = wordsOfBytes 8 (fitBytes 64 (stampBytes st 0x30 ++ [0x0D, byte b.line] ++ leBytes 2 (reqLen b.req) ++ leBytes 4 (b.req.getD 7 0) ++ leBytes 2 b.thread)))

/-! ## Security associations and transports -/

/-- The crypto and transport commands (R364, R365, R368, R376 to R378, R381 to R386, R401): each is answered with its status; CREATE_SA stores a VALID association from its parameter block, DESTROY_SA makes it FREE, QUERY_SA writes its record and
UPDATE_SA the fields that it selects; CREATE_XPT takes the lowest FREE context and binds its queues, DESTROY_XPT frees it, QUERY_XPT writes its record and MODIFY_XPT the fields that it selects. The order of the checks that need the block is the model's (NOTES.md). -/
def Obligations.CryptoAndTransportCommandsAnswer : Prop :=
  (∀ (s : State) (g : Fin 131072) (x : CmdCtx),
    let b := s.begun x
    let i := x.arg 5
    let zero (k : Nat) : Prop := ∀ j, k ≤ j → j < 16 → x.arg j = 0
    let only (u : State) (v : SaSt) : Prop := u.sa i = v ∧ (∀ j, j ≠ i → u.sa j = b.sa j) ∧ u = { b with sec := { b.sec with sas := u.sec.sas }, regs := u.regs } ∧ regsBut b u (fun o => o == R.CRY_STAT)
    (∀ block, s.takes g 0x40 x →
      (2097152 ≤ i ∨ x.arg 6 % 64 ≠ 0 ∨ ¬zero 8 → refusedWith (.createSa g block) s x 0x81) ∧
      (i < 2097152 → x.arg 6 % 64 = 0 → zero 8 →
        ((s.sa i).st ≠ 0 → refusedWith (.createSa g block) s x 0x90) ∧
        ((s.sa i).st = 0 →
          (block = none → refusedWith (.createSa g block) s x 0x94) ∧
          ∀ l, block = some l →
            let w := words32 32 l
            let owner := bitsOf (w.getD 0 0) 16 11
            let mine : Prop := owner = 0x7FF ∨ (owner < 1024 ∧ s.gf (F.FNM_TSTAT_STATE owner) ≠ 0 ∧ s.gf (F.FNM_TSTAT_PORT owner) = x.port)
            let full : Prop := owner ≠ 0x7FF ∧ s.tArg owner 10 % 2 ^ 22 ≤ s.saCount owner
            (¬mine → refusedWith (.createSa g block) s x 0x82) ∧ (mine → full → refusedWith (.createSa g block) s x 0x92) ∧
            (mine → ¬full → saBad w = true → refusedWith (.createSa g block) s x 0x93) ∧
            (mine → ¬full → saBad w = false → answered (.createSa g block) s x 0 0 0 0 0 [] fun u => only u { st := 1, w := w, seq := w.getD 4 0 + w.getD 5 0 * 2 ^ 32 })))) ∧
    (let a := s.sa i;
      (∀ op k (c : Instr), (op, k, c) = (0x41, 6, .destroySa g) ∨ (op, k, c) = (0x42, 6, .querySa g) ∨ (op, k, c) = (0x43, 13, .updateSa g) → s.takes g op x →
        (2097152 ≤ i ∨ ¬zero k → refusedWith c s x 0x81) ∧ (i < 2097152 → zero k → a.st = 0 → refusedWith c s x 0x91)) ∧
      (i < 2097152 → a.st ≠ 0 →
        (s.takes g 0x41 x → zero 6 → answered (.destroySa g) s x 0 0 0 0 0 [] fun u => only u {}) ∧
        (s.takes g 0x42 x → zero 6 →
          (x.arg 4 % 65536 < 64 → refusedWith (.querySa g) s x 0x81) ∧
          (64 ≤ x.arg 4 % 65536 →
            let n := if a.proto = 4 then 0 else a.seq
            answered (.querySa g) s x 0 0 0 0 0 (bytesOfWords [i + a.proto * 2 ^ 21 + b2n a.outbound * 2 ^ 25 + a.st * 2 ^ 26 + a.alg * 2 ^ 28, a.owner, n % 2 ^ 32, n / 2 ^ 32,
              a.pkts % 2 ^ 32, a.pkts / 2 ^ 32, a.bytes % 2 ^ 32, a.bytes / 2 ^ 32, a.auth, a.rep, a.word 1, 0, 0, 0, 0, 0]) (· = b))) ∧
        (s.takes g 0x43 x → zero 13 → a.w.length = 32 →
          let sel := x.arg 6
          let win := bitsOf sel 16 16
          let esp : Prop := a.proto = 1 ∨ a.proto = 2
          let hard := if bitAt sel 3 then x.arg 11 + x.arg 12 * 2 ^ 32 else a.word 11 + a.word 12 * 2 ^ 32
          let most := if a.proto = 4 ∨ a.ext = true then 2 ^ 64 - 1 else 2 ^ 32
          let limit := if hard = 0 then most else min hard most
          let bad : Prop := (bitAt sel 0 = true ∧ esp ∧ (1024 < win ∨ win % 64 ≠ 0)) ∨ (bitAt sel 1 = true ∧ x.arg 8 ≠ 0) ∨ (bitAt sel 3 = true ∧ a.outbound = true ∧ a.proto ≠ 4 ∧ limit ≤ a.seq)
          (bitsOf sel 4 12 ≠ 0 → refusedWith (.updateSa g) s x 0x81) ∧ (bitsOf sel 4 12 = 0 → bad → refusedWith (.updateSa g) s x 0x93) ∧
          (bitsOf sel 4 12 = 0 → ¬bad → answered (.updateSa g) s x 0 0 0 0 0 [] fun u =>
            (∀ k, (u.sa i).word k = if k = 2 ∧ bitAt sel 0 = true then putBits (a.word 2) 16 16 win else if k = 3 ∧ bitAt sel 1 = true then x.arg 7
              else if (k = 9 ∨ k = 10) ∧ bitAt sel 2 = true then x.arg k else if (k = 11 ∨ k = 12) ∧ bitAt sel 3 = true then x.arg k else a.word k) ∧
            u.sa i = { a with w := (u.sa i).w, seen := (u.sa i).seen } ∧ (∀ j, j ≠ i → u.sa j = b.sa j) ∧ regsBut b u (fun o => o == R.CRY_STAT)))))) ∧
  (∀ (s : State) (g : Fin 131072) (x : CmdCtx), tabWf (fun _ => ({} : XptSt)) s.sec.xpts = true →
    let b := s.begun x
    let p := x.port
    let f := x.target
    let i := x.arg 5
    let zero (k : Nat) : Prop := ∀ j, k ≤ j → j < 16 → x.arg j = 0
    (∀ block, s.takes g 0x60 x →
      (x.arg 6 % 64 ≠ 0 ∨ i ≠ 0 ∨ ¬zero 8 → refusedWith (.createXpt g block) s x 0x81) ∧
      (x.arg 6 % 64 = 0 → i = 0 → zero 8 →
        (2 ≤ f → s.tenantOf p f = none → refusedWith (.createXpt g block) s x 0x80) ∧
        ∀ o, (if f < 2 then some 0x7FF else s.tenantOf p f) = some o →
          let full : Prop := if o = 0x7FF then s.rdN (R.FNM_POOL p 4) ≠ 0 ∧ s.rdN (R.FNM_POOL p 4) ≤ s.rdN (R.FNM_POOLUSE p 4) else s.tArg o 11 % 2 ^ 21 ≤ s.xptOwned o
          let free (k : Nat) : Prop := k < 1048575 ∧ (s.xpt k).st = 0 ∧ ∀ j, j < k → (s.xpt j).st ≠ 0
          (full ∨ (∀ k, ¬free k) → refusedWith (.createXpt g block) s x 0x90) ∧
          ∀ k, ¬full → free k →
            (block = none → refusedWith (.createXpt g block) s x 0x93) ∧
            ∀ l, block = some l →
              let w := words32 32 l
              let typ := bitsOf (w.getD 0 0) 0 4
              let sq := if typ ≤ 3 then b.bindable p f (bitsOf (w.getD 16 0) 0 13) 0 else none
              let rq := if typ ≤ 2 then b.bindable p f (bitsOf (w.getD 16 0) 16 13) 1 else none
              let unbound : Prop := (typ ≤ 3 ∧ sq = none) ∨ (typ ≤ 2 ∧ rq = none)
              (xptBad w = true ∨ unbound → refusedWith (.createXpt g block) s x 0x92) ∧
              (xptBad w = false → ¬unbound → answered (.createXpt g block) s x 0 k (if typ ≤ 2 then s.gf F.XPT_CFG_QPNBASE * 2 ^ 20 + k else if typ = 5 then k * 256 + bitsOf (w.getD 22 0) 0 8 else 0) 0 0 [] fun u =>
                let y := u.xpt k
                y.st = 1 ∧ y.port = p ∧ y.fn = f ∧ y.owner = o ∧ y.w = w ∧ y.sq = sq ∧ y.rq = rq ∧ y.reqs = [] ∧ y.win = [] ∧
                (typ ≠ 3 → y.psn = w.getD 19 0 ∧ y.epsn = w.getD 20 0 ∧ y.msn = w.getD 23 0) ∧ (typ = 3 → y.psn = w.getD 17 0 ∧ y.rcv = w.getD 18 0 ∧ y.wnd = w.getD 19 0) ∧
                (∀ j, j ≠ k → u.xpt j = s.xpt j) ∧ (∀ q, (u.q q).xpt = if some q = sq ∨ some q = rq then some k else (b.q q).xpt)))) ∧
    (let c := s.xpt i;
      let mine : Prop := c.st ≠ 0 ∧ c.port = p ∧ c.fn = f
      (∀ op k (e : Instr), (op, k, e) = (0x61, 6, .destroyXpt g) ∨ (op, k, e) = (0x62, 6, .queryXpt g) ∨ (op, k, e) = (0x63, 10, .modifyXpt g) → s.takes g op x →
        (2 ^ 20 ≤ i ∨ ¬zero k → refusedWith e s x 0x81) ∧ (i < 2 ^ 20 → zero k → ¬mine → refusedWith e s x 0x91)) ∧
      (i < 2 ^ 20 → mine →
        (s.takes g 0x61 x → zero 6 →
          let running : Prop := ∃ q, (c.sq = some q ∨ c.rq = some q) ∧ (b.q q).st ≠ 3
          (running → refusedWith (.destroyXpt g) s x 0x84) ∧
          (¬running → c.reqs = [] → answered (.destroyXpt g) s x 0 0 0 0 0 [] fun u => u.xpt i = {} ∧ (∀ j, j ≠ i → u.xpt j = s.xpt j) ∧
            ∀ q, u.q q = if c.sq = some q ∨ c.rq = some q then { b.q q with xpt := none } else b.q q)) ∧
        (s.takes g 0x62 x → zero 6 →
          (x.arg 4 % 65536 < 128 → refusedWith (.queryXpt g) s x 0x81) ∧ (128 ≤ x.arg 4 % 65536 → answered (.queryXpt g) s x 0 0 0 0 0 (bytesOfWords (c.record i true)) (· = b))) ∧
        (s.takes g 0x63 x → zero 10 → c.w.length = 32 →
          let sel := x.arg 6
          let v (k lo n : Nat) : Nat := bitsOf (x.arg k) lo n
          let stray : Prop := x.arg 7 ≠ (if bitAt sel 0 then v 7 0 3 else 0) + (if bitAt sel 1 then v 7 3 3 * 8 else 0) + (if bitAt sel 2 then v 7 16 16 * 2 ^ 16 else 0) ∨
            x.arg 8 ≠ (if bitAt sel 3 then v 8 16 16 * 2 ^ 16 else 0) ∨ x.arg 9 ≠ (if bitAt sel 4 then v 9 16 4 * 2 ^ 16 else 0)
          let low : Prop := (bitAt sel 2 = true ∧ v 7 16 16 = 0) ∨ (bitAt sel 3 = true ∧ v 8 16 16 < 100) ∨ (bitAt sel 4 = true ∧ v 9 16 4 = 0)
          let wrong : Prop := (sel % 8 ≠ 0 ∧ c.typ ≠ 1 ∧ c.typ ≠ 2) ∨ (8 ≤ sel ∧ c.typ ≠ 3)
          let bad : Prop := sel = 0 ∨ 32 ≤ sel ∨ stray ∨ low ∨ wrong
          (c.st ≠ 1 → c.st ≠ 2 → refusedWith (.modifyXpt g) s x 0x84) ∧ (c.st = 1 ∨ c.st = 2 → bad → refusedWith (.modifyXpt g) s x 0x92) ∧
          (c.st = 1 ∨ c.st = 2 → ¬bad → answered (.modifyXpt g) s x 0 0 0 0 0 [] fun u =>
            let y := u.xpt i
            let new (bit : Nat) (k lo n word : Nat) : Nat := if bitAt sel bit then v k lo n else bitsOf (c.word word) lo n
            y = { c with w := y.w } ∧ (∀ k, k ≠ 18 → k ≠ 22 → k ≠ 23 → y.word k = c.word k) ∧
            bitsOf (y.word 18) 0 3 = new 0 7 0 3 18 ∧ bitsOf (y.word 18) 3 3 = new 1 7 3 3 18 ∧ bitsOf (y.word 18) 16 16 = new 2 7 16 16 18 ∧
            bitsOf (y.word 22) 16 16 = new 3 8 16 16 22 ∧ bitsOf (y.word 23) 16 4 = new 4 9 16 4 23 ∧ bitsOf (y.word 18) 6 10 = bitsOf (c.word 18) 6 10 ∧
            bitsOf (y.word 22) 0 16 = bitsOf (c.word 22) 0 16 ∧ bitsOf (y.word 23) 0 16 = bitsOf (c.word 23) 0 16 ∧ ∀ j, j ≠ i → u.xpt j = s.xpt j)))))

/-- Transports (R387 to R390, R393 to R396, R399): a packet that reaches no ACTIVE context of its own is counted and dropped, and one with a wrong invariant CRC too; acknowledgements release the window, a request before EPSN is acknowledged again and one
after it answered by one NAK; work requests are checked, wait for their limits and become frames; timeouts resend from the oldest unacknowledged packet until the retries are used up; and a context sends what it has at its rate. -/
def Obligations.TransportsSendAndAcknowledge : Prop :=
  (∀ (s : State) (i : Fin 1048576), s.works 0xB0 islSHD = true →
    let x := s.xpt i
    let only (u : State) (v : XptSt) : Prop := u.xpt i = v ∧ (∀ j, j ≠ i.val → u.xpt j = s.xpt j) ∧ u = { s with sec := { s.sec with xpts := u.sec.xpts }, regs := u.regs } ∧ regsBut s u (fun o => o == R.XPT_STAT)
    let rtoDue : Prop := x.st = 1 ∧ x.typ = 3 ∧ x.sent ≠ 0 ∧ x.timer + 1000 * x.rto ≤ s.now
    let ackDue : Prop := x.st = 1 ∧ x.typ = 1 ∧ x.sent ≠ 0 ∧ x.rnrUntil = none ∧ x.timer + 1000 * bitsOf (x.word 18) 16 16 ≤ s.now
    (¬ackDue → exec (.ackTimeout i) s = .next s) ∧
    (ackDue → x.retries < bitsOf (x.word 18) 0 3 → completes (.ackTimeout i) s fun u => only u { x with win := (u.xpt i).win, sent := 0, retries := x.retries + 1, timer := s.now } ∧
      (u.xpt i).win.length = x.win.length ∧ ∀ f ∈ x.win, f.op ≠ 0x0C → f ∈ (u.xpt i).win) ∧
    (ackDue → bitsOf (x.word 18) 0 3 ≤ x.retries → x.reqs = [] → completes (.ackTimeout i) s fun u => (u.xpt i).st = 2 ∧ (u.xpt i).win = [] ∧ reported s u [⟨0xB001, 0, 0xB000, 0xB000, []⟩]) ∧
    (¬rtoDue → exec (.tcpRto i) s = .next s) ∧
    (rtoDue → x.retries < bitsOf (x.word 23) 16 4 → completes (.tcpRto i) s fun u => only u { x with sent := 0, retries := x.retries + 1, rto := 2 * x.rto, timer := s.now }) ∧
    (rtoDue → bitsOf (x.word 23) 16 4 ≤ x.retries → x.reqs = [] → completes (.tcpRto i) s fun u => (u.xpt i).st = 2 ∧ (u.xpt i).win = [] ∧ reported s u [⟨0xB001, 0, 0xB000, 0xB000, []⟩]) ∧
    (∀ t, x.rnrUntil = some t → (t ≤ s.now → completes (.rnrWaitExpire i) s fun u => only u { x with rnrUntil := none, timer := s.now }) ∧ (s.now < t → exec (.rnrWaitExpire i) s = .next s)) ∧
    (x.rnrUntil = none → exec (.rnrWaitExpire i) s = .next s) ∧
    (∀ t, x.ackAt = some t → x.st = 1 →
      (t ≤ s.now → x.typ = 1 → completes (.ackDeadline i) s fun u => only u { x with ctl := x.ctl ++ [{ psn := (x.epsn + (2 ^ 24 - 1)) % 2 ^ 24, op := 0x11, ext := aeth 0x1F x.msn }], owed := 0, ackAt := none }) ∧
      (t ≤ s.now → x.typ = 3 → completes (.tcpDelayedAck i) s fun u => only u { x with ctl := x.ctl ++ [{ psn := x.psn }], owed := 0, ackAt := none }) ∧
      (s.now < t → exec (.ackDeadline i) s = .next s ∧ exec (.tcpDelayedAck i) s = .next s)) ∧
    (x.ackAt = none → exec (.ackDeadline i) s = .next s ∧ exec (.tcpDelayedAck i) s = .next s) ∧
    (let due : Prop := x.st = 1 ∧ (x.typ = 1 ∨ x.typ = 2) ∧ x.rateAt + 1000 * max 1 (s.gf F.XPT_CCINC_RINC) ≤ s.now;
      (due → completes (.rateIncrease i) s fun u => only u { x with rate := min (max x.rate (s.xptPortRate x)) (x.rate + s.gf F.XPT_CCINC_RAI), rateAt := s.now }) ∧ (¬due → exec (.rateIncrease i) s = .next s)) ∧
    (x.st ≠ 1 ∨ s.now < x.freeAt ∨ s.devFatal = true ∨ x.next s.now = none → exec (.ratePacedSend i) s = .next s) ∧
    (∀ g, x.st = 1 → x.freeAt ≤ s.now → s.devFatal = false → x.sq = some g → x.typ ≠ 3 →
      let c := s.q g
      let leaves (f : XFrame) (y : XptSt) : Prop := completes (.ratePacedSend i) s fun u => ∃ k : Pkt,
        u.xpt i = { y with tx := (x.tx + 1) % 2 ^ 64, freeAt := if x.rate = 0 then s.now else s.now + (8000 * (f.data.length + f.ext.length + 66) + x.rate - 1) / x.rate } ∧
        (u.pipe c.pipe).xptIn = (s.pipe c.pipe).xptIn ++ [k] ∧ k.src = some (x.port, x.fn) ∧ k.pipe = c.pipe ∧ k.profile = c.profile ∧ k.deftmq = c.deftmq ∧ k.xref = some (i.val, f.wr) ∧
        k.bytes = (let b := roceFrame x f; if b.length < 60 then fitBytes 60 b else b)
      (∀ f t, x.ctl = f :: t → leaves f { x with ctl := t }) ∧
      (∀ f, x.ctl = [] → x.rnrUntil = none → x.win[x.sent]? = some f → leaves f { x with sent := x.sent + 1, hi := max x.hi (x.sent + 1), timer := if x.sent = 0 then s.now else x.timer }))) ∧
  (∀ (s : State) (g : Fin 131072) (host : Option (List Byte)) (i : Nat), s.works 0xB0 islSHD = true → (s.q g).xpt = some i → (s.q g).typ = 0 → s.canFetch g = true → (s.q g).cq ≠ g.val →
    let c := s.q g
    let x := s.xpt i
    ∀ j, (c.items.find? fun j => j.disp.isNone) = some j → j.kind = .work → x.st = 1 →
      let w := j.entries.headD []
      let len := w.getD 1 0
      let op := w.getD 0 0 % 256
      let began (u : State) (bad : Nat) : Prop := u.q c.cq = { s.q c.cq with res := (s.q c.cq).res + 1 } ∧
        u.q g = { c with items := c.items.map fun z => if z.id == j.id then { z with disp := some c.gen } else z, nBad := bad }
      let fails (st bad : Nat) : Prop := ∃ u : State, began u bad ∧ u.sec = s.sec ∧ exec (.workRequest g host) s = .next (u.complete g j.id { status := st, kind := 2, stamp := noStamp, w6 := op })
      (wrWaits x w = true → exec (.workRequest g host) s = .next s) ∧
      (wrWaits x w = false → (s.q c.cq).freeSlots = 0 → exec (.workRequest g host) s = .next (s.bump (R.QMG_CNT c.port 15))) ∧
      (wrWaits x w = false → (s.q c.cq).freeSlots ≠ 0 →
        (wrBad x c.gen w = true → fails 1 (min (c.nBad + 1) (2 ^ 32 - 1))) ∧
        (wrBad x c.gen w = false → wrLong x len = true → fails 4 c.nBad) ∧
        (wrBad x c.gen w = false → wrLong x len = false →
          (x.typ = 2 → s.addressOk x (w.getD 6 0) = false → fails 0x86 c.nBad) ∧
          (x.typ = 1 → len ≠ 0 → op ≠ 5 → host = none → fails 3 c.nBad) ∧
          (x.typ = 3 → host = none → fails 3 c.nBad) ∧
          (∀ l, x.typ = 1 → op = 1 → len ≤ x.pmtu → len ≠ 0 → host = some l → completes (.workRequest g host) s fun u => began u c.nBad ∧
            u.xpt i = { x with win := x.win ++ [{ psn := x.psn % 2 ^ 24, op := 4, data := fitBytes len l, ack := true, se := bitAt (w.getD 0 0) 10, wr := j.id + 1 }], psn := (x.psn + 1) % 2 ^ 24,
                               reqs := x.reqs ++ [{ id := j.id, w := w, first := x.psn, last := x.psn % 2 ^ 24 }] }) ∧
          (x.typ = 1 → op = 5 → completes (.workRequest g host) s fun u => began u c.nBad ∧
            let n := max 1 ((len + x.pmtu - 1) / x.pmtu)
            u.xpt i = { x with win := x.win ++ [{ psn := x.psn, op := 0x0C, ext := reth (w.getD 4 0 + w.getD 5 0 * 2 ^ 32) (w.getD 6 0) len, ack := true, wr := j.id + 1 }],
                               psn := (x.psn + n) % 2 ^ 24, reqs := x.reqs ++ [{ id := j.id, w := w, first := x.psn, last := (x.psn + (n - 1)) % 2 ^ 24 }] }) ∧
          (∀ l, x.typ = 3 → host = some l → (∀ q ∈ x.reqs, q.cid ≠ ofLe (cut (fitBytes 64 l) 2 2)) → completes (.workRequest g host) s fun u => began u c.nBad ∧
            u.xpt i = { x with reqs := x.reqs ++ [{ id := j.id, w := w, cid := ofLe (cut (fitBytes 64 l) 2 2) }], outB := x.outB ++ x.pdu 4 0 (fitBytes 64 l) [] })))) ∧
  (∀ (s : State) (host : List (Option (List Byte))), s.works 0xB0 islSHD = true →
    (s.sec.xptIn = [] → exec (.xptReceive host) s = .next s) ∧
    ∀ i0 k rest p, s.sec.xptIn = (i0, k) :: rest → k.buf = none → k.home = none → k.send = none → k.xref = none → k.src = none → k.port < 16 → k.pipe < 4 → protectPoint k.bytes = some p →
      let i := s.resolve i0 k
      let x := s.xpt i
      let taken (u : State) : Prop := u.sec.xptIn = rest ∧ u.rd64 (R.XPT_CNT k.pipe 0) = (s.rd64 (R.XPT_CNT k.pipe 0) + 1) % 2 ^ 48 ∧ ∀ j, j ≠ i → u.xpt j = s.xpt j
      let told (u : State) (code : Nat) : Prop := reported s u [⟨code, 0, 0xB000, 0x6000 + k.port, []⟩]
      let got : XptSt := { x with rx := (x.rx + 1) % 2 ^ 64 }
      (x.st = 2 ∨ x.st = 3 → completes (.xptReceive host) s fun u => taken u ∧ u.xpt i = x ∧ u.rd64 (R.XPT_CNT k.pipe 2) = (s.rd64 (R.XPT_CNT k.pipe 2) + 1) % 2 ^ 48 ∧ u.flt = s.flt) ∧
      (x.st ≠ 1 → x.st ≠ 2 → x.st ≠ 3 → completes (.xptReceive host) s fun u => taken u ∧ u.xpt i = x ∧ u.rd64 (R.XPT_CNT k.pipe 2) = (s.rd64 (R.XPT_CNT k.pipe 2) + 1) % 2 ^ 48 ∧ told u 0xB008) ∧
      (x.st = 1 → x.accepts k.bytes p = false → completes (.xptReceive host) s fun u => taken u ∧ u.xpt i = x ∧ u.rd64 (R.XPT_CNT k.pipe 2) = (s.rd64 (R.XPT_CNT k.pipe 2) + 1) % 2 ^ 48 ∧ told u 0xB008) ∧
      (x.st = 1 → x.accepts k.bytes p = true → x.typ = 3 → bitAt (byteAt k.bytes (p.off + p.len + 13)) 2 = true → x.reqs = [] → completes (.xptReceive host) s fun u => taken u ∧ (u.xpt i).st = 2 ∧ reported s u [⟨0xB009, 0, 0xB000, 0xB000, []⟩]) ∧
      (x.st = 1 → x.accepts k.bytes p = true → x.typ ≠ 3 →
        let whole : Prop := ofLe (cut k.bytes (p.fin - 4) 4) = fcsOf (icrcBytes k.bytes p (p.fin - 4))
        let b := bthAt k.bytes (p.off + p.len + 8) p.fin
        let ecn := (if p.v6 then byteAt k.bytes (p.off + 1) / 16 else byteAt k.bytes (p.off + 1)) % 4
        (¬whole → completes (.xptReceive host) s fun u => taken u ∧ u.xpt i = got ∧ u.rd64 (R.XPT_CNT k.pipe 3) = (s.rd64 (R.XPT_CNT k.pipe 3) + 1) % 2 ^ 48 ∧ told u 0xB003) ∧
        (whole → b.op = 0x81 → completes (.xptReceive host) s fun u => taken u ∧ u.xpt i = { got with rate := max (s.gf F.XPT_CC_RMIN) (x.rate / 2), rateAt := s.now }) ∧
        (whole → ecn ≠ 3 → x.typ = 1 → b.op = 0x11 → byteAt b.body 0 / 32 % 4 = 0 → x.neverSent b.psn = false → x.outstanding b.psn = true →
          (∀ r, x.reqs.head? = some r → r.w.getD 0 0 % 256 = 5 ∨ psnAfter r.last b.psn = true) → completes (.xptReceive host) s fun u => taken u ∧
            let n := (x.win.takeWhile fun f => f.op != 0x0C && !psnAfter f.psn b.psn).length
            u.xpt i = { got with win := x.win.drop n, sent := x.sent - n, hi := x.hi - n, timer := s.now, retries := 0, rnr := 0 }) ∧
        (whole → ecn ≠ 3 → x.typ = 1 → b.op ≤ 0x0C → psnAfter b.psn x.epsn = true →
          completes (.xptReceive host) s fun u => taken u ∧
            u.xpt i = if x.nak then got else { got with nak := true, ctl := x.ctl ++ [{ psn := x.epsn, op := 0x11, ext := aeth 0x60 x.msn }], owed := 0, ackAt := none }) ∧
        (whole → ecn ≠ 3 → x.typ = 1 → b.op < 0x0C → b.psn ≠ x.epsn → psnAfter b.psn x.epsn = false → completes (.xptReceive host) s fun u => taken u ∧
          u.xpt i = { got with ctl := x.ctl ++ [{ psn := (x.epsn + (2 ^ 24 - 1)) % 2 ^ 24, op := 0x11, ext := aeth 0x1F x.msn }], owed := 0, ackAt := none })))

/-- Stacking (R435, R436, R438 to R448). Links: HELLOs go out every µs and keep a link up, a link comes up and goes down, messages not acknowledged within 4 µs are sent again, one that fails its check or comes out of order is dropped and
counted, and any other is answered, passed on round the ring or kept for its effect. Membership: ASSIGN gives every member its ID and the view, and HANDOVER, succession, the wait for member 0 and an election give the stack its master. Time: TIME goes out every 125 µs and is
applied by a member whose source is the stack. Lookups and frames of other members are answered and delivered. That the members lie round the ring in the order of their IDs, and what a stack's servo steers by, are the model's choices (log entries 45 and 47). -/
def Obligations.StackMembersAgreeOnMasterAndTime : Prop :=
  (∀ (s : State) (l : Fin 2), s.works 0xF0 islSTK = true →
    let x := s.link l
    let up := s.linkIsUp l
    let me := s.gf F.STK_STATUS_MYID
    let own (body : StkBody) : StkMsg := ⟨me, 0, false, 0, s.gf F.STK_STATUS_MGEN, 0, x.rxSeq, body⟩
    let helloDue : Prop := s.gb F.STK_CFG_EN = true ∧ ∀ t, x.helloSent = some t → t + 1000 ≤ s.now
    let mine : StkHello := ⟨s.rd64 R.TOP_SERIAL, s.gf F.STK_CFG_PRIO, s.gb F.STK_CFG_IDMODE, s.gf F.CFS_STAT_STACKID, l, s.gf F.STK_STATUS_VIEW⟩
    let down (u : State) : Prop := u.linkIsUp l = false ∧ (u.link l).unacked = [] ∧ (u.link l).peer = none ∧ u.linkIsUp (1 - l.val) = s.linkIsUp (1 - l.val) ∧ u.link (1 - l.val) = s.link (1 - l.val)
    (¬helloDue → exec (.helloSend l) s = .next s) ∧
    (helloDue → up = true → completes (.helloSend l) s fun u => linkSends s u l (own (.hello mine)) ∧ (u.link l).helloSent = some s.now ∧ u = { s with regs := u.regs, stk := u.stk, out := u.out }) ∧
    (helloDue → up = false → completes (.helloSend l) s fun u => u.out = .dasko l (own (.hello mine)) :: s.out ∧ (u.link l).helloSent = some s.now ∧ u = { s with stk := u.stk, out := u.out }) ∧
    (∀ (msg : StkMsg) (h : StkHello) (ok : Bool), msg.body = .hello h →
      let good : Prop := ok = true ∧ (up = true → msg.lseq = (x.rxSeq + 1) % 65536)
      let loses : Prop := s.gb F.STK_CFG_IDMODE = false ∧ h.strap = s.gf F.CFS_STAT_STACKID ∧ h.serial < s.rd64 R.TOP_SERIAL ∧ s.stk.refused = false
      (s.gb F.STK_CFG_EN = false → exec (.helloReceive l msg ok) s = .next s) ∧
      (s.gb F.STK_CFG_EN = true → ¬good → exec (.helloReceive l msg ok) s = .next (s.bump (R.STK_CNT l 2))) ∧
      (s.gb F.STK_CFG_EN = true → good → h.port = l.val → completes (.helloReceive l msg ok) s fun u => down u ∧
        reported s u ((if up then [⟨0xF002, 2, 0xF000 + l.val, 0xF000 + l.val, []⟩] else []) ++ [⟨0xF006, 0, 0xF000 + l.val, 0xF000 + l.val, []⟩]) ∧
        u.rd64 (R.STK_CNT l 7) = (s.rd64 (R.STK_CNT l 7) + 1) % 2 ^ 48) ∧
      (s.gb F.STK_CFG_EN = true → good → h.port ≠ l.val → completes (.helloReceive l msg ok) s fun u =>
        (u.link l).helloAt = some s.now ∧ (u.link l).peer = some h ∧ (u.link l).rxSeq = (if up then msg.lseq else x.rxSeq) ∧ u.link (1 - l.val) = s.link (1 - l.val) ∧
        (x.peer ≠ some h → u.stk.stableSince = s.now) ∧ (x.peer = some h → u.stk.stableSince = s.stk.stableSince) ∧
        (up = true → ∀ e ∈ x.unacked, e ∈ (u.link l).unacked ↔ signedOf 16 (msg.lack + 65536 - e.1.lseq % 65536) < 0) ∧
        (loses → u.stk.refused = true ∧ u.gb F.STK_STATUS_IDVALID = false ∧ u.gb F.STK_STATUS_MASTER = false ∧ reported s u [⟨0xF005, 2, 0xF000, 0xF000, []⟩]) ∧
        (¬loses → u.rd R.STK_STATUS = s.rd R.STK_STATUS ∧ u.stk.refused = s.stk.refused ∧ u.flt = s.flt))) ∧
    (∀ (h : StkHello) (t : Nat), x.peer = some h → x.helloAt = some t →
      let rises : Prop := s.gb F.STK_CFG_EN = true ∧ up = false ∧ s.pllGood (11 + l) = true ∧ s.now < t + 20000
      (¬rises → exec (.stkLinkUp l) s = .next s) ∧
      (rises → completes (.stkLinkUp l) s fun u => u.linkIsUp l = true ∧ u.linkIsUp (1 - l.val) = s.linkIsUp (1 - l.val) ∧ u.link l = { x with txSeq := 0, rxSeq := 0, unacked := [] } ∧
        reported s u [⟨0xF001, 0, 0xF000 + l.val, 0xF000 + l.val, []⟩] ∧ u.stk.firstUp = some (s.stk.firstUp.getD s.now) ∧
        (let takes : Prop := s.gb F.STK_CFG_IDMODE = false ∧ s.gb F.STK_STATUS_IDVALID = false ∧ s.stk.refused = false;
          (takes → u.gb F.STK_STATUS_IDVALID = true ∧ u.gf F.STK_STATUS_MYID = s.gf F.CFS_STAT_STACKID) ∧
          (takes → s.gf F.CFS_STAT_STACKID = 0 → h.view = 0 → u.gb F.STK_STATUS_MASTER = true ∧ u.gf F.STK_STATUS_MASTERID = 0 ∧ u.gf F.STK_STATUS_VIEW = 1 ∧
            u.gf F.STK_STATUS_MGEN = (s.gf F.STK_STATUS_MGEN + 1) % 256) ∧
          (takes → s.gf F.CFS_STAT_STACKID ≠ 0 ∨ h.view ≠ 0 → u.gb F.STK_STATUS_MASTER = s.gb F.STK_STATUS_MASTER ∧ u.gf F.STK_STATUS_VIEW = s.gf F.STK_STATUS_VIEW) ∧
          (¬takes → u.gf F.STK_STATUS_MYID = me ∧ u.gb F.STK_STATUS_IDVALID = s.gb F.STK_STATUS_IDVALID ∧ u.gf F.STK_STATUS_VIEW = s.gf F.STK_STATUS_VIEW)))) ∧
    (x.peer = none → exec (.stkLinkUp l) s = .next s) ∧
    (∀ lost : Bool, (let falls : Prop := up = true ∧ (lost = true ∨ ∀ t, x.helloAt = some t → t + 20000 ≤ s.now);
      (falls → completes (.stkLinkDown l lost) s fun u => down u ∧ reported s u [⟨0xF002, 2, 0xF000 + l.val, 0xF000 + l.val, []⟩]) ∧ (¬falls → exec (.stkLinkDown l lost) s = .next s))) ∧
    (x.unacked = [] → exec (.linkReplay l) s = .next s) ∧
    (∀ m t rest, x.unacked = (m, t) :: rest →
      (up = true → t + 4000 ≤ s.now → completes (.linkReplay l) s fun u => u.out = (x.unacked.map fun e => .dasko l { e.1 with lack := x.rxSeq }).reverse ++ s.out ∧
        u.link l = { x with unacked := x.unacked.map fun e => (e.1, s.now) } ∧ u.rd64 (R.STK_CNT l 3) = (s.rd64 (R.STK_CNT l 3) + 1) % 2 ^ 48) ∧
      (up = false ∨ s.now < t + 4000 → exec (.linkReplay l) s = .next s)) ∧
    (∀ (msg : StkMsg) (ok : Bool),
      let old : Prop := s.gb F.STK_STATUS_IDVALID = true ∧ signedOf 8 (msg.mgen + 256 - s.gf F.STK_STATUS_MGEN) < 0
      let got (u : State) : Prop := (u.link l).rxSeq = msg.lseq ∧ u.rd64 (R.STK_CNT l 1) = (s.rd64 (R.STK_CNT l 1) + 1) % 2 ^ 48
      (up = false ∨ msgType msg.body = 1 ∨ msgType msg.body = 9 → exec (.controlMessageReceive l msg ok) s = .next s) ∧
      (up = true → msg.body = .bad → ok = true → completes (.controlMessageReceive l msg ok) s fun u => u.stk = s.stk ∧ u.rd64 (R.STK_CNT l 7) = (s.rd64 (R.STK_CNT l 7) + 1) % 2 ^ 48 ∧
        reported s u [⟨0xF006, 0, 0xF000 + l.val, 0xF000 + l.val, []⟩]) ∧
      (up = true → msgType msg.body ≠ 1 → msgType msg.body ≠ 9 → ok = false ∨ (msg.body ≠ .bad ∧ msg.lseq ≠ (x.rxSeq + 1) % 65536) →
        exec (.controlMessageReceive l msg ok) s = .next (s.bump (R.STK_CNT l 2))) ∧
      (up = true → ok = true → msg.lseq = (x.rxSeq + 1) % 65536 →
        (msg.body = .pdelayReq → completes (.controlMessageReceive l msg ok) s fun u => got u ∧ linkSends s u l (own (.pdelayResp 0)) ∧ u.stk.inbox = s.stk.inbox) ∧
        (msgType msg.body = 3 → completes (.controlMessageReceive l msg ok) s fun u => got u ∧ u.out = s.out ∧ u.stk.inbox = s.stk.inbox ++ [⟨l, msg.hops + 1, { noStamp with time := s.counter islSTK }, msg⟩]) ∧
        (msgType msg.body = 4 ∨ msgType msg.body = 5 ∨ msgType msg.body = 6 ∨ msgType msg.body = 7 ∨ msgType msg.body = 8 ∨ msgType msg.body = 10 →
          (s.stk.refused = true → completes (.controlMessageReceive l msg ok) s fun u => got u ∧ u.out = s.out ∧ u.stk.inbox = s.stk.inbox) ∧
          (s.stk.refused = false → old → completes (.controlMessageReceive l msg ok) s fun u => got u ∧ u.out = s.out ∧ u.stk.inbox = s.stk.inbox ∧ reported s u [⟨0xF006, 0, 0xF000 + l.val, 0xF000 + l.val, []⟩]) ∧
          (s.stk.refused = false → ¬old → msg.bcast = true ∨ msg.dst = me → completes (.controlMessageReceive l msg ok) s fun u => got u ∧
            (∃ t : Stamp, t.time / 256 = s.counter islSTK / 256 ∧ u.stk.inbox = s.stk.inbox ++ [⟨l, msg.hops + 1, t, msg⟩]) ∧
            (let goes : Prop := msg.bcast = true ∧ msgType msg.body ≠ 5 ∧ s.linkIsUp (1 - l.val) = true ∧ msg.hops + 2 < s.viewSize ∧ s.gb F.STK_STATUS_ISOLATED = false;
              (goes → linkSends s u (1 - l.val) { msg with hops := msg.hops + 1 }) ∧ (¬goes → u.out = s.out))) ∧
          (s.stk.refused = false → ¬old → msg.bcast = false → msg.dst ≠ me →
            (s.gb F.STK_STATUS_ISOLATED = true ∨ s.route msg.dst = none → completes (.controlMessageReceive l msg ok) s fun u => got u ∧ u.out = s.out ∧ u.stk.inbox = s.stk.inbox) ∧
            (∀ o, s.gb F.STK_STATUS_ISOLATED = false → s.route msg.dst = some o → completes (.controlMessageReceive l msg ok) s fun u => got u ∧ linkSends s u o { msg with hops := msg.hops + 1 } ∧
              u.stk.inbox = s.stk.inbox))))) ∧
    (let due : Prop := up = true ∧ ∀ t, x.pdSent = some t → t + 1000000 ≤ s.now;
      (due → completes (.pdelayReq l) s fun u => linkSends s u l (own .pdelayReq) ∧ (u.link l).pdSent = some s.now ∧ (u.link l).pdTime = some (s.counter islSTK)) ∧
      (¬due → exec (.pdelayReq l) s = .next s)) ∧
    (∀ (msg : StkMsg) (d : StkData) (ok : Bool), msg.body = .data d →
      let n := 52 + d.frame.length
      let hears : Prop := up = true ∧ s.gb F.STK_STATUS_ISOLATED = false ∧ s.stk.refused = false
      let old : Prop := signedOf 8 (msg.mgen + 256 - s.gf F.STK_STATUS_MGEN) < 0
      let k : Pkt := { bytes := d.frame, cls := d.cls, yellow := d.yellow, rx := ⟨d.rx.time, d.rx.bound, d.rx.domain, d.rx.seq⟩, prec := d.prec, status := d.status, member := some msg.src, home := d.tag.map fun t => (msg.src, t) }
      (¬hears → exec (.data l msg ok) s = .next s) ∧ (hears → ok = false → exec (.data l msg ok) s = .next (s.bump (R.STK_CNT l 2))) ∧
      (hears → ok = true → old → completes (.data l msg ok) s fun u => u.stk = s.stk ∧ u.out = s.out ∧ reported s u [⟨0xF006, 0, 0xF000 + l.val, 0xF000 + l.val, []⟩]) ∧
      (hears → ok = true → ¬old → msg.dst = me → (if d.toHost then (s.q d.queue).st ≠ 0 ∧ (s.q d.queue).typ = 1 else d.queue < 131072) →
        (∀ h v, (s.bump (R.STK_CNT l 5)).alloc (128 + d.frame.length) 1108 true false 0 0 = (.got h, v) →
          exec (.data l msg ok) s = .next (v.orsExamine { k with buf := some h } (if d.toHost then .queue d.queue else .tmq d.queue))) ∧
        (∀ v, (s.bump (R.STK_CNT l 5)).alloc (128 + d.frame.length) 1108 true false 0 0 = (.empty, v) → exec (.data l msg ok) s = .next (v.dropPkt k 6))) ∧
      (∀ o, hears → ok = true → ¬old → msg.dst ≠ me → s.route msg.dst = some o → s.egressNow o + n ≤ 4194304 → completes (.data l msg ok) s fun u =>
        u.out = .dasko o { msg with hops := msg.hops + 1 } :: s.out ∧ u.link o = { s.link o with egress := s.egressNow o + n, egressAt := s.now } ∧ u.rd64 (R.STK_CNT o 4) = (s.rd64 (R.STK_CNT o 4) + 1) % 2 ^ 48 ∧
        u.flt = s.flt) ∧
      (∀ o, hears → ok = true → ¬old → msg.dst ≠ me → (s.route msg.dst = some o ∧ 4194304 < s.egressNow o + n) ∨ (s.route msg.dst = none ∧ o = l.val) → completes (.data l msg ok) s fun u =>
        reported s u [⟨0xF008, 0, 0xF000 + o, 0xF000 + o, []⟩] ∧ u.rd64 (R.STK_CNT o 6) = (s.rd64 (R.STK_CNT o 6) + 1) % 2 ^ 48 ∧ (d.tag = none → u.out = s.out) ∧
        ∀ t b, d.tag = some t → s.route msg.src = some b → linkSends s u b ⟨me, msg.src, false, 0, s.gf F.STK_STATUS_MGEN, 0, 0, .txdone t 6 none⟩)) ∧
    (∀ (msg : StkMsg) (ok : Bool), msgType msg.body ≠ 9 → exec (.data l msg ok) s = .next s)) ∧
  (∀ s : State, s.works 0xF0 islSTK = true →
    let me := s.gf F.STK_STATUS_MYID
    let view := s.gf F.STK_STATUS_VIEW
    let members := (List.range 4).filter fun m => bitAt view m
    let master := s.gf F.STK_STATUS_MASTERID
    let strap := s.gb F.STK_CFG_IDMODE == false
    let gone (v : Nat) : List Nat := members.filter fun m => !bitAt v m
    let lost (v : Nat) : List Report := (gone v).map fun _ => ⟨0xF003, 2, 0xF000, 0xF000, []⟩
    let leads (u : State) (v : Nat) : Prop := u.gb F.STK_STATUS_MASTER = true ∧ u.gf F.STK_STATUS_MASTERID = me ∧ u.gb F.STK_STATUS_ISOLATED = false ∧ u.gf F.STK_STATUS_VIEW = v ∧
      u.gf F.STK_STATUS_MGEN = (s.gf F.STK_STATUS_MGEN + 1) % 256 ∧ u.gf F.TKU_CTRL_SRC = 0 ∧
      u.stk.ids = (if s.stk.ids = [] then [(s.rd64 R.TOP_SERIAL, me)] else s.stk.ids.filter fun e => bitAt v e.2) ∧
      (∃ l, reported s u (l ++ ⟨0xF004, 2, 0xF000, 0xF000, []⟩ :: lost v)) ∧ linksKeep s u 2 0 (.assign v u.stk.ids) ∧
      (∀ l, l < 2 → s.linkIsUp l = true → ∃ m t c, (u.link l).unacked.getLast? = some (m, s.now) ∧ m.body = .time t 0 c u.tkuState (s.gf F.TKU_STATE_EPOCH))
    (∀ present : List (Nat × Nat), s.gb F.STK_STATUS_MASTER = false → exec (.assignSend present) s = .next s) ∧
    (∀ present : List (Nat × Nat), s.gb F.STK_STATUS_MASTER = true → s.stk.away = [] →
      let sn := s.rd64 R.TOP_SERIAL
      let ids := present.foldl (fun ids m => s.admitMember ids m) (s.stk.ids.filter fun e => e.1 == sn || present.any fun m => m.1 == e.1)
      let due : Prop := ∀ t, s.stk.assignAt = some t → t + 1000000 ≤ s.now
      ∀ v, v < 16 → (∀ m, m < 4 → (bitAt v m = true ↔ m = me ∨ ∃ e ∈ ids, e.2 = m)) → (∀ e ∈ ids, e.2 < 4) →
        (v = view → ¬due → completes (.assignSend present) s fun u => u = { s with stk := { s.stk with ids := ids } }) ∧
        (v = view → due → completes (.assignSend present) s fun u => u.rd R.STK_STATUS = s.rd R.STK_STATUS ∧ u.stk.ids = ids ∧ u.stk.assignAt = some s.now ∧ linksKeep s u 1 0 (.assign v ids) ∧ reported s u []) ∧
        (v ≠ view → completes (.assignSend present) s fun u => u.gf F.STK_STATUS_VIEW = v ∧ u.gf F.STK_STATUS_MGEN = (s.gf F.STK_STATUS_MGEN + 1) % 256 ∧ u.gf F.STK_STATUS_MYID = me ∧
          u.gb F.STK_STATUS_MASTER = true ∧ u.stk.ids = ids ∧ u.stk.assignAt = some s.now ∧ linksKeep s u 1 0 (.assign v ids) ∧ reported s u (lost v))) ∧
    (∀ (ids : List (Nat × Nat)) (sn st : Nat), (∀ e ∈ ids, e.1 ≠ sn) →
      (strap = true → st < 4 → (∀ e ∈ ids, e.2 ≠ st) → s.admitMember ids (sn, st) = ids ++ [(sn, st)]) ∧
      (strap = false → ∀ i, i < 4 → (∀ e ∈ ids, e.2 ≠ i) → (∀ j, j < i → ∃ e ∈ ids, e.2 = j) → s.admitMember ids (sn, st) = ids ++ [(sn, i)])) ∧
    ((∀ i rest, ¬s.oldest 4 i rest) → exec .assign s = .next s) ∧
    (∀ i rest v ids, s.oldest 4 i rest → i.msg.body = .assign v ids →
      let stale : Prop := s.gb F.STK_STATUS_IDVALID = true ∧ signedOf 8 (i.msg.mgen + 256 - s.gf F.STK_STATUS_MGEN) ≤ 0 ∧ i.msg.src ≠ master
      let taken (u : State) : Prop := u.gf F.STK_STATUS_VIEW = v ∧ u.gf F.STK_STATUS_MGEN = i.msg.mgen % 256 ∧ u.gf F.STK_STATUS_MASTERID = i.msg.src ∧ u.gb F.STK_STATUS_MASTER = false ∧
        u.stk.ids = ids ∧ u.stk.masterAt = s.now ∧ u.stk.inbox = rest ∧ u.stk.links = s.stk.links ∧ u.out = s.out
      (stale → i.link < 2 → completes .assign s fun u => u.stk = { s.stk with inbox := rest } ∧ u.rd R.STK_STATUS = s.rd R.STK_STATUS ∧ reported s u [⟨0xF006, 0, 0xF000 + i.link, 0xF000 + i.link, []⟩]) ∧
      (¬stale → v < 16 → i.msg.src < 4 → s.stk.away = [] →
        (∀ sn id, (ids.find? fun e => e.1 == s.rd64 R.TOP_SERIAL) = some (sn, id) → id < 4 → completes .assign s fun u => taken u ∧ u.gf F.STK_STATUS_MYID = id ∧ u.gb F.STK_STATUS_IDVALID = true ∧
          u.gb F.STK_STATUS_ISOLATED = false ∧ (view ≠ 0 ∨ s.gf F.TKU_CTRL_SRC ≠ 3 → reported s u [] ∧ u.tku = s.tku) ∧
          (view = 0 → s.gf F.TKU_CTRL_SRC = 3 → i.link < 2 → u.gf F.TKU_CTRL_SRC = 3 ∧ u.gf F.TKU_CTRL_SRCPORT = i.link)) ∧
        ((∀ e ∈ ids, e.1 ≠ s.rd64 R.TOP_SERIAL) → completes .assign s fun u => taken u ∧ u.gb F.STK_STATUS_IDVALID = false ∧ u.tku = s.tku ∧
          (∀ e, (ids.find? fun e => e.2 == s.gf F.CFS_STAT_STACKID) = some e → strap = true → e.1 < s.rd64 R.TOP_SERIAL → s.stk.refused = false → u.stk.refused = true ∧
            reported s u [⟨0xF005, 2, 0xF000, 0xF000, []⟩])))) ∧
    (∀ m : Master, s.accepts m R.STK_CTL = true →
      (s.gb F.STK_STATUS_MASTER = false ∨ (∀ k ∈ members, k = me) → exec (.handoverWrite m) s = .next s) ∧
      (∀ h, s.gb F.STK_STATUS_MASTER = true → h ∈ members → h ≠ me → (∀ k ∈ members, k < h → k = me) → completes (.handoverWrite m) s fun u =>
        u.gb F.STK_STATUS_MASTER = false ∧ u.gf F.STK_STATUS_MASTERID = h ∧ u.gf F.TKU_CTRL_SRC = 3 ∧ u.gf F.STK_STATUS_VIEW = view ∧ u.gf F.STK_STATUS_MYID = me ∧ u.stk.masterAt = s.now ∧
        linksKeep s u 1 0 (.handover h))) ∧
    ((∀ i rest, ¬s.oldest 10 i rest) → exec .handover s = .next s) ∧
    (∀ i rest h, s.oldest 10 i rest → i.msg.body = .handover h →
      (i.msg.src ≠ master → i.link < 2 → completes .handover s fun u => u.stk = { s.stk with inbox := rest } ∧ u.rd R.STK_STATUS = s.rd R.STK_STATUS ∧ reported s u [⟨0xF006, 0, 0xF000 + i.link, 0xF000 + i.link, []⟩]) ∧
      (i.msg.src = master → h ≠ me → exec .handover s = .next (s.leaving rest)) ∧
      (i.msg.src = master → h = me → completes .handover s fun u => leads u view ∧ u.stk.inbox = rest)) ∧
    (∀ reach : BitVec 4,
      let others := members.filter fun m => m != master
      let lower := (others.filter fun m => decide (m < me)).length
      let due : Prop := s.gb F.STK_STATUS_IDVALID = true ∧ s.gb F.STK_STATUS_MASTER = false ∧ view ≠ 0 ∧ s.gb F.STK_STATUS_ISOLATED = false ∧ s.stk.refused = false ∧
        s.stk.masterAt + s.gf F.STK_CFG_SUCCTMO * 1000000 + 2000000 * lower ≤ s.now
      let r := members.filter fun m => m == me || bitAt reach.toNat m
      let wins : Prop := members.length < 2 * r.length ∨ (2 * r.length = members.length ∧ others.headD 0 ∈ r)
      (¬due → exec (.successionTimeout reach) s = .next s) ∧
      (due → ¬wins → completes (.successionTimeout reach) s fun u => u.gb F.STK_STATUS_ISOLATED = true ∧ u.gb F.STK_STATUS_MASTER = false ∧ u.gf F.STK_STATUS_VIEW = view ∧
        u = { s with regs := u.regs, flt := u.flt } ∧ reported s u [⟨0xF007, 2, 0xF000, 0xF000, []⟩]) ∧
      (∀ v, due → wins → s.stk.away = [] → v < 16 → (∀ m, m < 4 → (bitAt v m = true ↔ m ∈ r)) → completes (.successionTimeout reach) s fun u => leads u v)) ∧
    (∀ reach : BitVec 4,
      let lower := ((List.range 4).filter fun m => bitAt reach.toNat m && decide (m < me)).length
      let due : Prop := strap = true ∧ s.gb F.STK_STATUS_IDVALID = true ∧ view = 0 ∧ bitAt reach.toNat 0 = false ∧ s.stk.refused = false ∧ ∃ t, s.stk.firstUp = some t ∧ t + 100000000 + 2000000 * lower ≤ s.now
      (due → ∀ v, v < 16 → (∀ m, m < 4 → (bitAt v m = true ↔ m = me ∨ bitAt reach.toNat m = true)) → completes (.masterWaitTimeout reach) s fun u => leads u v) ∧
      (¬due → exec (.masterWaitTimeout reach) s = .next s)) ∧
    (∀ others : List (Nat × Nat),
      let pr := s.gf F.STK_CFG_PRIO
      let sn := s.rd64 R.TOP_SERIAL
      let due : Prop := strap = false ∧ s.gb F.STK_STATUS_IDVALID = false ∧ s.stk.firstUp ≠ none ∧ s.stk.stableSince + 10000000 ≤ s.now
      let beaten : Prop := ∃ e ∈ others, pr < e.2 ∨ (e.2 = pr ∧ e.1 < sn)
      (¬due ∨ beaten → exec (.election others) s = .next s) ∧
      (due → ¬beaten → s.stk.away = [] → completes (.election others) s fun u =>
        let v := 2 ^ (min others.length 3 + 1) - 1
        u.gb F.STK_STATUS_MASTER = true ∧ u.gb F.STK_STATUS_IDVALID = true ∧ u.gf F.STK_STATUS_MYID = 0 ∧ u.gf F.STK_STATUS_MASTERID = 0 ∧ u.gf F.STK_STATUS_VIEW = v ∧
        u.stk.ids.head? = some (sn, 0) ∧ (∀ i e, i < 3 → others[i]? = some e → u.stk.ids[i + 1]? = some (e.1, i + 1)) ∧ linksKeep s u 1 0 (.assign v u.stk.ids) ∧ reported s u (lost v))) ∧
    (let due : Prop := s.gb F.STK_STATUS_MASTER = true ∧ ∀ t, s.stk.timeAt = some t → t + 125000 ≤ s.now;
      (¬due → exec .timeSend s = .next s) ∧
      (due → completes .timeSend s fun u => u = { s with regs := u.regs, stk := u.stk, seqs := u.seqs, out := u.out } ∧ u.stk.timeAt = some s.now ∧ u.rd R.STK_STATUS = s.rd R.STK_STATUS ∧
        ∀ l, l < 2 → s.linkIsUp l = true → ∃ m, (u.link l).unacked = (s.link l).unacked ++ [(m, s.now)] ∧ .dasko l m ∈ u.out ∧
          m.body = .time (s.counter islSTK / 256 * 256) 0 s.pubCode s.tkuState (s.gf F.TKU_STATE_EPOCH) ∧ m.bcast = true)) ∧
    ((∀ i rest, ¬s.oldest 5 i rest) → exec .time s = .next s) ∧
    (∀ i rest t c b st e, s.oldest 5 i rest → i.msg.body = .time t c b st e → i.link < 2 →
      let repeated : Prop := (∃ h, s.stk.lastTime = some (t, h) ∧ h ≤ i.hops) ∨ st = 0 ∨ b = 0xFF
      let pd := s.rdN (R.STK_PDELAY i.link) * 256
      let source := (c + t + pd).toNat
      let off := (i.stamp.time : Int) - source
      (i.msg.src ≠ master ∨ s.gb F.STK_STATUS_MASTER = true → completes .time s fun u => u.stk = { s.stk with inbox := rest } ∧ u.tku = s.tku ∧
        reported s u [⟨0xF006, 0, 0xF000 + i.link, 0xF000 + i.link, []⟩]) ∧
      (i.msg.src = master → s.gb F.STK_STATUS_MASTER = false → completes .time s fun u => u.stk.inbox = rest ∧ u.stk.masterAt = s.now ∧
        (let goes : Prop := s.linkIsUp (1 - i.link) = true ∧ i.msg.hops + 2 < s.viewSize ∧ s.gb F.STK_STATUS_ISOLATED = false;
          (goes → linkSends s u (1 - i.link) { i.msg with hops := i.msg.hops + 1, body := .time t (c + ((s.counter islSTK : Int) - i.stamp.time) + pd) b st e }) ∧ (¬goes → u.out = s.out)) ∧
        (repeated → u.tku = s.tku ∧ u.stk.lastTime = s.stk.lastTime ∧ u.flt = s.flt) ∧
        (¬repeated → u.stk.lastTime = some (t, i.hops) ∧ u.tku.stackMsgAt = s.now ∧ u.tku.hops = i.hops) ∧
        (¬repeated → s.gf F.TKU_CTRL_SRC ≠ 3 → u.tku = { s.tku with stackMsgAt := s.now, hops := i.hops } ∧ u.flt = s.flt) ∧
        (¬repeated → s.gf F.TKU_CTRL_SRC = 3 → u.rd64 R.TKU_OFFSET = ofSigned 64 off) ∧
        (¬repeated → s.gf F.TKU_CTRL_SRC = 3 → s.tkuState = 0 → s.gb F.TKU_ADJCMD_BUSY = false → u.gb F.TKU_ADJCMD_BUSY = true ∧
          u.tku.adj = some ⟨true, source + (s.tku.dt - i.stamp.time : Int) + 512 * 65536, s.tku.dt + 512 * 65536⟩) ∧
        (¬repeated → s.gf F.TKU_CTRL_SRC = 3 → s.tkuState ≠ 0 → u.rd R.TKU_SRVUNC = s.rd R.STK_SRVUNC ∧ u.tku.lastUpdate = s.now ∧
          u.tku.q = { s.servoRegs (s.rdN R.STK_SRVUNC) with srcacc := boundUnits b, asymunc := s.rdN R.TKU_STKUNC * i.hops } ∧
          (1000 * 65536 < off.natAbs → s.gb F.TKU_ADJCMD_BUSY = false → u.gb F.TKU_ADJCMD_BUSY = true ∧ u.tku.adj = some ⟨false, -off, s.tku.dt + 512 * 65536⟩) ∧
          (off.natAbs ≤ 1000 * 65536 → u.tku.adj = s.tku.adj ∧ ∃ k, u.rdN R.TKU_FREQ = Config.steer k % 2 ^ 32)))) ∧
    ((∀ i rest, ¬s.oldest 3 i rest) → exec .pdelayResp s = .next s) ∧ ((∀ i rest, ¬s.oldest 6 i rest) → exec .lookupReq s = .next s) ∧
    ((∀ i rest, ¬s.oldest 7 i rest) → exec .lookupRsp s = .next s) ∧ ((∀ i rest, ¬s.oldest 8 i rest) → exec .txdone s = .next s) ∧
    (∀ i rest n, s.oldest 3 i rest → i.msg.body = .pdelayResp n → i.link < 2 →
      ((s.link i.link).pdTime = none → exec .pdelayResp s = .next (s.leaving rest)) ∧
      (∀ t, (s.link i.link).pdTime = some t → completes .pdelayResp s fun u => u.rdN (R.STK_PDELAY i.link) = (i.stamp.time - t - n) / 512 % 2 ^ 32 ∧ u.link i.link = { s.link i.link with pdTime := none } ∧
        regsBut s u (· == R.STK_PDELAY i.link) ∧ u = { s with regs := u.regs, stk := u.stk } ∧ u.stk.inbox = rest)) ∧
    (∀ i rest tag d key, s.oldest 6 i rest → i.msg.body = .lookupReq tag d key →
      let r := s.hLookup key d
      (s.route i.msg.src = none → completes .lookupReq s fun u => u.out = s.out ∧ u.stk.inbox = rest) ∧
      ∀ o, s.route i.msg.src = some o → completes .lookupReq s fun u => u.stk.inbox = rest ∧ linkSends s u o ⟨me, i.msg.src, false, 0, s.gf F.STK_STATUS_MGEN, 0, 0,
        .lookupRsp tag (r.1.map fun l => (List.range 5).map fun k => (r.2.hEnt l).getD (9 + k) 0)⟩) ∧
    (∀ i rest tag hit, s.oldest 7 i rest → i.msg.body = .lookupRsp tag hit →
      let asked (w : PassSt) : Bool := w.lookups.any fun l => l.isFor tag && !s.lookupLate l
      (∀ p w, p < 4 → (s.pipe p).pass = some w → asked w = true → (∀ q, q < p → ∀ v, (s.pipe q).pass = some v → asked v = false) →
        exec .lookupRsp s = .next ((s.leaving rest).answer w (fun l => l.isFor tag && !s.lookupLate l) (hit.map fun w => hResult (List.replicate 9 0 ++ w)))) ∧
      ((∀ q, q < 4 → ∀ v, (s.pipe q).pass = some v → asked v = false) →
        ((∀ e ∈ s.eng.threads, e.2.isFor tag = false) → exec .lookupRsp s = .next (s.leaving rest)) ∧
        (∀ t rd area ctl key at_ m, (s.eng.threads.find? fun e => e.2.isFor tag) = some (t, s.thread t) → (s.thread t).wait = .tlook rd area ctl key at_ (some (m, tag)) → (s.thread t).st = 2 →
          (at_ + 615 ≤ s.now → exec .lookupRsp s = .next (s.leaving rest)) ∧
          (s.now < at_ + 615 → hit = none → completes .lookupRsp s fun u => woken s u t rd 0 ∧ othersKeep s u [t] ∧ u.stk.inbox = rest) ∧
          (∀ w a, s.now < at_ + 615 → hit = some w → place t (area + 32) = .scratch a → completes .lookupRsp s fun u => ∃ k j, woken s u t rd (BitVec.ofNat 64 (1 + Config.remoteWord k % 2 ^ 32 * 2 ^ 32)) ∧
            othersKeep s u [t] ∧ memRead (fun _ => 0) u.eng.scratch a 32 = fitBytes 32 ((((List.range 5).map fun k => w.getD k 0) ++ [Config.remoteWord j % 2 ^ 32]).flatMap fun x => leBytes 4 x) ∧
            u.stk.inbox = rest)))) ∧
    (∀ i rest tag st tx, s.oldest 8 i rest → i.msg.body = .txdone tag st tx →
      let v : State := { s with stk := { s.stk with inbox := rest, away := s.stk.away.filter fun e => e.1 != tag } }
      ((∀ e ∈ s.stk.away, e.1 ≠ tag) → exec .txdone s = .next (s.leaving rest)) ∧
      (∀ e, (s.stk.away.find? fun e => e.1 == tag) = some e →
        (∀ t : StkStamp, tx = some t → exec .txdone s = .next (v.sentOn (t.domain - 0x6010) e.2.2 ⟨t.time, t.bound, t.domain, t.seq⟩)) ∧
        (tx = none → exec .txdone s = .next (v.sentAs e.2.2 st (if st = 0 then e.2.2.bytes.length else 0))))))

/-- Faults and the recorder (R450 to R455, R458 to R464, R466 to R472, R475). A report that arrives takes a stamp of domain 0x0500. It is folded into its pair where its blame names a declared unit, and otherwise goes to the ladder of its severity and to no other, may declare its
unit, and is recorded or suppressed. A DONE with the right token brings NEXT to FIRST or ends the service, and any other sets ERR. A window and a declaration end in one summary for each pair. A record is written to the circulating area, staged for the keep area and mirrored, in
the order of its effective upper edge; a staged record is programmed, the first of a sector after an erase; and EVR_RCMD reads a record that the area still holds. -/
def Obligations.ReportsBecomeRecords : Prop :=
  (∀ s : State, s.flt.arriving = [] → exec .report s = .next s) ∧
  (∀ (s : State) (r : Report) (rest : List Report), s.flt.arriving = r :: rest → r.sev < 5 →
    let st : Stamp := ⟨s.counter islAON / 256 * 256, s.islandBound islAON, 0x0500, s.seqOf 0x0500⟩
    let l := r.sev
    let declared : Prop := ∃ i, i < 64 ∧ s.gb (F.FLT_FAULTED_VALID i) = true ∧ s.gf (F.FLT_FAULTED_UNIT i) = r.blame
    let folds : Prop := declared ∧ r.reporter ≠ r.blame ∧ r.reporter / 256 ≠ 5 ∧ l < 4
    let fn : Nat := if r.blame / 256 ∈ [0x10, 0x11, 0x20] then r.detail.getD 6 0 else 0
    let paired : Prop := ∃ p ∈ s.flt.folds, p.code = r.code ∧ p.unit = r.blame
    let words := wordsOf (recordBytes ⟨r, st, if r.code = 0x0502 then 8 else 0, 0⟩ false 0)
    let serves (k : Nat) : Bool := bitAt (s.gf F.FLT_STATUS_INSERV) k
    let count := ((s.flt.counts.find? fun e => e.1 = r.blame).map Prod.snd).getD 0 + 1
    let declares : Prop := ¬declared ∧ (3 ≤ l ∨ (s.flt.thresh ≠ 0 ∧ s.flt.thresh < count ∧ r.blame ∉ s.flt.byCount))
    let b := s.bucket r.code
    let (rate, burst) := s.rateOf r.code
    let free : Prop := l = 4 ∨ r.code = 0x0401 ∨ r.code = 0x0406 ∨ r.code = 0x0402 ∨ rate = 0
    (completes .report s fun u => u.seqOf 0x0500 = (s.seqOf 0x0500 + 1) % 2 ^ 32 ∧ u.rd64 (R.FLT_CNT 0) = (s.rd64 (R.FLT_CNT 0) + 1) % 2 ^ 48 ∧ (∃ more, u.flt.arriving = rest ++ more) ∧
      ∀ k, k < 5 → k ≠ l → bitAt (u.gf F.FLT_STATUS_INSERV) k = serves k ∧ u.rd (R.FLT_LVLCTL k) = s.rd (R.FLT_LVLCTL k) ∧ u.rd (R.FLT_LVLOVF k) = s.rd (R.FLT_LVLOVF k) ∧
        ∀ w, w < 16 → u.rd (R.FLT_FIRST k w) = s.rd (R.FLT_FIRST k w) ∧ u.rd (R.FLT_NEXT k w) = s.rd (R.FLT_NEXT k w)) ∧
    (folds → paired ∨ s.flt.folds.length < 256 → completes .report s fun u => u.rd64 (R.FLT_CNT 1) = (s.rd64 (R.FLT_CNT 1) + 1) % 2 ^ 48 ∧ u.evr = s.evr ∧ u.out = s.out ∧
      u.flt = { s.flt with arriving := rest, folds := u.flt.folds } ∧ u.rd R.FLT_STATUS = s.rd R.FLT_STATUS ∧ u.rd (R.FLT_LVLCTL l) = s.rd (R.FLT_LVLCTL l) ∧
      (paired → u.flt.folds = s.flt.folds.map fun p => if p.code = r.code ∧ p.unit = r.blame then { p with count := p.count + 1, sev := max p.sev l } else p) ∧
      (¬paired → u.flt.folds = s.flt.folds ++ [⟨r.code, r.blame, 1, l, st, fn⟩])) ∧
    (folds → ¬paired → 256 ≤ s.flt.folds.length → completes .report s fun u => u.rd64 (R.FLT_CNT 4) = (s.rd64 (R.FLT_CNT 4) + 1) % 2 ^ 48 ∧ u.flt.folds = s.flt.folds ∧ (serves l = false → bitAt (u.gf F.FLT_STATUS_INSERV) l = true) ∧
      (s.flt.foldFullAt = none → ∃ more, u.flt.arriving = rest ++ ⟨0x0504, 0, 0x0500, r.blame, [0, 0, 0, 0, 0, 0, fn]⟩ :: more)) ∧
    (¬folds → completes .report s fun u => u.flt.folds = s.flt.folds ∧
      (serves l = false → bitAt (u.gf F.FLT_STATUS_INSERV) l = true ∧ (∀ w, w < 16 → u.rdN (R.FLT_FIRST l w) = words.getD w 0) ∧
        ((∀ k, k < 5 → l < k → serves k = false) → u.flt.skylarkIrq = s.flt.skylarkIrq ++ [l] ∧ l ∉ u.flt.deferred) ∧
        ((∃ k, k < 5 ∧ l < k ∧ serves k = true) → u.flt.skylarkIrq = s.flt.skylarkIrq ∧ l ∈ u.flt.deferred)) ∧
      (serves l = true → s.gb (F.FLT_LVLCTL_NEXTVALID l) = false → u.gb (F.FLT_LVLCTL_NEXTVALID l) = true ∧ (∀ w, w < 16 → u.rdN (R.FLT_NEXT l w) = words.getD w 0 ∧ u.rd (R.FLT_FIRST l w) = s.rd (R.FLT_FIRST l w)) ∧
        u.flt.skylarkIrq = s.flt.skylarkIrq) ∧
      (serves l = true → s.gb (F.FLT_LVLCTL_NEXTVALID l) = true → u.rdN (R.FLT_LVLOVF l) = min (s.rdN (R.FLT_LVLOVF l) + 1) (2 ^ 32 - 1) ∧
        (∀ w, w < 16 → u.rd (R.FLT_NEXT l w) = s.rd (R.FLT_NEXT l w) ∧ u.rd (R.FLT_FIRST l w) = s.rd (R.FLT_FIRST l w))) ∧
      (∀ i, declares → r.blame < 65536 → i < 64 → s.gb (F.FLT_FAULTED_VALID i) = false → (∀ j, j < i → s.gb (F.FLT_FAULTED_VALID j) = true) →
        u.gb (F.FLT_FAULTED_VALID i) = true ∧ u.gf (F.FLT_FAULTED_UNIT i) = r.blame ∧ u.rd64 (R.FLT_CNT 3) = (s.rd64 (R.FLT_CNT 3) + 1) % 2 ^ 48 ∧ ⟨0x0503, 0, 0x0500, r.blame, [0, 0, 0, 0, 0, 0, fn]⟩ ∈ u.flt.arriving) ∧
      (declares → (∀ j, j < 64 → s.gb (F.FLT_FAULTED_VALID j) = true) → ⟨0x0504, 0, 0x0500, r.blame, [0, 0, 0, 0, 0, 0, fn]⟩ ∈ u.flt.arriving ∧ u.rd64 (R.FLT_CNT 3) = s.rd64 (R.FLT_CNT 3)) ∧
      (¬declares → ∀ j, j < 64 → u.rd (R.FLT_FAULTED j) = s.rd (R.FLT_FAULTED j)) ∧
      (l = 4 → u.gb F.FLT_STATUS_DEVFATAL = true ∧ u.flt.faultLow = true ∧ (r.blame / 256 = 3 → u.tkuState = 0)) ∧ (l ≠ 4 → u.gb F.FLT_STATUS_DEVFATAL = s.gb F.FLT_STATUS_DEVFATAL ∧ u.tku = s.tku) ∧
      (free ∨ b.used + 10 ^ 9 ≤ burst * 10 ^ 9 → u.evr.fltIn = s.evr.fltIn ++ [(⟨r, st, if r.code = 0x0502 then 8 else 0, b.suppressed⟩, s.now)] ∧ u.rd64 (R.EVR_CNT 1) = s.rd64 (R.EVR_CNT 1) ∧
        tabGet (fun _ => {}) u.evr.buckets r.code = { b with used := if l = 4 ∨ r.code = 0x0401 ∨ r.code = 0x0406 ∨ r.code = 0x0402 ∨ rate = 0 then b.used else b.used + 10 ^ 9, suppressed := 0 }) ∧
      (¬free → burst * 10 ^ 9 < b.used + 10 ^ 9 → u.evr.fltIn = s.evr.fltIn ∧ u.rd64 (R.EVR_CNT 1) = (s.rd64 (R.EVR_CNT 1) + 1) % 2 ^ 48 ∧
        tabGet (fun _ => {}) u.evr.buckets r.code = { b with suppressed := min 65535 (b.suppressed + 1) }))) ∧
  (∀ (r : Record) (keep : Bool) (lap : Nat),
    let b := recordBytes r keep lap
    let fld (at_ n : Nat) : Nat := ofLe ((b.drop at_).take n)
    b.length = 64 ∧ fld 0 12 = fullOf r.stamp.time % 2 ^ 96 ∧ fld 12 1 = r.stamp.bound % 256 ∧ fld 13 1 = (r.rep.sev + r.flags + if keep then 16 else 0) % 256 ∧ fld 14 2 = r.rep.code % 2 ^ 16 ∧
    fld 16 4 = r.stamp.seq % 2 ^ 32 ∧ fld 20 2 = r.stamp.domain % 2 ^ 16 ∧ fld 22 2 = r.rep.blame % 2 ^ 16 ∧ fld 24 2 = r.rep.reporter % 2 ^ 16 ∧ fld 26 2 = r.suppressed % 2 ^ 16 ∧
    (∀ w, w < 7 → fld (28 + 4 * w) 4 = r.rep.detail.getD w 0 % 2 ^ 32) ∧ fld 56 4 = crc32c (b.take 56) ∧ fld 60 4 = 0xC3 + lap % 256 * 256 ∧
    recordValid b lap = true ∧ ∀ l, recordValid (List.replicate 64 0xFF) l = false) ∧
  (∀ (s : State) (m : Master) (l : Fin 5) (token : BitVec 16), s.accepts m (R.FLT_LVLCTL l) = true →
    let serves (k : Nat) : Bool := bitAt (s.gf F.FLT_STATUS_INSERV) k
    let ends : Prop := serves l = true ∧ s.rdN (R.FLT_FIRST l 4) % 65536 = token.toNat
    let higher : Prop := ∃ k, k < 5 ∧ l.val < k ∧ serves k = true
    (¬ends → completes (.ladderDone m l token) s fun u => u = { s with regs := u.regs } ∧ regsBut s u (· == R.FLT_LVLCTL l) ∧ u.gb (F.FLT_LVLCTL_ERR l) = true ∧
      u.gb (F.FLT_LVLCTL_NEXTVALID l) = s.gb (F.FLT_LVLCTL_NEXTVALID l) ∧ u.gf (F.FLT_LVLCTL_TOKEN l) = token.toNat) ∧
    (ends → s.gb (F.FLT_LVLCTL_NEXTVALID l) = true → completes (.ladderDone m l token) s fun u =>
      (∀ w, w < 16 → u.rd (R.FLT_FIRST l w) = s.rd (R.FLT_NEXT l w) ∧ u.rd (R.FLT_NEXT l w) = 0) ∧ u.gb (F.FLT_LVLCTL_NEXTVALID l) = false ∧ u.rd R.FLT_STATUS = s.rd R.FLT_STATUS ∧
      (¬higher → u.flt.skylarkIrq = s.flt.skylarkIrq ++ [l.val]) ∧ (higher → u.flt.skylarkIrq = s.flt.skylarkIrq ∧ l.val ∈ u.flt.deferred)) ∧
    (ends → s.gb (F.FLT_LVLCTL_NEXTVALID l) = false → completes (.ladderDone m l token) s fun u =>
      (∀ k, k < 5 → bitAt (u.gf F.FLT_STATUS_INSERV) k = if k = l.val then false else serves k) ∧ u.gb F.FLT_STATUS_DEVFATAL = s.gb F.FLT_STATUS_DEVFATAL ∧
      (∀ w, w < 16 → u.rd (R.FLT_FIRST l w) = s.rd (R.FLT_FIRST l w)) ∧ ∃ told, u.flt.skylarkIrq = s.flt.skylarkIrq ++ told ∧
      ∀ k, k < 5 → (k ∈ told ↔ k ∈ s.flt.deferred ∧ ∀ j, j < 5 → k < j → bitAt (u.gf F.FLT_STATUS_INSERV) j = false) ∧ (k ∈ u.flt.deferred ↔ k ∈ s.flt.deferred ∧ k ∉ told))) ∧
  (∀ s : State,
    let summary (p : FoldPair) : Report := ⟨0x0502, p.sev, 0x0500, p.unit, [p.code + p.sev * 2 ^ 16, min p.count (2 ^ 32 - 1), fullOf p.first.time % 2 ^ 32, fullOf p.first.time / 2 ^ 32 % 2 ^ 32,
      fullOf p.first.time / 2 ^ 64, p.first.bound, p.fn]⟩
    (s.now < s.flt.windowEnd → exec .stormWindowEnd s = .next s) ∧
    (s.flt.windowEnd ≤ s.now → completes .stormWindowEnd s fun u => u = { s with regs := u.regs, flt := u.flt } ∧ reported s u (s.flt.folds.map summary) ∧ u.flt.folds = [] ∧ u.flt.counts = [] ∧ u.flt.byCount = [] ∧
      u.flt.windowEnd = s.flt.windowEnd + 1000000 ∧ u.flt.thresh = s.gf F.FLT_STORM_THRESH ∧ (s.flt.folds ≠ [] → u.rd64 (R.FLT_CNT 2) = (s.rd64 (R.FLT_CNT 2) + s.flt.folds.length) % 2 ^ 48) ∧ (s.flt.folds = [] → u.regs = s.regs)) ∧
    ∀ (m : Master) (i : Fin 64), s.accepts m (R.FLT_FAULTED i) = true →
      (s.gb (F.FLT_FAULTED_VALID i) = false → exec (.declarationClear m i) s = .next s) ∧
      (s.gb (F.FLT_FAULTED_VALID i) = true → let unit := s.gf (F.FLT_FAULTED_UNIT i); completes (.declarationClear m i) s fun u => u = { s with regs := u.regs, flt := u.flt } ∧
        u.gb (F.FLT_FAULTED_VALID i) = false ∧ (∀ j, j < 64 → j ≠ i.val → u.rd (R.FLT_FAULTED j) = s.rd (R.FLT_FAULTED j)) ∧ u.flt.folds = s.flt.folds.filter (fun p => p.unit ≠ unit) ∧
        reported s u ((s.flt.folds.filter fun p => p.unit = unit).map summary))) ∧
  (∀ s : State, s.works 0x04 islSYS = true →
    let k := s.rdN R.EVR_KEEPSTAT
    let room : Prop := s.evr.staging.length < 64
    let sector : Prop := k % 1024 ≠ 0 ∨ k < 65536 ∨ k - 65536 + 1023 < s.rdN R.EVR_KEEPACK
    let writes (r : Record) : Prop := completes .recordWrite s fun u =>
      let keeps : Prop := r.rep.code = 0x0401 ∨ r.rep.code = 0x0406 ∨ r.rep.code = 0x0402 ∨ s.gf F.EVR_CFG_KEEPSEV ≤ r.rep.sev
      let c := s.rdN R.EVR_CIRCPI
      let n := 2 ^ s.gf F.EVR_CIRCLOG2_LOG2N
      let a := s.rd64 R.EVR_CIRCBASE + 64 * (c % n)
      u.rd64 (R.EVR_CNT 0) = (s.rd64 (R.EVR_CNT 0) + 1) % 2 ^ 48 ∧
      (keeps → room → sector → u.evr.staging = s.evr.staging ++ [(k, r)] ∧ u.rdN R.EVR_KEEPSTAT = (k + 1) % 2 ^ 32) ∧
      (keeps → ¬room → u.evr.staging = s.evr.staging ∧ u.rd64 (R.EVR_CNT 3) = (s.rd64 (R.EVR_CNT 3) + 1) % 2 ^ 48) ∧
      (keeps → room → ¬sector → u.evr.staging = s.evr.staging ∧ u.rd64 (R.EVR_CNT 4) = (s.rd64 (R.EVR_CNT 4) + 1) % 2 ^ 48 ∧ (s.evr.keepFullLogged = false → reported s u [⟨0x0403, 2, 0x0400, 0x0400, []⟩])) ∧
      (¬keeps → u.evr.staging = s.evr.staging ∧ u.rd R.EVR_KEEPSTAT = s.rd R.EVR_KEEPSTAT) ∧
      (s.gb F.EVR_CFG_CIRCEN = true → u.rdN R.EVR_CIRCPI = (c + 1) % 2 ^ 32 ∧ (∃ kept : Bool, (kept = true ↔ keeps ∧ room ∧ sector) ∧ memRead hbmDefault u.hbm a 64 = recordBytes r kept (c / n % 256)) ∧
        ∀ x, x < a ∨ a + 64 ≤ x → tabGet hbmDefault u.hbm x = tabGet hbmDefault s.hbm x) ∧
      (s.gb F.EVR_CFG_CIRCEN = false → u.hbm = s.hbm ∧ u.rd R.EVR_CIRCPI = s.rd R.EVR_CIRCPI) ∧
      ∀ p, p < 2 → (let f := s.gf (F.EVR_MIRROR_FN p)
        let x := s.mirror p
        let lg := s.gf (F.EVR_MIRROR_LOG2N p)
        let base := s.rd64 (R.EVR_MIRRORBASE p)
        let full : Prop := (x.count % 2 ^ (lg + 1) + 2 ^ (lg + 1) - x.ci % 2 ^ (lg + 1)) % 2 ^ (lg + 1) = 2 ^ lg
        let to_ : Prop := s.gb (F.EVR_MIRROR_EN p) = true ∧ s.gf F.EVR_CFG_MIRRORSEV ≤ r.rep.sev
        (¬to_ → u.mirror p = x) ∧ (to_ → x.wait ≠ [] ∨ full → u.mirror p = { x with wait := x.wait ++ [r] }) ∧
        (to_ → x.wait = [] → ¬full → u.mirror p = { x with count := x.count + 1, full := false } ∧ ((s.fn p f).bme = true →
          .hostWrite p f base (leBytes 4 ((x.count + 1) % 2 ^ (lg + 1))) ∈ u.out ∧ .hostWrite p f (base + 64 + 64 * (x.count % 2 ^ lg) + 60) (recordMark (x.count / 2 ^ lg)) ∈ u.out)))
    (s.rst.bootRec ≠ none ∨ (s.evr.fltIn = [] ∧ s.evr.tkuIn = []) → exec .recordWrite s = .next s) ∧
    (∀ r t rest, s.rst.bootRec = none → s.evr.fltIn = (r, t) :: rest → s.evr.tkuIn = [] → (t + 4000 ≤ s.now → writes r ∧ completes .recordWrite s fun u => u.evr.fltIn = rest) ∧ (s.now < t + 4000 → exec .recordWrite s = .next s)) ∧
    (∀ r t rest, s.rst.bootRec = none → s.evr.tkuIn = (r, t) :: rest → s.evr.fltIn = [] → (t + 4000 ≤ s.now → writes r ∧ completes .recordWrite s fun u => u.evr.tkuIn = rest) ∧ (s.now < t + 4000 → exec .recordWrite s = .next s)) ∧
    (∀ a ta rest b tb rest' x y, s.rst.bootRec = none → s.evr.fltIn = (a, ta) :: rest → s.evr.tkuIn = (b, tb) :: rest' → effUpper s.evr.fltIn = some x → effUpper s.evr.tkuIn = some y →
      (x < y → writes a ∧ completes .recordWrite s fun u => u.evr.fltIn = rest ∧ u.evr.tkuIn = s.evr.tkuIn) ∧ (y < x → writes b ∧ completes .recordWrite s fun u => u.evr.fltIn = s.evr.fltIn ∧ u.evr.tkuIn = rest')) ∧
    (∀ (p : Fin 2) (ci : Option Word),
      let x := s.mirror p
      let lg := s.gf (F.EVR_MIRROR_LOG2N p)
      let c := match ci with | some v => v.toNat | none => x.ci
      let full : Prop := (x.count % 2 ^ (lg + 1) + 2 ^ (lg + 1) - c % 2 ^ (lg + 1)) % 2 ^ (lg + 1) = 2 ^ lg
      (x.wait = [] → exec (.mirrorCiReread p ci) s = .next s) ∧
      (∀ r rest, x.wait = r :: rest →
        (full → completes (.mirrorCiReread p ci) s fun u => u.mirror p = { x with ci := c, wait := rest, lost := min (2 ^ 32 - 1) (x.lost + 1), full := true } ∧ u.rd64 (R.EVR_CNT 6) = (s.rd64 (R.EVR_CNT 6) + 1) % 2 ^ 48) ∧
        (¬full → completes (.mirrorCiReread p ci) s fun u => x.count < (u.mirror p).count ∧ (u.mirror p).count + (u.mirror p).wait.length = x.count + x.wait.length ∧ (u.mirror p).lost = x.lost ∧
          (u.mirror p).ci = c ∧ u.rd64 (R.EVR_CNT 6) = s.rd64 (R.EVR_CNT 6)))) ∧
    (∀ ok : Bool, s.cfs.held = true ∨ s.evr.staging = [] → exec (.keepProgram ok) s = .next s) ∧
    (∀ n r rest, s.cfs.held = false → s.evr.staging = (n, r) :: rest →
      let a := 0x3C00000 + 64 * (n % 65536)
      let boot : Prop := r.rep.code = 0x0401 ∨ r.rep.code = 0x0406
      (completes (.keepProgram false) s fun u => u.evr = { s.evr with staging := rest } ∧ u.flash = s.flash ∧ u.regs = s.regs ∧ reported s u [⟨0x0405, 2, 0x0400, 0x0400, []⟩]) ∧
      (completes (.keepProgram true) s fun u => u.evr.staging = rest ∧ u.rd64 (R.EVR_CNT 2) = (s.rd64 (R.EVR_CNT 2) + 1) % 2 ^ 48 ∧ memRead flashDefault u.flash a 64 = recordBytes r true (n / 65536) ∧
        (∀ x, x < a ∨ a + 64 ≤ x → tabGet flashDefault u.flash x = if n % 1024 = 0 ∧ a ≤ x ∧ x < a + 65536 then 0xFF else tabGet flashDefault s.flash x) ∧
        (boot → u.evr.bootRec = some (n, r.rep.detail)) ∧ (¬boot → u.evr.bootRec = s.evr.bootRec) ∧
        (∀ h d, ¬boot → n % 1024 = 0 → s.evr.bootRec = some (h, d) → (n / 1024 + 1) % 64 = h / 1024 % 64 → h / 1024 ≠ n / 1024 → reported s u [⟨0x0406, 0, 0x0400, 0x0400, d.take 3 ++ [d.getD 3 0 ||| 4] ++ d.drop 4⟩]) ∧
        (n % 1024 ≠ 0 ∨ (¬boot ∧ s.evr.bootRec = none) → u.flt = s.flt)))) ∧
  (∀ (s : State) (m : Master) (v : Word), s.accepts m R.EVR_KEEPACK = true →
    (v.toNat < s.rdN R.EVR_KEEPACK → exec (.keepack m v) s = .next s) ∧
    (s.rdN R.EVR_KEEPACK ≤ v.toNat → completes (.keepack m v) s fun u => u = { s with regs := u.regs, evr := { s.evr with keepFullLogged := false } } ∧ regsBut s u (· == R.EVR_KEEPACK) ∧
      u.rdN R.EVR_KEEPACK = min v.toNat (s.rdN R.EVR_KEEPSTAT))) ∧
  (∀ (s : State) (m : Master) (area : BitVec 2), s.accepts m R.EVR_RCMD = true →
    let n := s.rdN R.EVR_RINDEX
    let size := if area = 0 then 2 ^ s.gf F.EVR_CIRCLOG2_LOG2N else 65536
    let next := if area = 0 then s.rdN R.EVR_CIRCPI else s.rdN R.EVR_KEEPSTAT
    let held : Prop := n < next ∧ next ≤ n + size ∧ (area = 1 → ∀ e ∈ s.evr.staging, e.1 ≠ n)
    let l := if area = 0 then memRead hbmDefault s.hbm (s.rd64 R.EVR_CIRCBASE + 64 * (n % size)) 64 else memRead flashDefault s.flash (0x3C00000 + 64 * (n % size)) 64
    let good : Prop := recordValid l (n / size % 256) = true
    completes (.recordRead m area) s fun u => u = { s with regs := u.regs } ∧ u.gf F.EVR_RCMD_AREA = area.toNat ∧
      u.gf F.EVR_RCMD_STATUS = (if area.toNat < 2 then (if held then (if good then 0 else 2) else 1) else 3) ∧
      (area.toNat < 2 → held → good → ∀ w, w < 16 → u.rdN (R.EVR_RDATA w) = ofLe ((l.drop (4 * w)).take 4)) ∧
      (¬(area.toNat < 2 ∧ held ∧ good) → regsBut s u (· == R.EVR_RCMD)))

/-- Clocks, resets and start (R458, R461, R464, R465, R478 to R493, R495, R497, R505 to R511, R556). A source change stops an island, switches it and starts it again with its state held; a PLL that loses lock moves its islands to the reference until it has locked again; a lost
reference stops every island but AON. Blocks are enabled, reset and gated, the three resets of the device leave what R489's table says, sensors throttle and trip the device, the age meter counts, and the ROM and the firmware start the device or put it in Safe-Talk. What
the specification leaves open of these is the model's choice (log entries 49 to 56 and 59). -/
def Obligations.ClocksResetsAndStartKeepTheirRules : Prop :=
  (∀ (s : State) (i : Fin 80),
    let run := s.gb (F.CGU_ISL_RUNNING i)
    let cur := s.gf (F.CGU_ISL_CURSRC i)
    let want (src : Bool) : Nat := if src = true ∨ s.pllGood (pllOf i) = false then 1 else 0
    let halts (u : State) : Prop := u.gb (F.CGU_ISL_RUNNING i) = false ∧ u.counter i = s.counter i ∧ (u.island i).aligned = false ∧ ∀ j, j ≠ i.val → u.island j = s.island j
    (∀ (m : Master) (v : Fin 2), s.accepts m (R.CGU_ISL i) = true →
      (i = 0 → exec (.clockSwitch m i v) s = .next s) ∧
      (i ≠ 0 → run = true → s.switching i = none → cur ≠ want (v == 1) → completes (.clockSwitch m i v) s fun u => u = { s with regs := u.regs, islands := u.islands, cgu := u.cgu } ∧ u.gb (F.CGU_ISL_SRC i) = (v == 1) ∧ halts u ∧
        u.switching i = some ⟨want (v == 1), s.now, true, false⟩ ∧ regsBut s u (· == R.CGU_ISL i)) ∧
      (i ≠ 0 → run = false ∨ s.switching i ≠ none ∨ cur = want (v == 1) → completes (.clockSwitch m i v) s fun u => u = { s with regs := u.regs } ∧ u.gb (F.CGU_ISL_SRC i) = (v == 1) ∧ u.gb (F.CGU_ISL_RUNNING i) = run ∧
        regsBut s u (· == R.CGU_ISL i)) ∧
      (let may : Prop := (13 ≤ i.val ∧ i.val ≤ 76 ∧ s.gb (F.ENG_SWCTL_STOPPED (i - 13)) = true) ∨ (4 ≤ i.val ∧ i.val ≤ 7 ∧ (s.quadMode (i - 4) = 0 ∨ s.quadStopped (i - 4) = true));
        (¬may → exec (.islandStopRequest m i true) s = .next (s.cfgViol m (R.CGU_ISL i))) ∧
        (may → completes (.islandStopRequest m i true) s fun u => u.gb (F.CGU_ISL_STOPREQ i) = true ∧ u.gb (F.CGU_ISL_RUNNING i) = false ∧ (run = true → halts u) ∧ u.flt = s.flt)) ∧
      (s.gb (F.CGU_ISL_STOPREQ i) = false → exec (.islandStopRequest m i false) s = .next s) ∧
      (s.gb (F.CGU_ISL_STOPREQ i) = true → completes (.islandStopRequest m i false) s fun u => u.gb (F.CGU_ISL_STOPREQ i) = false ∧ u.flt = s.flt ∧
        (13 ≤ i.val → i.val ≤ 76 → s.gb F.CGU_REFSTAT_REFGOOD = true → s.enabled 0xC0 = true → run = false → s.switching i = none → u.gb (F.CGU_ISL_RUNNING i) = true ∧ u.counter i = ((s.island i).held.getD 0) ∧
          (s.gb (F.ENG_SWCTL_RUN (i - 13)) = true → u.gb (F.ENG_SWCTL_STOPPED (i - 13)) = false)))) ∧
    (s.switching i = none → exec (.cguSwitchForced i) s = .next s ∧ ∀ lost, exec (.switchRestart i lost) s = .next s) ∧
    (∀ w : SwitchSt, s.switching i = some w →
      let forces : Prop := w.alive = false ∧ w.forced = false ∧ w.at_ + 640 ≤ s.now
      let due : Prop := (w.alive = true ∨ w.forced = true) ∧ w.at_ + (if w.src = 0 then 4 else if i = 0 then 40 else 26) ≤ s.now
      (¬forces → exec (.cguSwitchForced i) s = .next s) ∧
      (forces → completes (.cguSwitchForced i) s fun u => u.gb (F.CGU_ISL_LOSS_UNKNOWN i) = true ∧ u.gf (F.CGU_ISL_LOSTCYC i) = 0xFFFF ∧ u.rdN (R.CGU_SWITCHES i) = min (s.rdN (R.CGU_SWITCHES i) + 1) (2 ^ 32 - 1) ∧
        reported s u [⟨0x0107, 1, 0x0100 + i.val, 0x0100 + i.val, []⟩] ∧ u.switching i = some ⟨w.src, s.now, false, true⟩ ∧ u.islands = s.islands) ∧
      ∀ lost : Nat, (¬due → exec (.switchRestart i lost) s = .next s) ∧
        (due → w.src = want (s.gb (F.CGU_ISL_SRC i)) → i ≠ 0 → completes (.switchRestart i lost) s fun u => u.switching i = none ∧ u.gf (F.CGU_ISL_CURSRC i) = w.src ∧
          (s.wantsRun i = true → u.gb (F.CGU_ISL_RUNNING i) = true ∧ u.counter i = (s.island i).held.getD 0 ∧ (u.island i).aligned = false) ∧
          (w.forced = false → u.gf (F.CGU_ISL_LOSTCYC i) = min lost 0xFFFE ∧ u.rdN (R.CGU_SWITCHES i) = min (s.rdN (R.CGU_SWITCHES i) + 1) (2 ^ 32 - 1) ∧ reported s u [⟨0x0106, 0, 0x0100 + i.val, 0x0100 + i.val, []⟩]) ∧
          (w.forced = true → u.gf (F.CGU_ISL_LOSTCYC i) = s.gf (F.CGU_ISL_LOSTCYC i) ∧ u.rd (R.CGU_SWITCHES i) = s.rd (R.CGU_SWITCHES i) ∧ u.flt = s.flt)))) ∧
  (∀ (s : State) (k : Fin 13),
    let p : Option PllSt := tabGet (fun _ => none) s.cgu.plls k.val
    (∀ alive : Bool, bitAt (s.gf F.CGU_PLLSTAT_LOCK) k = false → exec (.cguPllUnlock k alive) s = .next s) ∧
    (∀ alive : Bool, bitAt (s.gf F.CGU_PLLSTAT_LOCK) k = true → completes (.cguPllUnlock k alive) s fun u => bitAt (u.gf F.CGU_PLLSTAT_LOCK) k = false ∧ tabGet (fun _ => none) u.cgu.plls k.val = some ⟨s.now, false⟩ ∧
      (∃ l, reported s u (⟨0x0104, 2, 0x0100, 0x0100, []⟩ :: l)) ∧
      (∀ i : Fin 80, k.val ≤ 4 → pllOf i = k.val → s.gb (F.CGU_ISL_RUNNING i) = true → s.gf (F.CGU_ISL_CURSRC i) = 0 → s.switching i = none →
        u.switching i = some ⟨1, s.now, alive, false⟩ ∧ u.gb (F.CGU_ISL_RUNNING i) = false ∧ u.counter i = s.counter i) ∧
      (∀ n, 5 ≤ k.val → k.val ≤ 8 → n < 16 → n / 4 = k.val - 5 → u.gb (F.MAC_STATUS_LINK n) = false) ∧ (11 ≤ k.val → u.linkIsUp (k - 11) = false)) ∧
    (let due : Prop := ∃ x, p = some x ∧ s.gb F.CGU_REFSTAT_REFGOOD = true ∧ x.at_ + 1000000 ≤ s.now;
      (due → completes (.pllRetry k) s fun u => u = { s with cgu := { s.cgu with plls := u.cgu.plls } } ∧ tabGet (fun _ => none) u.cgu.plls k.val = some ⟨s.now, true⟩) ∧ (¬due → exec (.pllRetry k) s = .next s)) ∧
    (let due : Prop := ∃ x, p = some x ∧ x.retry = true ∧ s.gb F.CGU_REFSTAT_REFGOOD = true ∧ x.at_ + 100000 ≤ s.now;
      (¬due → exec (.cguPllRelock k) s = .next s) ∧
      (due → completes (.cguPllRelock k) s fun u => u.pllGood k = true ∧ reported s u [⟨0x0105, 0, 0x0100, 0x0100, []⟩] ∧
        ∀ i : Fin 80, pllOf i = k.val → s.gb (F.CGU_ISL_RUNNING i) = true → s.gf (F.CGU_ISL_CURSRC i) = 1 → s.gb (F.CGU_ISL_SRC i) = false → s.switching i = none →
          u.switching i = some ⟨0, s.now, true, false⟩ ∧ u.gb (F.CGU_ISL_RUNNING i) = false ∧ u.counter i = s.counter i))) ∧
  (∀ s : State,
    let good := s.gb F.CGU_REFSTAT_REFGOOD
    (good = false → exec .cguRefFail s = .next s) ∧
    (good = true → completes .cguRefFail s fun u => u.gb F.CGU_REFSTAT_REFGOOD = false ∧ u.gf F.CGU_REFSTAT_FAILCNT = min (s.gf F.CGU_REFSTAT_FAILCNT + 1) 65535 ∧ u.tkuState = 0 ∧ u.tku.dt = s.tku.dt ∧ u.gf F.RST_STATE_PSTATE = 2 ∧
      u.cgu.prev = s.gf F.RST_STATE_PSTATE ∧ (∃ l, reported s u (l ++ [⟨0x0101, 2, 0x0100, 0x0100, []⟩])) ∧
      u.out = .gpio (some (s.rdN R.CGU_GPIOSAFE)) :: .pin "PPSO" false :: .pin "SERDES_IDLE" true :: s.out ∧ u.gf F.CGU_PLLSTAT_LOCK = 0 ∧
      (∀ i : Fin 80, i ≠ 0 → u.gb (F.CGU_ISL_RUNNING i) = false ∧ u.switching i = none ∧ (s.gb (F.CGU_ISL_RUNNING i) = true → u.gb (F.CGU_ISL_LOSS_UNKNOWN i) = true ∧ u.counter i = s.counter i)) ∧
      (s.gb (F.CGU_ISL_RUNNING 0) = true → s.gf (F.CGU_ISL_CURSRC 0) = 0 → s.switching 0 = none → u.switching 0 = some ⟨1, s.now, false, false⟩)) ∧
    ∀ n : Word, (good = true ∨ s.gf F.RST_STATE_PSTATE ≠ 2 → exec (.refRecover n) s = .next s) ∧
      (good = false → s.gf F.RST_STATE_PSTATE = 2 → s.cgu.prev < 8 → s.gb (F.HP_STATUS_LINKUP 0) = false → s.gb (F.HP_STATUS_LINKUP 1) = false → completes (.refRecover n) s fun u =>
        u.gb F.CGU_REFSTAT_REFGOOD = true ∧ u.rd R.CGU_REFCOUNT = n ∧ u.gf F.RST_STATE_PSTATE = s.cgu.prev ∧ reported s u [⟨0x0102, 0, 0x0100, 0x0100, []⟩] ∧ u.out = .gpio none :: .pin "SERDES_IDLE" false :: s.out ∧
        ∀ i : Fin 80, i ≠ 0 → s.gb (F.CGU_ISL_RUNNING i) = false → s.switching i = none → s.gb (F.CGU_ISL_STOPREQ i) = false → (i = 1 ∨ ∃ b, b < 256 ∧ s.enabled b = true ∧ i.val ∈ islandsOf b) →
          u.gb (F.CGU_ISL_RUNNING i) = true ∧ u.counter i = (s.island i).held.getD 0)) ∧
  (∀ (s : State) (m : Master) (b : BitVec 8), s.accepts m (R.CGU_CLKEN b.toNat) = true →
    let k := b.toNat
    let on := s.gb (F.CGU_CLKEN_EN k)
    let talk : Prop := s.gf F.RST_STATE_PSTATE = 3
    let viol : Outcome := .next (s.cfgViol m (R.CGU_CLKEN k))
    let resettable : Prop := k = 0x60 ∨ k = 0xC0 ∨ k = 0xA0 ∨ k = 0xB0 ∨ k = 0x88 ∨ k = 0xF0
    (assignedBlock k = false → exec (.blockEnable m b) s = viol) ∧ (assignedBlock k = true → alwaysClocked k = true ∨ on = true → exec (.blockEnable m b) s = .next s) ∧
    (assignedBlock k = true → alwaysClocked k = false → on = false → talk → k ≠ 0x10 → k ≠ 0x11 → exec (.blockEnable m b) s = viol) ∧
    (assignedBlock k = true → alwaysClocked k = false → on = false → ¬talk ∨ k = 0x10 ∨ k = 0x11 → completes (.blockEnable m b) s fun u => u = { s with regs := u.regs } ∧ u.gb (F.CGU_CLKEN_EN k) = true ∧
      regsBut s u (· == R.CGU_CLKEN k)) ∧
    (s.enabled k = false ∨ alwaysClocked k = true → exec (.blockGate m b) s = .next s) ∧
    (s.enabled k = true → alwaysClocked k = false → ¬resettable → exec (.blockGate m b) s = viol) ∧
    (s.enabled k = true → resettable → completes (.blockGate m b) s fun u => u.gb (F.CGU_CLKEN_EN k) = false ∧ u.gb (F.CGU_CLKEN_ACTIVE k) = false ∧ (∃ l, reported s u (⟨0x0202, 0, 0x0200, 0x0200, []⟩ :: l)) ∧
      (k = 0xC0 → ∀ w : Fin 64, u.gb (F.CGU_ISL_RUNNING (islSW w)) = false ∧ ∀ t : Fin 128, u.thread (w * 128 + t) = {}) ∧ (k = 0x60 → ∀ q : Fin 4, u.gb (F.CGU_ISL_RUNNING (islNQ q)) = false) ∧
      (k = 0xF0 → u.gb (F.CGU_ISL_RUNNING islSTK) = false ∧ u.stk = {}) ∧ (k = 0xA0 → ∀ i, u.sa i = {}) ∧ (k = 0xB0 → ∀ i, u.xpt i = {}))) ∧
  (∀ (s : State) (b : BitVec 8),
    let k := b.toNat
    let starts : Prop := s.enabled k = true ∧ alwaysClocked k = false ∧ s.gb (F.CGU_CLKEN_ACTIVE k) = false
    (¬starts → exec (.blockActive b) s = .next s) ∧
    (starts → s.gb F.CGU_REFSTAT_REFGOOD = true → (∀ i ∈ islandsOf k, s.switching i = none) → completes (.blockActive b) s fun u => u.gb (F.CGU_CLKEN_ACTIVE k) = true ∧ u.gb (F.CGU_CLKEN_EN k) = true ∧ u.flt = s.flt ∧
      ∀ i ∈ islandsOf k, s.gb (F.CGU_ISL_STOPREQ i) = false → u.gb (F.CGU_ISL_RUNNING i) = true)) ∧
  (∀ (s : State) (m : Master) (inst : BitVec 6), s.accepts m R.RST_BLK = true →
    let i := inst.toNat
    let busy := s.gb F.RST_BLK_BUSY
    let runs (c : Instr) (b n : Nat) (islands : List Nat) (ns : Nat) (P : State → Prop) : Prop :=
      (busy = true → completes c s fun u => u = { s with regs := u.regs } ∧ regsBut s u (· == R.RST_BLK) ∧ u.gb F.RST_BLK_BUSY = true ∧ u.gf F.RST_BLK_STATUS = s.gf F.RST_BLK_STATUS) ∧
      (busy = false → n ≤ i → completes c s fun u => u = { s with regs := u.regs } ∧ regsBut s u (· == R.RST_BLK) ∧ u.gb F.RST_BLK_BUSY = false ∧ u.gf F.RST_BLK_STATUS = 2) ∧
      (busy = false → i < n → completes c s fun u => u.gb F.RST_BLK_BUSY = true ∧ u.gf F.RST_BLK_STATUS = 0 ∧ u.gf F.RST_BLK_BLOCK = b ∧ u.gf F.RST_BLK_INST = i ∧ u.rst.busy = some (b, islands, s.now + ns) ∧
        (∃ l, reported s u (⟨0x0202, 0, 0x0200, 0x0200, []⟩ :: l)) ∧ P u)
    let clear (u : State) (b : Nat) : Prop := ∀ off, blockOf off = b → u.rd off = resetWord off
    let quads := if s.quadMode i = 5 then [i - i % 2, i - i % 2 + 1] else [i]
    runs (.blockResetMac m inst) 0x60 4 (quads.map islNQ) 200000 (fun u => ∀ q ∈ quads, u.gf (F.MAC_QUADMODE_MODE q) = 0 ∧ (u.island (islNQ q)).aligned = false ∧
      ∀ n, n / 4 = q → u.mac n = {} ∧ u.gb (F.MAC_STATUS_LINK n) = false ∧ u.gb (F.MAC_PORTCFG_EN n) = false) ∧
    runs (.blockResetEng m inst) 0xC0 64 [islSW i] 20000 (fun u => (∀ t : Fin 128, u.thread (i * 128 + t) = {}) ∧ (∀ c, c / 256 = i → u.chan c = {}) ∧ u.gb (F.ENG_SWCTL_RUN i) = false ∧
      tabGet (fun _ => 0) u.eng.resetAt i = s.now ∧ (u.island (islSW i)).aligned = false ∧ ∀ t, t < 8192 → t / 128 ≠ i → u.thread t = s.thread t) ∧
    runs (.blockResetCry m inst) 0xA0 1 [islSHD] 2000000 (fun u => (∀ j, u.sa j = {}) ∧ u.sec.draws = s.sec.draws + 1 ∧ clear u 0xA0 ∧ u.sec.xpts = s.sec.xpts) ∧
    runs (.blockResetXpt m inst) 0xB0 1 [islSHD] 2000000 (fun u => (∀ j, u.xpt j = {}) ∧ clear u 0xB0 ∧ u.sec.sas = s.sec.sas) ∧
    runs (.blockResetOrs m inst) 0x88 1 [islSHD] 100000 (fun u => u.sec.flows = [] ∧ clear u 0x88 ∧ u.sec.sas = s.sec.sas) ∧
    runs (.blockResetStk m inst) 0xF0 1 [islSTK] 100000 (fun u => u.stk = {} ∧ clear u 0xF0 ∧ u.linkIsUp 0 = false ∧ u.linkIsUp 1 = false ∧ u.gf F.STK_STATUS_VIEW = 0 ∧ (u.island islSTK).aligned = false)) ∧
  (∀ s : State, (s.rst.busy = none → exec .blockResetDone s = .next s) ∧
    ∀ b l t, s.rst.busy = some (b, l, t) → (s.now < t → exec .blockResetDone s = .next s) ∧
      (t ≤ s.now → completes .blockResetDone s fun u => u.gb F.RST_BLK_BUSY = false ∧ u.rst = { s.rst with busy := none } ∧
        ∀ i, i < 64 → s.gb (F.FLT_FAULTED_VALID i) = true → u.gb (F.FLT_FAULTED_VALID i) = !unitIn b l (s.gf (F.FLT_FAULTED_UNIT i)))) ∧
  (∀ s : State,
    let warms (c : Instr) (cause : Nat) : Prop := completes c s fun u => u.pending = s.pending ∧ u.now = s.now ∧ u.tku.dt = s.tku.dt ∧ u.flash = s.flash ∧ u.fuse = s.fuse ∧ u.gf F.RST_STATE_CAUSE = cause ∧ u.gf F.RST_STATE_PSTATE = (if s.gb F.CGU_REFSTAT_REFGOOD then 0 else 2) ∧
      u.gb F.FLT_STATUS_DEVFATAL = false ∧ u.gf F.FLT_STATUS_INSERV = s.gf F.FLT_STATUS_INSERV ∧ (∀ off, blockOf off = 5 → off ≠ R.FLT_STATUS → u.rd off = s.rd off) ∧ (∀ off, blockOf off = 3 → off ≠ R.TKU_PTMCTL 0 → off ≠ R.TKU_PTMCTL 1 → u.rd off = s.rd off) ∧
      (∃ l, reported s u (⟨0x0201, 0, 0x0200, 0x0200, []⟩ :: l)) ∧ u.evr.staging = s.evr.staging ∧ u.evr.fltIn = s.evr.fltIn ∧ u.evr.tkuIn = s.evr.tkuIn ∧ u.rd R.EVR_KEEPSTAT = s.rd R.EVR_KEEPSTAT ∧
      (∃ st, u.rst.bootRec = some (st, true, false)) ∧ u.rst.count = s.rst.count ∧ u.mgt.boot = 1 ∧ u.cfs.op = none ∧ u.chans = [] ∧ u.bufs = [] ∧ u.macs = [] ∧ u.pipes = [] ∧ u.tenants = [] ∧ u.eng = {} ∧ u.sec = { draws := s.sec.draws + 1 } ∧ u.stk = {} ∧
      (∀ g, (u.q g).st = 0 ∧ (u.q g).items = []) ∧ (∀ b : BitVec 8, u.gb (F.CGU_CLKEN_EN b.toNat) = alwaysClocked b.toNat) ∧ (∀ i : Fin 80, 2 ≤ i.val → u.gb (F.CGU_ISL_RUNNING i) = false) ∧
      ∀ off, blockOf off ∈ [0x20, 0x30, 0x40, 0x50, 0x60, 0x70, 0x71, 0x80, 0x88, 0x90, 0xA0, 0xB0, 0xC0, 0xE0, 0xF0] → u.rd off = resetWord off
    let tripped : Prop := s.gf F.RST_STATE_PSTATE = 4
    (¬tripped → warms (.warmReset none) 3) ∧ (tripped → exec (.warmReset none) s = .next s) ∧
    (∀ m : Master, s.accepts m R.RST_CTL = true → (¬tripped → warms (.warmReset (some m)) (match m with | .host _ _ => 1 | _ => 2)) ∧ (tripped → exec (.warmReset (some m)) s = .next s)) ∧
    (∀ m : Master, s.accepts m R.CFS_CTL = true → (s.gf F.RST_STATE_PSTATE = 3 → warms (.warmreq m) 2) ∧ (s.gf F.RST_STATE_PSTATE ≠ 3 → exec (.warmreq m) s = .next (s.cfgViol m R.CFS_CTL))) ∧
    (let manages (u : State) : Prop := (∀ off, blockOf off = 0xF8 → u.rd off = resetWord off) ∧ u.mgt = { boot := if s.gf F.RST_STATE_PSTATE = 0 then 1 else 2, board := s.mgt.board } ∧ u.gb F.TOP_MASTERS_MGTUP = false ∧
        (∀ l ∈ u.latches, l.m ≠ .skylark) ∧ (∀ l ∈ u.heldLow, l.m ≠ .skylark) ∧ u.tku = { s.tku with ptpQueue := [] } ∧ u.flt.skylarkIrq = [] ∧ u.hbm = s.hbm ∧ u.queues = s.queues ∧ u.stk = s.stk ∧
        (s.gf F.CFS_CMD_OWNER = 1 → u.gf F.CFS_CMD_OWNER = 0 ∧ u.cfs.op = none) ∧ (s.gf F.CFS_CMD_OWNER ≠ 1 → u.cfs = s.cfs);
      let due : Prop := s.gb F.RST_MGTWDOG_EN = true ∧ s.rst.kick + 1000000 * max 1 (s.gf F.RST_MGTWDOG_TMO) ≤ s.now;
      (∀ p f, s.accepts (.host p f) R.RST_CTL = true → completes (.managementReset (.host p f)) s fun u => manages u ∧ u.flt.arriving = s.flt.arriving) ∧
      (∀ m, (∀ p f, m ≠ .host p f) → s.accepts m R.RST_CTL = true → exec (.managementReset m) s = .next s) ∧
      (due → completes .rstMgtWdog s fun u => manages u ∧ reported s u [⟨0x0205, 2, 0x0200, 0x0200, []⟩] ∧ u.rst = { s.rst with kick := s.now }) ∧ (¬due → exec .rstMgtWdog s = .next s)) ∧
    (∀ m, s.accepts m R.RST_MGTWDOG = true → (m = .skylark → exec (.mgtWdogKick m) s = .next { s with rst := { s.rst with kick := s.now } }) ∧ (m ≠ .skylark → exec (.mgtWdogKick m) s = .next s)) ∧
    (∀ (bs id : BitVec 2) (stable : Option Word), completes (.powerOnReset bs id stable) s fun u => u.pending = s.pending ∧ u.flash = s.flash ∧ u.fuse = s.fuse ∧ u.hbm = [] ∧ u.seqs = [] ∧ u.queues = [] ∧ u.latches = [] ∧ u.mgt = {} ∧
      u.rst.count = (match s.evr.bootRec with | some (_, d) => d.getD 2 0 + 1 | none => 1) ∧ (∃ st, u.rst.bootRec = some (st, false, s.evr.bootRec.isNone)) ∧
      u.gf F.CFS_STAT_BOOTSEL = bs.toNat ∧ u.gf F.CFS_STAT_STACKID = id.toNat ∧ u.rd64 R.TOP_SERIAL = s.fuse.serial % 2 ^ 64 ∧ (∀ i, i < 80 → u.rdN (R.TKU_ISLDLY i) = tabGet (fun _ => 0) s.fuse.isldly i % 2 ^ 32) ∧
      u.rd R.EVR_KEEPACK = s.rd R.EVR_KEEPACK ∧ (∀ off, blockOf off = 5 → u.rd off = resetWord off) ∧
      (∀ n, stable = some n → u.tku.dt = 0 ∧ u.gf F.RST_STATE_PSTATE = 0 ∧ u.gb F.CGU_REFSTAT_REFGOOD = true ∧ u.gb F.CGU_REFSTAT_SUPVONLY = false ∧ u.rd R.CGU_REFCOUNT = n ∧ u.gb (F.CGU_ISL_RUNNING 1) = true ∧ u.now = 2691000) ∧
      (stable = none → u.gf F.RST_STATE_PSTATE = 2 ∧ u.gb F.CGU_REFSTAT_REFGOOD = false ∧ u.gb F.CGU_REFSTAT_SUPVONLY = true ∧ u.gb (F.CGU_ISL_RUNNING 1) = false)) ∧
    exec .pornFall s = .next { s with cfs := { s.cfs with held := true } }) ∧
  (∀ (s : State) (temps : List (BitVec 16)) (h : Int), (∀ t ∈ temps, t.toInt ≤ h) → (∃ t ∈ temps, t.toInt = h) →
    let due : Prop := temps.length = 8 ∧ s.rst.sampled + 10000 ≤ s.now
    let warn : Int := 16 * s.gf F.RST_THERM_WARN
    let hot := s.gb F.RST_THERM_THROTTLING
    (¬due → exec (.thermalSample temps) s = .next s) ∧
    (due → completes (.thermalSample temps) s fun u => u = { s with regs := u.regs, rst := u.rst, flt := u.flt } ∧ u.rst.sampled = s.now ∧
      u.rst.hot = (if 16 * (s.gf F.RST_THERM_TRIP : Int) ≤ h then some (s.rst.hot.getD s.now) else none) ∧ u.rst.hottest = some (max h (s.rst.hottest.getD h)) ∧
      (∀ k, k < 8 → u.gf (F.RST_TEMP_TEMP k) = (temps.getD k 0).toNat ∧ u.gf (F.RST_TEMP_MAX k) = if signedOf 16 (s.gf (F.RST_TEMP_MAX k)) < (temps.getD k 0).toInt then (temps.getD k 0).toNat else s.gf (F.RST_TEMP_MAX k)) ∧
      u.gb F.RST_THERM_THROTTLING = (if hot then !decide (h < warn - 80) else decide (warn ≤ h)) ∧ reported s u (if hot = false ∧ warn ≤ h then [⟨0x0203, 2, 0x0200, 0x0200, []⟩] else []))) ∧
  (∀ s : State,
    let trips : Prop := s.gf F.RST_STATE_PSTATE ≠ 4 ∧ ∃ t, s.rst.hot = some t ∧ t + 10000 ≤ s.now
    (¬trips → exec .rstThermtrip s = .next s) ∧
    (trips → completes .rstThermtrip s fun u => u.gf F.RST_STATE_PSTATE = 4 ∧ reported s u [⟨0x0204, 4, 0x0200, 0x0200, []⟩] ∧ .pin "THERMTRIP_N" false ∈ u.out ∧ .pin "SERDES_IDLE" true ∈ u.out ∧
      ∀ i : Fin 80, i ≠ 0 → u.gb (F.CGU_ISL_RUNNING i) = false) ∧
    (s.now < s.rst.minuteAt + 60000000000 → exec .ageMinute s = .next s) ∧
    (s.rst.minuteAt + 60000000000 ≤ s.now → ∀ e : Nat, -3600 ≤ s.rst.hottest.getD 0 → s.rst.hottest.getD 0 ≤ 4000 → e ^ 160 ≤ 2 ^ (s.rst.hottest.getD 0 + 3600).toNat → 2 ^ (s.rst.hottest.getD 0 + 3600).toNat < (e + 1) ^ 160 →
      completes .ageMinute s fun u => u = { s with fuse := u.fuse, rst := u.rst } ∧ u.rst.hottest = none ∧ u.rst.minuteAt = s.now ∧ u.rst.powered = (s.rst.powered + 1) % 1920 ∧
        u.rst.equiv = (s.rst.equiv + e) % (1920 * 2 ^ 32) ∧ u.fuse = { s.fuse with tallyP := min 8192 (s.fuse.tallyP + (s.rst.powered + 1) / 1920), tallyE := min 8192 (s.fuse.tallyE + (s.rst.equiv + e) / (1920 * 2 ^ 32)) })) ∧
  (∀ (s : State) (fails : List (Nat × Nat × Nat)),
    let rom : Prop := s.gb (F.CGU_ISL_RUNNING 1) = true ∧ s.mgt.boot = 1 ∧ s.gf F.RST_STATE_PSTATE = 0
    let again : Prop := s.gb (F.CGU_ISL_RUNNING 1) = true ∧ s.mgt.boot = 2
    let fw : Prop := s.gb (F.CGU_ISL_RUNNING 1) = true ∧ s.mgt.boot = 3 ∧ s.gf F.RST_STATE_PSTATE = 0
    let safe (u : State) (agent : Nat) : Prop := u.gf F.RST_STATE_PSTATE = 3 ∧ u.gf F.MGT_STATUS_AGENT = agent ∧ u.mgt.boot = 0 ∧ ⟨0xFC03, 4, 0xFC00, 0xFC00, []⟩ ∈ u.flt.arriving
    let found := s.slotOrder (s.gf F.CFS_STAT_BOOTSEL)
    (¬rom → ¬again → exec (.romBoot fails) s = .next s) ∧
    (rom → (∀ e ∈ fails, e.1 ≠ 0 ∧ e.1 ≠ 1) → s.gf F.CFS_STAT_BOOTSEL < 2 →
      (∀ k a b, found = a ++ k :: b → s.slotState k = 4 → (∀ j ∈ a, s.slotState j ≠ 4) → completes (.romBoot fails) s fun u => u.gf F.CFS_STAT_BOOTED = k ∧ u.mgt.boot = 3 ∧ u.gf F.RST_STATE_PSTATE = 0 ∧ u.rst.bootRec = none ∧
        (∀ t, t < 4 → u.testRes t = 1) ∧ u.gf (if k = 0 then F.CFS_STAT_STATEA else F.CFS_STAT_STATEB) = 4) ∧
      ((∀ k, k < 2 → s.slotState k ≠ 4) → completes (.romBoot fails) s fun u => safe u 1 ∧ u.gf F.CFS_STAT_BOOTED = 3 ∧ u.rst.bootRec = none ∧ (u.testRes 2 = 2 ∨ u.testRes 3 = 2))) ∧
    (rom → (∀ e ∈ fails, e.1 ≠ 0 ∧ e.1 ≠ 1) → 2 ≤ s.gf F.CFS_STAT_BOOTSEL → completes (.romBoot fails) s fun u => safe u 1 ∧ u.gf F.CFS_STAT_BOOTED = 3) ∧
    (rom → (∃ e ∈ fails, e.1 = 0 ∨ e.1 = 1) → completes (.romBoot fails) s fun u => safe u 1 ∧ (u.testRes 0 = 2 ∨ u.testRes 1 = 2)) ∧
    (again → (s.bootedOk = true → completes (.romBoot fails) s fun u => u.gf F.MGT_STATUS_AGENT = 2 ∧ u.gb F.TOP_MASTERS_MGTUP = true ∧ u.mgt.boot = 0 ∧ u.rd R.CFS_TESTRES = s.rd R.CFS_TESTRES) ∧
      (s.bootedOk = false → completes (.romBoot fails) s fun u => u.gf F.MGT_STATUS_AGENT = 1 ∧ u.mgt.boot = 0 ∧ u.rd R.CFS_TESTRES = s.rd R.CFS_TESTRES)) ∧
    ∀ blocks : List (Fin 256), (¬fw → exec (.firmwareBoot fails blocks) s = .next s) ∧
      (fw → (∀ t, t < 4 → s.testRes t = 1) →
        (fails = [] → completes (.firmwareBoot fails blocks) s fun u => u.gf F.RST_STATE_PSTATE = 1 ∧ u.gf F.MGT_STATUS_AGENT = 2 ∧ u.gb F.TOP_LOCK_LOCK = true ∧ u.gb F.TOP_MASTERS_MGTUP = true ∧ u.gb F.EVR_CFG_CIRCEN = true ∧
          u.gb (F.HP_LINKCFG_HOLD 0) = false ∧ u.gb (F.HP_LINKCFG_HOLD 1) = false ∧
          ∀ b : Fin 256, b = 0x10 ∨ b = 0x11 ∨ b ∈ blocks → assignedBlock b = true → alwaysClocked b = false → u.gb (F.CGU_CLKEN_EN b) = true) ∧
        (∀ t unit n, 4 ≤ t → t < 16 → fails = [(t, unit, n)] → completes (.firmwareBoot fails blocks) s fun u => safe u 2 ∧ u.testRes t = 2 ∧ (∀ k, k < t → k ≠ t → u.testRes k = 1) ∧
          (unit < 65536 → n < 65536 → u.gf (F.CFS_TESTDET_UNIT t) = unit ∧ u.gf (F.CFS_TESTDET_COUNT t) = n) ∧ ⟨0xFC02, 2, 0xFC00, unit, []⟩ ∈ u.flt.arriving)))

/-- The configuration store, Skylark's agent and management Ethernet (R504, R511 to R530). A store command is refused with its status, or runs until flash and eFuse are done, and a session has one owner. A packet joins its message, and a message waits as a request or is answered at once; the request at the
front is judged, carried out with Skylark's rights and answered on its binding; what the answers' bytes look like where R521 to R523 name public specifications is the model's choice (log entries 57, 58 and 61). Frames are filtered and sent under CSMA/CD, and MDIO frames take 26 µs. -/
def Obligations.ManagementAnswersItsClients : Prop :=
  (∀ (s : State) (m : Master), s.accepts m R.CFS_CMD = true →
    let code : Nat := match m with | .host p _ => (if s.gf F.RST_STATE_PSTATE = 3 then 4 else 2) + p.val | _ => 1
    let owner := s.gf F.CFS_CMD_OWNER
    let arg := s.rdN R.CFS_ARG
    let arg2 := s.rdN R.CFS_ARG2
    let n := arg2 % 2 ^ 15
    let owns : Prop := owner = code ∧ s.cfs.client = none
    let free : Prop := owner = 0 ∨ owns
    let ends (c : Instr) (st : Nat) (P : State → Prop) : Prop := completes c s fun u => u.gf F.CFS_CMD_STATUS = st ∧ u.gb F.CFS_CMD_BUSY = false ∧ u.cfs.op = none ∧ u.flash = s.flash ∧ u.fuse = s.fuse ∧ P u
    let keeps (u : State) : Prop := u.cfs = { s.cfs with op := none } ∧ u.gf F.CFS_CMD_OWNER = owner ∧ u.flt = s.flt
    let starts (c : Instr) (op : Nat) (P : State → Prop) : Prop := completes c s fun u => u.gb F.CFS_CMD_BUSY = true ∧ u.cfs.op = some (op, code) ∧ u.flash = s.flash ∧ u.fuse = s.fuse ∧ u.flt = s.flt ∧ P u
    (s.gb F.CFS_CMD_BUSY = true → ∀ c ∈ ([.cfsOpen m, .cfsWrite m, .cfsClose m, .cfsAbort m, .cfsRead m, .burnsvn m] : List Instr), completes c s fun u => u = { s with regs := u.regs } ∧ regsBut s u (· == R.CFS_CMD) ∧
      u.gb F.CFS_CMD_BUSY = true ∧ u.gf F.CFS_CMD_OWNER = owner ∧ u.gf F.CFS_CMD_STATUS = s.gf F.CFS_CMD_STATUS) ∧
    (s.gb F.CFS_CMD_BUSY = false →
      let bad : Prop := arg < 192 ∨ 31457280 < arg ∨ arg % 64 ≠ 0
      let badW : Prop := arg ≠ s.cfs.next ∨ arg2 ≠ n ∨ n < 64 ∨ 16384 < n ∨ n % 64 ≠ 0 ∨ s.cfs.len < s.cfs.next + n
      let badR : Prop := bitsOf arg2 15 16 ≠ 0 ∨ 16384 < n ∨ 31457280 < arg + n
      (¬free → ends (.cfsOpen m) 1 keeps) ∧ (free → bad → ends (.cfsOpen m) 2 keeps) ∧
      (free → ¬bad → starts (.cfsOpen m) 1 fun u => u.gf F.CFS_CMD_OWNER = code ∧ u.cfs = { s.cfs with client := none, len := arg, next := 0, hdr := [], target := s.targetSlot, op := u.cfs.op }) ∧
      (¬owns → ends (.cfsWrite m) 1 keeps) ∧ (owns → badW → ends (.cfsWrite m) 2 keeps) ∧ (owns → ¬badW → starts (.cfsWrite m) 2 fun u => u.gf F.CFS_CMD_OWNER = owner ∧ u.cfs = { s.cfs with op := u.cfs.op }) ∧
      (¬owns → ends (.cfsClose m) 1 keeps) ∧ (owns → s.cfs.next ≠ s.cfs.len → ends (.cfsClose m) 2 fun u => u.gf F.CFS_CMD_OWNER = 0 ∧ u.cfs = { held := s.cfs.held } ∧ reported s u [⟨0xFC05, 0, 0xFC00, 0xFC00, []⟩]) ∧
      (owns → s.cfs.next = s.cfs.len → starts (.cfsClose m) 3 fun u => u.gf F.CFS_CMD_OWNER = owner) ∧
      (owner = 0 ∨ (owner ≠ code ∧ code ≠ 1) → ends (.cfsAbort m) 1 keeps) ∧ (owner ≠ 0 → owner = code ∨ code = 1 → ends (.cfsAbort m) 0 fun u => u.gf F.CFS_CMD_OWNER = 0 ∧ u.cfs = { held := s.cfs.held } ∧ u.flt = s.flt) ∧
      (¬free → ends (.cfsRead m) 1 keeps) ∧ (free → badR → ends (.cfsRead m) 2 keeps) ∧
      (free → ¬badR → ends (.cfsRead m) 0 fun u => keeps u ∧ u.wbuf n = memRead flashDefault s.flash (0x1E00000 * (arg2 / 2 ^ 31) + arg) n) ∧
      (code ≠ 1 → ends (.burnsvn m) 8 keeps) ∧ (code = 1 → ¬free → ends (.burnsvn m) 1 keeps) ∧ (code = 1 → free → starts (.burnsvn m) 6 fun u => u.gf F.CFS_CMD_OWNER = owner))) ∧
  (∀ (s : State) (ok : Bool), s.mgt.cfsWait = none →
    (s.cfs.held = true ∨ s.cfs.op = none → exec (.cfsCommandDone ok) s = .next s) ∧
    ∀ op code, s.cfs.held = false → s.cfs.op = some (op, code) →
      let base := 0x1E00000 * s.cfs.target
      let n := s.rdN R.CFS_ARG2 % 2 ^ 15
      let done (st : Nat) (P : State → Prop) : Prop := completes (.cfsCommandDone ok) s fun u => u.gf F.CFS_CMD_STATUS = st ∧ u.gb F.CFS_CMD_BUSY = false ∧ u.cfs.op = none ∧ P u
      (ok = false → done 7 fun u => u.flash = s.flash ∧ u.fuse = s.fuse ∧ (op = 1 ∨ op = 3 → u.gf F.CFS_CMD_OWNER = 0) ∧ reported s u (⟨0xFC06, 2, 0xFC00, 0xFC00, []⟩ :: if op = 3 then [⟨0xFC05, 0, 0xFC00, 0xFC00, []⟩] else [])) ∧
      (ok = true → op = 1 → done 0 fun u => u.gf F.CFS_CMD_OWNER = s.gf F.CFS_CMD_OWNER ∧ u.cfs = { s.cfs with op := none } ∧
        ∀ x, tabGet flashDefault u.flash x = if base ≤ x ∧ x < base + (s.cfs.len + 65535) / 65536 * 65536 then 0xFF else tabGet flashDefault s.flash x) ∧
      (ok = true → op = 2 → done 0 fun u => let l := s.wbuf n
        let skip := if s.cfs.next = 0 then 64 else 0
        u.cfs.next = s.cfs.next + n ∧ u.cfs.hdr = (if s.cfs.next = 0 then l.take 64 else s.cfs.hdr) ∧ memRead flashDefault u.flash (base + s.cfs.next + skip) (n - skip) = l.drop skip ∧
        ∀ x, x < base + s.cfs.next + skip ∨ base + s.cfs.next + max skip n ≤ x → tabGet flashDefault u.flash x = tabGet flashDefault s.flash x) ∧
      (ok = true → op = 3 → s.closeStatus = 0 → s.cfs.hdr.length = 64 → done 0 fun u => u.gf F.CFS_CMD_OWNER = 0 ∧ memRead flashDefault u.flash base 64 = s.cfs.hdr ∧ reported s u [⟨0xFC04, 0, 0xFC00, 0xFC00, []⟩] ∧
        ∀ x, x < base ∨ base + 64 ≤ x → tabGet flashDefault u.flash x = tabGet flashDefault s.flash x) ∧
      (ok = true → op = 3 → s.closeStatus ≠ 0 → done s.closeStatus fun u => u.gf F.CFS_CMD_OWNER = 0 ∧ u.flash = s.flash ∧ reported s u [⟨0xFC05, 0, 0xFC00, 0xFC00, []⟩]) ∧
      (ok = true → op = 6 → done 0 fun u => u.fuse = { s.fuse with minsvn := max s.fuse.minsvn s.bootedSvn } ∧ u.flash = s.flash)) ∧
  (∀ (s : State) (r : MgtReq) (status : Nat) (l : List Byte),
    let body := (if r.binding = 3 then [] else [0x7E]) ++ [0x1F, 0xD3] ++ (r.body.drop 2).take 1 ++ [1] ++ (r.body.drop 4).take 2 ++ leBytes 2 status ++ l
    let u := s.respond r status l
    (∀ k, k = (if status = 0 then 3 else if status = 7 then 5 else 4) → u.rd64 (R.MGT_CNT k) = (s.rd64 (R.MGT_CNT k) + 1) % 2 ^ 48) ∧ reported s u (if status = 7 then [⟨0xF803, 0, 0xF800, 0xF800, []⟩] else []) ∧
    (r.binding < 3 → body.length ≤ 64 → u.out = .mctp r.binding (beAt r.via 0 2) ([1, byte (beAt r.via 2 1), byte (s.gf (eidFld r.binding)), byte (192 + beAt r.via 3 1 % 8)] ++ body) :: s.out ∧ u.mge = s.mge) ∧
    (r.binding = 3 → 12 ≤ r.via.length → u.out = s.out ∧ ∃ t : MgeTx, u.mge.txq = s.mge.txq ++ [t] ∧ t.sending = false ∧ cut t.frame 42 body.length = body ∧ beAt t.frame 36 2 = beAt r.via 10 2)) ∧
  (∀ (s : State) (b : Fin 3) (src : BitVec 16) (k : List Byte) (ok : Bool),
    let c : Instr := .mctpPacketReceive b src k ok
    let up : Prop := s.gf F.MGT_STATUS_AGENT ≠ 0 ∧ s.gf F.RST_STATE_PSTATE ≠ 4 ∧ (b = 0 ∨ (s.gb F.MGT_BIND_VDMEN = true ∧ s.gb (F.HP_STATUS_LINKUP (b - 1)) = true ∧ s.inReset (b - 1) 0 = false ∧ s.gf F.MGT_STATUS_AGENT = 2 ∧
      s.gb F.CGU_REFSTAT_REFGOOD = true))
    let flags := beAt k 3 1
    let key := beAt k 2 1 * 16 + flags % 16
    let seq := flags / 16 % 4
    let eom : Prop := flags / 64 % 2 = 1
    let viol (u : State) : Prop := u.mgt.reqs = s.mgt.reqs ∧ u.rd64 (R.MGT_CNT 2) = (s.rd64 (R.MGT_CNT 2) + 1) % 2 ^ 48 ∧ reported s u [⟨0xF802, 0, 0xF800, 0xF800, []⟩]
    let good : Prop := 5 ≤ k.length ∧ k.length ≤ 68 ∧ beAt k 0 1 = 1
    let own : Prop := beAt k 1 1 = s.gf (eidFld b)
    let part := s.mgt.asm.find? fun a => a.binding == b.val && a.key == key
    let via := beBytes 2 src.toNat ++ [byte (key / 16), byte (key % 16)]
    let whole (l : List Byte) : Prop :=
      (l.length ≤ 1029 → beAt l 0 1 = 0x7E → beAt l 1 2 = 0x1FD3 → 9 ≤ l.length → beAt l 4 1 = 0 → 1 ≤ beAt l 3 1 → beAt l 3 1 ≤ 13 → (s.mgt.reqs.filter fun x => x.binding == b.val && x.isCmd).length < 4 →
        completes c s fun u => u.mgt.reqs = s.mgt.reqs ++ [⟨b, key / 16, via, l.drop 1⟩] ∧ u.out = s.out) ∧
      (l.length ≤ 1029 → beAt l 0 1 = 0x7E → beAt l 1 2 = 0x1FD3 → 9 ≤ l.length → 4 ≤ (s.mgt.reqs.filter fun x => x.binding == b.val && x.isCmd).length →
        ∃ v : State, v.mgt.reqs = s.mgt.reqs ∧ exec c s = .next (v.respond ⟨b, key / 16, via, l.drop 1⟩ 5 [])) ∧
      (beAt l 0 1 = 0 → 3 ≤ l.length → l.length ≤ 1029 → 128 ≤ beAt l 1 1 → 1 ≤ beAt l 2 1 → beAt l 2 1 ≤ 6 → completes c s fun u => u.mgt.reqs = s.mgt.reqs ++ [⟨b, key / 16, via, l⟩] ∧ u.out = s.out) ∧
      (beAt l 0 1 ≠ 0 → beAt l 0 1 ≠ 0x7E ∨ 1029 < l.length → completes c s fun u => u.mgt.reqs = s.mgt.reqs ∧ reported s u [⟨0xF802, 0, 0xF800, 0xF800, []⟩])
    (¬up → exec c s = .next s) ∧
    (up → b = 0 → ok = false → completes c s fun u => u.rd64 (R.MGT_CNT 0) = (s.rd64 (R.MGT_CNT 0) + 1) % 2 ^ 48 ∧ u.rd64 (R.MGT_CNT 1) = (s.rd64 (R.MGT_CNT 1) + 1) % 2 ^ 48 ∧ u = { s with regs := u.regs }) ∧
    (up → ok = true ∨ b ≠ 0 →
      (¬good → completes c s viol) ∧ (good → ¬own → completes c s fun u => u = { s with regs := u.regs } ∧ (b ≠ 0 → u = s)) ∧
      (good → own → 128 ≤ flags → ¬eom → part = none → completes c s fun u => u.mgt = { s.mgt with asm := u.mgt.asm } ∧ u.mgt.asm.getLast? = some ⟨b, key, (seq + 1) % 4, k.drop 4⟩ ∧ u.flt = s.flt) ∧
      (good → own → flags < 128 → part = none → completes c s viol) ∧
      (∀ a, good → own → flags < 128 → part = some a → a.seq ≠ seq → completes c s fun u => viol u ∧ a ∉ u.mgt.asm) ∧
      (∀ a, good → own → flags < 128 → part = some a → a.seq = seq → ¬eom → completes c s fun u => u.mgt.asm.getLast? = some ⟨b, key, (seq + 1) % 4, a.bytes ++ k.drop 4⟩ ∧ u.flt = s.flt ∧ u.mgt.reqs = s.mgt.reqs) ∧
      (good → own → 128 ≤ flags → eom → part = none → whole (k.drop 4)) ∧ (∀ a, good → own → flags < 128 → eom → part = some a → a.seq = seq → whole (a.bytes ++ k.drop 4)))) ∧
  (∀ s : State,
    let ctl (c : Instr) (n : Nat) : Prop := (s.mgt.reqs = [] → exec c s = .next s) ∧ ∀ r rest, s.mgt.reqs = r :: rest → r.isCmd = true ∨ beAt r.body 2 1 ≠ n ∨ ¬s.serves r rest → exec c s = .next s
    ctl .setEndpointId 1 ∧ ctl .getEndpointId 2 ∧ ctl .getEndpointUuid 3 ∧ ctl .getMctpVersionSupport 4 ∧ ctl .getMessageTypeSupport 5 ∧ ctl .getVendorDefinedMessageSupport 6 ∧
    ∀ r rest l,
      let answers (c : Instr) (d : List Byte) : Prop := exec c s = .next ((s.taken rest).ctlAnswer r d)
      (s.controls 1 r rest l → (l.length ≠ 2 → answers .setEndpointId [3]) ∧
        (∀ op e : Byte, l = [op, e] → (1 < op.toNat % 4 ∨ e.toNat < 8 ∨ e.toNat = 255 → answers .setEndpointId [2]) ∧
          (op.toNat % 4 ≤ 1 → 8 ≤ e.toNat → e.toNat ≠ 255 → r.binding < 3 → completes .setEndpointId s fun u => u.gf (eidFld r.binding) = e.toNat ∧ u.out = ((s.taken rest).ctlAnswer r [0, 0, e, 0]).out ∧ u.mgt.reqs = rest))) ∧
      (s.controls 2 r rest l → (l = [] → answers .getEndpointId [0, byte (s.gf (eidFld r.binding)), 0, 0]) ∧ (l ≠ [] → answers .getEndpointId [3])) ∧
      (s.controls 3 r rest l → (l = [] → answers .getEndpointUuid (0 :: (List.range 16).map fun k => byte (Config.uuid k))) ∧ (l ≠ [] → answers .getEndpointUuid [3])) ∧
      (s.controls 4 r rest l → (l.length ≠ 1 → answers .getMctpVersionSupport [3]) ∧ (∀ t : Byte, l = [t] → (t = 0xFF ∨ t = 0 ∨ t = 0x7E → answers .getMctpVersionSupport [0, 1, 0xF1, 0xF3, 0xFF, 0]) ∧
        (t ≠ 0xFF → t ≠ 0 → t ≠ 0x7E → answers .getMctpVersionSupport [0x80]))) ∧
      (s.controls 5 r rest l → (l = [] → answers .getMessageTypeSupport [0, 1, 0x7E]) ∧ (l ≠ [] → answers .getMessageTypeSupport [3])) ∧
      (s.controls 6 r rest l → (l.length ≠ 1 → answers .getVendorDefinedMessageSupport [3]) ∧ (l = [0] → answers .getVendorDefinedMessageSupport [0, 0xFF, 0, 0x1F, 0xD3, 0, 0]) ∧
        (∀ t : Byte, l = [t] → t ≠ 0 → answers .getVendorDefinedMessageSupport [2]))) ∧
  (∀ s : State,
    judged .getIdentity 1 false true (· == 0) s ∧ judged .getHealth 2 false true (· == 0) s ∧ judged .regRead 3 false true (· == 8) s ∧ judged .regWrite 4 true true (· == 8) s ∧ judged .readRecords 5 false true (· == 12) s ∧
    judged .ackKeep 6 true true (· == 4) s ∧ judged .fltDone 7 true true (· == 8) s ∧ (s.gb F.CFS_CMD_BUSY = false → judged .cfsOp 8 true true cfsLen s) ∧ (s.gb F.CFS_CMD_BUSY = true → exec .cfsOp s = .next s) ∧
    judged .warmResetCmd 9 true true (· == 0) s ∧ judged .timeGet 10 false false (· == 0) s ∧ judged .timeAdj 11 true false (· == 20) s ∧ judged .setMasters 12 true false (· == 8) s ∧ judged .setNet 13 true false (· == 96) s ∧
    ∀ r rest l,
      let t := s.taken rest
      let word (k : Nat) : Nat := ofLe ((l.drop (4 * k)).take 4)
      let tells (c : Instr) (st : Nat) (d : List Byte) : Prop := exec c s = .next (t.respond r st d)
      (s.entitles 1 false true (· == 0) r rest l →
        let d (v : Nat) : List Byte := t.peeks R.TOP_SERIAL 2 ++ leBytes 2 0x7280 ++ leBytes 2 (s.gf F.TOP_REV_REVID) ++ leBytes 4 v ++ t.peeks R.CFS_STAT 1 ++ [byte (s.gf F.RST_STATE_PSTATE)]
        (2 ≤ s.gf F.CFS_STAT_BOOTED → ∃ n, exec .getIdentity s = .next ({ t with free := s.free + 1 }.respond r 0 (d (Config.pick n)))) ∧
        (∀ k x z, k < 2 → s.gf F.CFS_STAT_BOOTED = k → s.slotSects k = some x → (x.find? fun y => y.typ == 1) = some z → tells .getIdentity 0 (d (s.slotLe k (z.off + 8) 4)))) ∧
      (s.entitles 2 false true (· == 0) r rest l → ∃ links, (∀ n, n < 16 → bitAt links n = s.gb (F.MAC_STATUS_LINK n)) ∧ links < 2 ^ 16 ∧
        tells .getHealth 0 (t.peeks (R.RST_TEMP 0) 8 ++ t.peeks R.FLT_STATUS 1 ++ t.peeks R.CGU_REFSTAT 1 ++ leBytes 2 links ++ t.peeks (R.HP_STATUS 0) 1 ++ t.peeks (R.HP_STATUS 1) 1)) ∧
      (s.entitles 3 false true (· == 8) r rest l →
        let bad : Prop := word 0 % 4 ≠ 0 ∨ word 1 < 1 ∨ 64 < word 1 ∨ 0x10000000 < word 0 + 4 * word 1
        (bad → tells .regRead 3 []) ∧
        (¬bad → ∃ (d : List Byte) (u : State), d.length = 4 * word 1 ∧ exec .regRead s = .next (u.respond r 0 d) ∧ u = { t with regs := u.regs, latches := u.latches, flt := u.flt } ∧
          (t.gatedKey (word 0) = true → d.take 4 = leBytes 4 (if s.gb F.CGU_COMPAT_ZEROREAD then 0 else 0xFFFFFFFF)) ∧ (t.gatedKey (word 0) = false → d.take 4 = leBytes 4 (t.readReg .skylark (word 0)).1.toNat))) ∧
      (s.entitles 4 true true (· == 8) r rest l →
        let bad : Prop := word 0 % 4 ≠ 0 ∨ 0x10000000 ≤ word 0
        let u := t.writeBy .skylark (word 0) (word 0) (word 1)
        let viols (x : State) : Nat := (x.flt.arriving.filter fun e => e.code == 0x0501).length
        (bad → tells .regWrite 3 []) ∧ (¬bad → s.gatedKey (word 0) = true → exec .regWrite s = .next ((t.gatedEvent .skylark (word 0)).respond r 6 [])) ∧
        (¬bad → s.gatedKey (word 0) = false → (viols s < viols u → exec .regWrite s = .next (u.respond r 6 [])) ∧ (viols u ≤ viols s → exec .regWrite s = .next (u.respond r 0 [])))) ∧
      (s.entitles 5 false true (· == 12) r rest l →
        let bad : Prop := 1 < word 0 ∨ word 2 < 1 ∨ 15 < word 2
        (bad → tells .readRecords 3 []) ∧
        (¬bad → (∀ i, i < word 2 → (s.recordAt (word 0) (word 1 + i)).1 = true ∧ recordValid (s.recordAt (word 0) (word 1 + i)).2.1 (s.recordAt (word 0) (word 1 + i)).2.2 = true) →
          tells .readRecords 0 (((List.range (word 2)).flatMap fun i => (s.recordAt (word 0) (word 1 + i)).2.1) ++ List.replicate (word 2) 0))) ∧
      (s.entitles 6 true true (· == 4) r rest l → exec .ackKeep s = .next ((t.keepAck (word 0)).respond r 0 ((t.keepAck (word 0)).peeks R.EVR_KEEPACK 1))) ∧
      (s.entitles 7 true true (· == 8) r rest l → (4 < word 0 ∨ 2 ^ 16 ≤ word 1 → tells .fltDone 3 []) ∧
        (word 0 ≤ 4 → word 1 < 2 ^ 16 → let u := t.ladderDone (word 0) (word 1); exec .fltDone s = .next (u.respond r 0 (u.peeks (R.FLT_LVLCTL (word 0)) 1)))) ∧
      (s.entitles 8 true true cfsLen r rest l → s.gb F.CFS_CMD_BUSY = false →
        let n := word 2 % 2 ^ 15
        let mine : Prop := s.gf F.CFS_CMD_OWNER = 1 ∧ s.cfs.client = some (r.binding, r.src)
        let long : Prop := (word 0 = 2 ∧ l.length ≠ 12 + n) ∨ (word 0 ≠ 2 ∧ l.length ≠ 12)
        (long → tells .cfsOp 2 []) ∧ (¬long → 7 < word 0 ∨ (word 0 = 5 ∧ 1016 < n) → tells .cfsOp 3 []) ∧
        (¬long → word 0 = 1 ∨ word 0 = 5 → s.gf F.CFS_CMD_OWNER ≠ 0 → ¬mine → (word 0 = 5 → n ≤ 1016) → ∃ u : State, u.gf F.CFS_CMD_STATUS = 1 ∧ u.cfs = { s.cfs with op := none } ∧ exec .cfsOp s = .next (u.respond r 6 (leBytes 4 1))) ∧
        (¬long → word 0 = 1 → s.gf F.CFS_CMD_OWNER = 0 ∨ mine → 192 ≤ word 1 → word 1 ≤ 31457280 → word 1 % 64 = 0 → completes .cfsOp s fun u => u.gb F.CFS_CMD_BUSY = true ∧ u.gf F.CFS_CMD_OWNER = 1 ∧ u.mgt = { t.mgt with cfsWait := some r } ∧
          u.cfs = { s.cfs with client := some (r.binding, r.src), len := word 1, next := 0, hdr := [], target := s.targetSlot, op := some (1, 1) } ∧ u.out = s.out) ∧
        (¬long → word 0 = 5 → s.gf F.CFS_CMD_OWNER = 0 ∨ mine → bitsOf (word 2) 15 16 = 0 → n ≤ 1016 → word 1 + n ≤ 31457280 → ∃ u : State, u.cfs = { s.cfs with op := none } ∧
          exec .cfsOp s = .next (u.respond r 0 (leBytes 4 0 ++ memRead flashDefault s.flash (0x1E00000 * (word 2 / 2 ^ 31) + word 1) n))) ∧
        (¬long → word 0 = 4 → s.gf F.CFS_CMD_OWNER ≠ 0 → ∃ u : State, u.gf F.CFS_CMD_OWNER = 0 ∧ u.cfs = { held := s.cfs.held } ∧ exec .cfsOp s = .next (u.respond r 0 (leBytes 4 0)))) ∧
      (∀ ok op code, s.mgt.cfsWait = some r → s.cfs.held = false → s.cfs.op = some (op, code) → completes (.cfsCommandDone ok) s fun u => u.mgt.cfsWait = none ∧ u.cfs.op = none ∧ u.mgt.reqs = s.mgt.reqs) ∧
      (s.entitles 9 true true (· == 0) r rest l → exec .warmResetCmd s = .next ((t.respond r 0 []).warmReset 2)) ∧
      (s.entitles 10 false false (· == 0) r rest l → tells .timeGet 0 (t.peeks R.TKU_TIME 3 ++ t.peeks R.TKU_STATE 1 ++ t.peeks R.TKU_TREC 16)) ∧
      (s.entitles 11 true false (· == 20) r rest l →
        let v : State := ((((t.wrWide R.TKU_ADJVAL 3 (ofLe ((l.drop 4).take 12))).wrN R.TKU_ADJUNC (word 4)).sf F.TKU_ADJCMD_OP (word 0)).sb F.TKU_ADJCMD_ERR false).adjGo
        (word 0 ≠ 1 → word 0 ≠ 2 → tells .timeAdj 3 []) ∧ (word 0 = 1 ∨ word 0 = 2 → v.gb F.TKU_ADJCMD_ERR = false → exec .timeAdj s = .next (v.respond r 0 (v.peeks R.TKU_ADJCMD 1))) ∧
        (word 0 = 1 ∨ word 0 = 2 → v.gb F.TKU_ADJCMD_ERR = true → ∃ u : State, u = { t with regs := u.regs, flt := v.flt } ∧ regsBut t u (· == R.TKU_ADJCMD) ∧ u.gb F.TKU_ADJCMD_ERR = true ∧
          exec .timeAdj s = .next (u.respond r 6 (u.peeks R.TKU_ADJCMD 1)))) ∧
      (s.entitles 12 true false (· == 8) r rest l → (1 < word 0 ∨ 1 < word 1 → tells .setMasters 3 []) ∧
        (word 0 ≤ 1 → word 1 ≤ 1 → ∃ u : State, u = { t with regs := u.regs } ∧ regsBut t u (· == R.TOP_MASTERS) ∧ u.gf F.TOP_MASTERS_CFGHOST = word 0 ∧ u.gf F.TOP_MASTERS_HOSTLOCKOUT = word 1 ∧
          exec .setMasters s = .next (u.respond r 0 (u.peeks R.TOP_MASTERS 1)))) ∧
      (s.entitles 13 true false (· == 96) r rest l →
        let bad : Prop := mgmtOk l = false ∨ 30 < beAt l 12 1 ∨ 31 < beAt l 25 1
        (bad → tells .setNet 3 []) ∧
        (¬bad → completes .setNet s fun u => u.out = (t.respond r 0 []).out ∧ u.mgt.ip = beAt l 8 4 ∧ u.mgt.plen = beAt l 12 1 ∧ u.mgt.gateway = beAt l 16 4 ∧ u.mgt.port = (if beAt l 20 2 = 0 then 8148 else beAt l 20 2) ∧
          u.mgt.phy = beAt l 25 1 ∧ u.mgt.allow = (((List.range 8).map fun k => (beAt l (32 + 8 * k) 4, beAt l (36 + 8 * k) 1)).filter fun e => e.2 ≠ 0) ∧ u.rd64 R.MGE_ADDR = beAt l 0 6 ∧
          u.gf F.MGT_SMBCFG_ADDR = beAt l 22 1 % 128 ∧ u.gf F.MGT_SMBCFG_SPEED = min 2 (beAt l 23 1 % 4) ∧ u.gf F.MGT_SMBCFG_ALERTSEV = min 4 (beAt l 23 1 / 4 % 8) ∧ u.rdN R.MGT_BIND = beAt l 24 1 % 16))) ∧
  (∀ s : State,
    let on : Prop := s.gb F.MGE_CFG_EN = true ∧ s.gb F.CGU_REFSTAT_REFGOOD = true ∧ s.gf F.RST_STATE_PSTATE ≠ 4
    let bit : Nat := if s.gf F.MGE_CFG_SPEED = 0 then 100 else if s.gf F.MGE_CFG_SPEED = 1 then 10 else 1
    let duplex := s.gb F.MGE_CFG_DUPLEX
    let counts (u : State) (k : Nat) : Prop := u.rd64 (R.MGE_CNT k) = (s.rd64 (R.MGE_CNT k) + 1) % 2 ^ 48
    (s.mgt.alertLow = false → exec .alertResponse s = .next s) ∧
    (s.mgt.alertLow = true → exec .alertResponse s = .next { s with mgt := { s.mgt with alertLow := false }, out := .pin "SMB_ALERT_N" true :: .skylark "ALERT_RESPONSE" [s.gf F.MGT_SMBCFG_ADDR] :: s.out }) ∧
    (completes .mgtSmbTimeout s fun u => u = { s with mgt := { s.mgt with asm := s.mgt.asm.filter fun a => a.binding != 0 }, flt := u.flt } ∧ reported s u [⟨0xF804, 0, 0xF800, 0xF800, []⟩]) ∧
    (∀ (speed : Fin 3) (full up : Bool),
      let due : Prop := s.gf F.MGT_STATUS_AGENT ≠ 0 ∧ s.mge.polled + 100000000 ≤ s.now
      let phy := (speed.val, full, up)
      let busy : Prop := ∃ t ∈ s.mge.txq, t.sending = true
      (¬due → exec (.phyPoll speed full up) s = .next s) ∧ (due → s.mge.phy = phy → exec (.phyPoll speed full up) s = .next { s with mge := { s.mge with polled := s.now } }) ∧
      (due → s.mge.phy ≠ phy → busy → completes (.phyPoll speed full up) s fun u => u.gb F.MGE_CFG_EN = false ∧ u.gb F.MGE_STATUS_STOPPED = s.gb F.MGE_STATUS_STOPPED ∧ u.mge = { s.mge with polled := s.now, toSet := some phy } ∧ u.flt = s.flt) ∧
      (due → s.mge.phy ≠ phy → ¬busy → completes (.phyPoll speed full up) s fun u => u.gb F.MGE_CFG_EN = true ∧ u.gb F.MGE_STATUS_STOPPED = false ∧ u.mge = { s.mge with polled := s.now, toSet := none, phy := phy } ∧
        (¬(speed = 2 ∧ full = false) → u.gf F.MGE_CFG_SPEED = speed ∧ u.gb F.MGE_CFG_DUPLEX = full ∧ reported s u [if up then ⟨0x6101, 0, 0x6100, 0x6100, []⟩ else ⟨0x6102, 2, 0x6100, 0x6100, []⟩]) ∧
        (speed = 2 → full = false → u.gf F.MGE_CFG_SPEED = s.gf F.MGE_CFG_SPEED ∧ u.gb F.MGE_CFG_DUPLEX = duplex ∧
          reported s u [⟨0x0501, 0, 0x0500, 0x0500, [R.MGE_CFG, 1]⟩, if up then ⟨0x6101, 0, 0x6100, 0x6100, []⟩ else ⟨0x6102, 2, 0x6100, 0x6100, []⟩])) ∧
      (∀ m : Master, s.accepts m R.MGE_CFG = true → s.mge.toSet = none → completes (.mgeStop m) s fun u => u = { s with regs := u.regs } ∧ u.gb F.MGE_CFG_EN = false ∧
        u.gb F.MGE_STATUS_STOPPED = (if (s.mge.txq.any fun t => t.sending) then s.gb F.MGE_STATUS_STOPPED else true) ∧ regsBut s u (fun o => o == R.MGE_CFG || o == R.MGE_STATUS))) ∧
    (∀ f : List Byte,
      let c : Instr := .mgeFrameReceive f
      let d := beAt f 0 6
      let fits : Prop := 64 ≤ f.length ∧ f.length ≤ s.gf F.MGE_CFG_MAXLEN
      let mine : Prop := d = s.rd64 R.MGE_ADDR ∨ d = 2 ^ 48 - 1
      let drops (k : Nat) : Prop := completes c s fun u => u = { s with regs := u.regs, seqs := u.seqs } ∧ counts u k ∧ u.seqOf 0x6100 = (s.seqOf 0x6100 + 1) % 2 ^ 32 ∧ regsBut s u (fun o => o == R.MGE_CNT k || o == R.MGE_CNT k + 4)
      let g := f.take (f.length - 4)
      let agent : Prop := on ∧ fits ∧ fcsOk f = true ∧ mine ∧ s.gf F.MGT_STATUS_AGENT ≠ 0
      (¬on → exec c s = .next s) ∧ (on → f.length < 64 → drops 2) ∧ (on → 64 ≤ f.length → s.gf F.MGE_CFG_MAXLEN < f.length → drops 3) ∧ (on → fits → fcsOk f = false → drops 1) ∧
      (on → fits → fcsOk f = true → ¬mine → drops 4) ∧ (on → fits → fcsOk f = true → mine → s.gf F.MGT_STATUS_AGENT = 0 ∨ (beAt g 12 2 ≠ 0x0806 ∧ beAt g 12 2 ≠ 0x0800) → drops 0) ∧
      (agent → beAt g 12 2 = 0x0806 → beAt g 14 8 = 0x0001080006040001 → beAt g 38 4 = s.mgt.ip → s.mgt.ip < 2 ^ 32 → completes c s fun u => counts u 0 ∧ ∃ t : MgeTx, u.mge.txq = s.mge.txq ++ [t] ∧ t.sending = false ∧ beAt t.frame 0 6 = beAt g 6 6 ∧
        beAt t.frame 12 10 = 0x08060001080006040002 ∧ beAt t.frame 28 4 = s.mgt.ip ∧ cut t.frame 32 10 = cut g 22 10) ∧
      (agent → beAt g 12 2 = 0x0800 → beAt g 14 1 = 0x45 → beAt g 16 2 + 14 ≤ g.length → beAt g 30 4 = s.mgt.ip → beAt g 20 2 % 2 ^ 14 = 0 → inetSum (cut g 14 20) = 0 → beAt g 23 1 = 17 → beAt g 36 2 = s.mgt.port → 16 ≤ beAt g 38 2 →
        20 + beAt g 38 2 ≤ beAt g 16 2 → beAt g 42 2 = 0x1FD3 →
        let a := beAt g 26 4
        let admitted : Prop := ∃ e ∈ s.mgt.allow, a / 2 ^ (32 - min 32 e.2) = e.1 / 2 ^ (32 - min 32 e.2)
        (¬admitted → completes c s fun u => counts u 5 ∧ u.mgt.reqs = s.mgt.reqs ∧ ((∀ t, s.mgt.deniedAt = some t → t + 1000000 ≤ s.now) → reported s u [⟨0xF803, 0, 0xF800, 0xF800, []⟩] ∧ u.mgt.deniedAt = some s.now)) ∧
        (admitted → beAt g 45 1 = 0 → 1 ≤ beAt g 44 1 → beAt g 44 1 ≤ 13 → (s.mgt.reqs.filter fun x => x.binding == 3 && x.isCmd).length < 4 → completes c s fun u => counts u 0 ∧
          ∃ r : MgtReq, u.mgt.reqs = s.mgt.reqs ++ [r] ∧ r.binding = 3 ∧ r.src = a * 65536 + beAt g 34 2 ∧ r.body = cut g 42 (beAt g 38 2 - 8)))) ∧
    (s.mge.txq = [] → (∀ n, exec (.mgeFrameTransmit n) s = .next s ∧ exec (.mgeCollision n) s = .next s) ∧ exec .backoffExpire s = .next s ∧ exec .mgeFrameEnd s = .next s) ∧
    (∀ t rest, s.mge.txq = t :: rest →
      (∀ idle : Nat,
        let sends : Prop := on ∧ t.sending = false ∧ t.backoff = none ∧ (duplex = true ∨ 96 ≤ idle)
        (¬sends → exec (.mgeFrameTransmit idle) s = .next s) ∧
        (sends → completes (.mgeFrameTransmit idle) s fun u => u.mge.txq = { t with sending := true, start := s.now, stamp := ⟨s.counter islAON / 256 * 256, s.islandBound islAON, 0x6101, s.seqOf 0x6101⟩ } :: rest ∧
          u.seqOf 0x6101 = (s.seqOf 0x6101 + 1) % 2 ^ 32 ∧ u.gb F.MGE_STATUS_CRS = false ∧ u.flt = s.flt)) ∧
      (∀ k : Nat,
        let hits : Prop := t.sending = true ∧ duplex = false ∧ k < 8 * (t.frame.length + 8)
        (¬hits → exec (.mgeCollision k) s = .next s) ∧
        (hits → 512 ≤ k → s.gb F.MGE_CFG_EN = true → completes (.mgeCollision k) s fun u => u.mge.txq = rest ∧ counts u 8 ∧ reported s u [⟨0x6103, 0, 0x6100, 0x6100, []⟩]) ∧
        (hits → k < 512 → 15 ≤ t.coll → s.gb F.MGE_CFG_EN = true → completes (.mgeCollision k) s fun u => u.mge.txq = rest ∧ counts u 7 ∧ counts u 9 ∧ reported s u [⟨0x6104, 0, 0x6100, 0x6100, []⟩]) ∧
        (hits → k < 512 → t.coll < 15 → s.gb F.MGE_CFG_EN = true → completes (.mgeCollision k) s fun u => counts u 7 ∧ u.flt = s.flt ∧ ∃ r, r < 2 ^ min (t.coll + 1) 10 ∧
          u.mge.txq = { t with sending := false, coll := t.coll + 1, backoff := some (t.start + (k + 32 + 512 * r) * bit) } :: rest)) ∧
      (let due : Prop := ∃ e, t.backoff = some e ∧ e ≤ s.now;
        (due → exec .backoffExpire s = .next { s with mge := { s.mge with txq := { t with backoff := none } :: rest } }) ∧ (¬due → exec .backoffExpire s = .next s)) ∧
      (let due : Prop := t.sending = true ∧ t.start + 8 * (t.frame.length + 8) * bit ≤ s.now;
        (¬due → exec .mgeFrameEnd s = .next s) ∧
        (due → s.gb F.MGE_CFG_EN = true → completes .mgeFrameEnd s fun u => u.mge = { s.mge with txq := rest } ∧ counts u 6 ∧ u.out = .skylark "MGE_TX" [t.stamp.time, t.stamp.bound, t.stamp.domain, t.stamp.seq] :: .mge t.frame :: s.out))) ∧
    (∀ (m : Master) (v : Word), s.accepts m R.MGE_MDIO = true →
      let busy := s.gb F.MGE_MDIO_BUSY
      completes (.mdioFrame m v) s fun u => u = { s with regs := u.regs, mge := u.mge } ∧ regsBut s u (· == R.MGE_MDIO) ∧ u.gf F.MGE_MDIO_DATA = bitsOf v.toNat 0 16 ∧ u.gf F.MGE_MDIO_REG = bitsOf v.toNat 16 5 ∧
        u.gf F.MGE_MDIO_PHY = bitsOf v.toNat 21 5 ∧ u.gf F.MGE_MDIO_OP = bitsOf v.toNat 26 1 ∧ u.gb F.MGE_MDIO_BUSY = true ∧ (busy = false → u.mge = { s.mge with mdioEnd := s.now + 26000 }) ∧ (busy = true → u.mge = s.mge)) ∧
    (∀ data : BitVec 16, (let due : Prop := s.gb F.MGE_MDIO_BUSY = true ∧ s.mge.mdioEnd ≤ s.now;
      (¬due → exec (.mdioDone data) s = .next s) ∧ (due → completes (.mdioDone data) s fun u => u = { s with regs := u.regs } ∧ regsBut s u (· == R.MGE_MDIO) ∧ u.gb F.MGE_MDIO_BUSY = false ∧
        u.gf F.MGE_MDIO_DATA = (if s.gb F.MGE_MDIO_OP then s.gf F.MGE_MDIO_DATA else data.toNat)))))

/-! ## The invariant -/

/-- From every state whose register file, HBM and flash are in canonical form and whose fuse tallies fit their fuses, not only from reset, a step goes on to such a state, whatever the command; and the queue loses exactly the
command at its front, so that no command takes, adds or reorders those that wait. No command stops the machine: from every state it goes on for every number of steps. The canonical form is the model's (log entries 4 and 5), the queue is the row's; the tallies' bound is R556's count of fuses. -/
def Obligations.InvariantKeptByEveryStep : Prop :=
  (∀ (s : State) (k : Nat), runsOn s k) ∧
  ∀ s : State, s.memWf = true → s.fuseWf → ∃ t, step s = .next t ∧ t.memWf = true ∧ t.fuseWf ∧ t.pending = s.pending.drop 1
end

