-- ==== Sys2Proof/Laws/Store.lean ====
section
/-! SUPPORT. Laws of sparse tables and of bit fields: a read after a write, writes that leave the rest alone, and the canonical form that every write keeps. -/

namespace Sys2Proof.Machine

section Tables

variable {α : Type} (d : Nat → α)

theorem tabGet_tabDrop_self (t : Tab α) (k : Nat) : tabGet d (tabDrop t k) k = d k := by
  induction t with
  | nil => rfl
  | cons e t ih =>
    obtain ⟨k', v⟩ := e
    by_cases h : k = k'
    · simp [tabDrop, h]; subst h; exact ih
    · simp [tabDrop, h, tabGet, ih]

theorem tabGet_tabDrop_other (t : Tab α) {k j : Nat} (h : j ≠ k) : tabGet d (tabDrop t k) j = tabGet d t j := by
  induction t with
  | nil => rfl
  | cons e t ih =>
    obtain ⟨k', v⟩ := e
    by_cases hk : k = k'
    · subst hk; simp [tabDrop, tabGet, h, ih]
    · by_cases hj : j = k'
      · simp [tabDrop, hk, tabGet, hj]
      · simp [tabDrop, hk, tabGet, hj, ih]

theorem tabGet_tabPut_other (t : Tab α) {k j : Nat} (v : α) (h : j ≠ k) : tabGet d (tabPut t k v) j = tabGet d t j := by
  induction t with
  | nil => simp [tabPut, tabGet, h]
  | cons e t ih =>
    obtain ⟨k', v'⟩ := e
    by_cases hk : k < k'
    · simp [tabPut, hk, tabGet, h]
    · by_cases hj : j = k' <;> simp [tabPut, hk, tabGet, hj, ih]

theorem tabGet_tabPut_drop (t : Tab α) (k : Nat) (v : α) : tabGet d (tabPut (tabDrop t k) k v) k = v := by
  induction t with
  | nil => simp [tabDrop, tabPut, tabGet]
  | cons e t ih =>
    obtain ⟨k', v'⟩ := e
    by_cases h : k = k'
    · subst h; simpa [tabDrop] using ih
    · by_cases hk : k < k'
      · simp [tabDrop, h, tabPut, hk, tabGet]
      · simp [tabDrop, h, tabPut, hk, tabGet, ih]

variable [DecidableEq α]

/-- A read after a write of the same key gives the value written. -/
@[simp] theorem tabGet_tabSet_self (t : Tab α) (k : Nat) (v : α) : tabGet d (tabSet d t k v) k = v := by
  by_cases h : v = d k
  · simp [tabSet, h, tabGet_tabDrop_self]
  · simp [tabSet, h, tabGet_tabPut_drop]

/-- A write leaves every other key alone. -/
theorem tabGet_tabSet_other (t : Tab α) {k j : Nat} (v : α) (h : j ≠ k) : tabGet d (tabSet d t k v) j = tabGet d t j := by
  by_cases hv : v = d k
  · simp [tabSet, hv, tabGet_tabDrop_other d t h]
  · simp [tabSet, hv, tabGet_tabPut_other d _ v h, tabGet_tabDrop_other d t h]

theorem tabGet_tabSet (t : Tab α) (k j : Nat) (v : α) : tabGet d (tabSet d t k v) j = if j = k then v else tabGet d t j := by
  by_cases h : j = k
  · subst h; simp
  · simp [h, tabGet_tabSet_other d t v h]

@[simp] theorem tabGet_tabMod_self (t : Tab α) (k : Nat) (f : α → α) : tabGet d (tabMod d t k f) k = f (tabGet d t k) := by
  simp [tabMod]

theorem tabGet_tabMod_other (t : Tab α) {k j : Nat} (f : α → α) (h : j ≠ k) : tabGet d (tabMod d t k f) j = tabGet d t j := by
  simp [tabMod, tabGet_tabSet_other d t _ h]

/-! ## The canonical form -/

theorem tabWfFrom_mono {t : Tab α} {lo lo' : Nat} (h : lo' ≤ lo) (hw : tabWfFrom d lo t = true) : tabWfFrom d lo' t = true := by
  cases t with
  | nil => rfl
  | cons e t =>
    obtain ⟨k, v⟩ := e
    simp only [tabWfFrom, Bool.and_eq_true, decide_eq_true_eq] at hw ⊢
    exact ⟨⟨by omega, hw.1.2⟩, hw.2⟩

theorem tabDrop_of_lt {t : Tab α} {lo k : Nat} (hk : k < lo) (hw : tabWfFrom d lo t = true) : tabDrop t k = t := by
  induction t generalizing lo with
  | nil => rfl
  | cons e t ih =>
    obtain ⟨k', v⟩ := e
    simp only [tabWfFrom, Bool.and_eq_true, decide_eq_true_eq] at hw
    have : k ≠ k' := by omega
    simp [tabDrop, this, ih (lo := k' + 1) (by omega) hw.2]

theorem tabDrop_wf {t : Tab α} {lo k : Nat} (hw : tabWfFrom d lo t = true) : tabWfFrom d lo (tabDrop t k) = true := by
  induction t generalizing lo with
  | nil => rfl
  | cons e t ih =>
    obtain ⟨k', v⟩ := e
    simp only [tabWfFrom, Bool.and_eq_true, decide_eq_true_eq] at hw
    by_cases h : k = k'
    · subst h
      simp only [tabDrop, if_true]
      exact tabWfFrom_mono d (lo := k + 1) (by omega) (ih hw.2)
    · simp only [tabDrop, h, if_false, tabWfFrom, Bool.and_eq_true, decide_eq_true_eq]
      exact ⟨hw.1, ih hw.2⟩

theorem tabPut_wf {t : Tab α} {lo k : Nat} {v : α} (hlo : lo ≤ k) (hv : v ≠ d k) (hw : tabWfFrom d lo (tabDrop t k) = true) :
    tabWfFrom d lo (tabPut (tabDrop t k) k v) = true := by
  have key : ∀ (u : Tab α) (lo : Nat), lo ≤ k → (∀ e ∈ u, e.1 ≠ k) → tabWfFrom d lo u = true → tabWfFrom d lo (tabPut u k v) = true := by
    intro u
    induction u with
    | nil => intro lo hlo _ _; simp [tabPut, tabWfFrom, hlo, hv]
    | cons e u ih =>
      obtain ⟨k', v'⟩ := e
      intro lo hlo hne hw
      simp only [tabWfFrom, Bool.and_eq_true, decide_eq_true_eq] at hw
      have hk : k' ≠ k := hne (k', v') (by simp)
      by_cases h : k < k'
      · simp only [tabPut, h, if_true, tabWfFrom, Bool.and_eq_true, decide_eq_true_eq]
        exact ⟨⟨hlo, by simp [hv]⟩, ⟨⟨by omega, hw.1.2⟩, hw.2⟩⟩
      · simp only [tabPut, h, if_false, tabWfFrom, Bool.and_eq_true, decide_eq_true_eq]
        exact ⟨hw.1, ih (k' + 1) (by omega) (fun e he => hne e (by simp [he])) hw.2⟩
  refine key _ lo hlo ?_ hw
  intro e he
  clear hw key
  induction t with
  | nil => simp [tabDrop] at he
  | cons e' t ih =>
    obtain ⟨k', v'⟩ := e'
    by_cases h : k = k'
    · simp only [tabDrop, h, if_true] at he; subst h; exact ih he
    · simp only [tabDrop, h, if_false, List.mem_cons] at he
      rcases he with rfl | he
      · exact fun hh => h hh.symm
      · exact ih he

theorem tabSet_wfFrom {t : Tab α} {lo k : Nat} {v : α} (hlo : lo ≤ k) (hw : tabWfFrom d lo t = true) : tabWfFrom d lo (tabSet d t k v) = true := by
  by_cases h : v = d k
  · simpa [tabSet, h] using tabDrop_wf d hw
  · simpa [tabSet, h] using tabPut_wf d hlo h (tabDrop_wf d hw)

/-- Every write keeps the canonical form. -/
theorem tabSet_wf {t : Tab α} {k : Nat} {v : α} (hw : tabWf d t = true) : tabWf d (tabSet d t k v) = true :=
  tabSet_wfFrom d (Nat.zero_le k) hw

theorem tabMod_wf {t : Tab α} {k : Nat} {f : α → α} (hw : tabWf d t = true) : tabWf d (tabMod d t k f) = true := tabSet_wf d hw

theorem tabFilter_wfFrom {t : Tab α} {lo : Nat} (f : Nat × α → Bool) (hw : tabWfFrom d lo t = true) : tabWfFrom d lo (t.filter f) = true := by
  induction t generalizing lo with
  | nil => rfl
  | cons e t ih =>
    obtain ⟨k', v⟩ := e
    simp only [tabWfFrom, Bool.and_eq_true, decide_eq_true_eq] at hw
    by_cases h : f (k', v) = true
    · simp only [List.filter_cons, h, if_true, tabWfFrom, Bool.and_eq_true, decide_eq_true_eq]
      exact ⟨hw.1, ih hw.2⟩
    · simp only [List.filter_cons, h]
      exact tabWfFrom_mono d (lo := k' + 1) (by omega) (ih hw.2)

/-- Dropping entries keeps the canonical form. -/
theorem tabFilter_wf {t : Tab α} (f : Nat × α → Bool) (hw : tabWf d t = true) : tabWf d (t.filter f) = true := tabFilter_wfFrom d f hw

end Tables

end Sys2Proof.Machine
end

