-- ==== Sys2Proof/Laws/State.lean ====
section
/-! SUPPORT. Laws of the state's updates: what each update of a field leaves in every other field, and what a register reads after a write. -/

namespace Sys2Proof.Machine

variable (s : State)

/-! ## Fields that an update leaves alone -/

@[simp] theorem State.wr_pending (off : Nat) (v : Word) : (s.wr off v).pending = s.pending := (rfl)
@[simp] theorem State.wr_latches (off : Nat) (v : Word) : (s.wr off v).latches = s.latches := (rfl)
@[simp] theorem State.wr_heldLow (off : Nat) (v : Word) : (s.wr off v).heldLow = s.heldLow := (rfl)
@[simp] theorem State.wr_now (off : Nat) (v : Word) : (s.wr off v).now = s.now := (rfl)
@[simp] theorem State.wr_free (off : Nat) (v : Word) : (s.wr off v).free = s.free := (rfl)
@[simp] theorem State.wr_seqs (off : Nat) (v : Word) : (s.wr off v).seqs = s.seqs := (rfl)
@[simp] theorem State.wr_islands (off : Nat) (v : Word) : (s.wr off v).islands = s.islands := (rfl)
@[simp] theorem State.wr_tku (off : Nat) (v : Word) : (s.wr off v).tku = s.tku := (rfl)
@[simp] theorem State.wr_flt (off : Nat) (v : Word) : (s.wr off v).flt = s.flt := (rfl)
@[simp] theorem State.wr_evr (off : Nat) (v : Word) : (s.wr off v).evr = s.evr := (rfl)
@[simp] theorem State.wr_mem (off : Nat) (v : Word) : (s.wr off v).mem = s.mem := (rfl)
@[simp] theorem State.wr_hbm (off : Nat) (v : Word) : (s.wr off v).hbm = s.hbm := (rfl)
@[simp] theorem State.wr_flash (off : Nat) (v : Word) : (s.wr off v).flash = s.flash := (rfl)
@[simp] theorem State.wr_live (off : Nat) (v : Word) : (s.wr off v).live = s.live := (rfl)
@[simp] theorem State.wr_fns (off : Nat) (v : Word) : (s.wr off v).fns = s.fns := (rfl)
@[simp] theorem State.wr_hps (off : Nat) (v : Word) : (s.wr off v).hps = s.hps := (rfl)
@[simp] theorem State.wr_queues (off : Nat) (v : Word) : (s.wr off v).queues = s.queues := (rfl)
@[simp] theorem State.wr_tenants (off : Nat) (v : Word) : (s.wr off v).tenants = s.tenants := (rfl)
@[simp] theorem State.wr_macs (off : Nat) (v : Word) : (s.wr off v).macs = s.macs := (rfl)
@[simp] theorem State.wr_pipes (off : Nat) (v : Word) : (s.wr off v).pipes = s.pipes := (rfl)
@[simp] theorem State.wr_tmg (off : Nat) (v : Word) : (s.wr off v).tmg = s.tmg := (rfl)
@[simp] theorem State.wr_tbl (off : Nat) (v : Word) : (s.wr off v).tbl = s.tbl := (rfl)
@[simp] theorem State.wr_cls (off : Nat) (v : Word) : (s.wr off v).cls = s.cls := (rfl)
@[simp] theorem State.wr_sec (off : Nat) (v : Word) : (s.wr off v).sec = s.sec := (rfl)
@[simp] theorem State.wr_eng (off : Nat) (v : Word) : (s.wr off v).eng = s.eng := (rfl)
@[simp] theorem State.wr_mov (off : Nat) (v : Word) : (s.wr off v).mov = s.mov := (rfl)
@[simp] theorem State.wr_stk (off : Nat) (v : Word) : (s.wr off v).stk = s.stk := (rfl)
@[simp] theorem State.wr_cgu (off : Nat) (v : Word) : (s.wr off v).cgu = s.cgu := (rfl)
@[simp] theorem State.wr_rst (off : Nat) (v : Word) : (s.wr off v).rst = s.rst := (rfl)
@[simp] theorem State.wr_fuse (off : Nat) (v : Word) : (s.wr off v).fuse = s.fuse := (rfl)
@[simp] theorem State.wr_cfs (off : Nat) (v : Word) : (s.wr off v).cfs = s.cfs := (rfl)
@[simp] theorem State.wr_mgt (off : Nat) (v : Word) : (s.wr off v).mgt = s.mgt := (rfl)
@[simp] theorem State.wr_mge (off : Nat) (v : Word) : (s.wr off v).mge = s.mge := (rfl)
@[simp] theorem State.wr_chans (off : Nat) (v : Word) : (s.wr off v).chans = s.chans := (rfl)
@[simp] theorem State.wr_bufs (off : Nat) (v : Word) : (s.wr off v).bufs = s.bufs := (rfl)
@[simp] theorem State.wr_poolEmptyAt (off : Nat) (v : Word) : (s.wr off v).poolEmptyAt = s.poolEmptyAt := (rfl)
@[simp] theorem State.wr_out (off : Nat) (v : Word) : (s.wr off v).out = s.out := (rfl)

@[simp] theorem State.wrN_pending (off v : Nat) : (s.wrN off v).pending = s.pending := (rfl)
@[simp] theorem State.wrN_latches (off v : Nat) : (s.wrN off v).latches = s.latches := (rfl)
@[simp] theorem State.wrN_heldLow (off v : Nat) : (s.wrN off v).heldLow = s.heldLow := (rfl)
@[simp] theorem State.wrN_now (off v : Nat) : (s.wrN off v).now = s.now := (rfl)
@[simp] theorem State.wrN_free (off v : Nat) : (s.wrN off v).free = s.free := (rfl)
@[simp] theorem State.wrN_seqs (off v : Nat) : (s.wrN off v).seqs = s.seqs := (rfl)
@[simp] theorem State.wrN_islands (off v : Nat) : (s.wrN off v).islands = s.islands := (rfl)
@[simp] theorem State.wrN_tku (off v : Nat) : (s.wrN off v).tku = s.tku := (rfl)
@[simp] theorem State.wrN_flt (off v : Nat) : (s.wrN off v).flt = s.flt := (rfl)
@[simp] theorem State.wrN_evr (off v : Nat) : (s.wrN off v).evr = s.evr := (rfl)
@[simp] theorem State.wrN_mem (off v : Nat) : (s.wrN off v).mem = s.mem := (rfl)
@[simp] theorem State.wrN_hbm (off v : Nat) : (s.wrN off v).hbm = s.hbm := (rfl)
@[simp] theorem State.wrN_flash (off v : Nat) : (s.wrN off v).flash = s.flash := (rfl)
@[simp] theorem State.wrN_live (off v : Nat) : (s.wrN off v).live = s.live := (rfl)
@[simp] theorem State.wrN_fns (off v : Nat) : (s.wrN off v).fns = s.fns := (rfl)
@[simp] theorem State.wrN_hps (off v : Nat) : (s.wrN off v).hps = s.hps := (rfl)
@[simp] theorem State.wrN_queues (off v : Nat) : (s.wrN off v).queues = s.queues := (rfl)
@[simp] theorem State.wrN_tenants (off v : Nat) : (s.wrN off v).tenants = s.tenants := (rfl)
@[simp] theorem State.wrN_macs (off v : Nat) : (s.wrN off v).macs = s.macs := (rfl)
@[simp] theorem State.wrN_pipes (off v : Nat) : (s.wrN off v).pipes = s.pipes := (rfl)
@[simp] theorem State.wrN_tmg (off v : Nat) : (s.wrN off v).tmg = s.tmg := (rfl)
@[simp] theorem State.wrN_tbl (off v : Nat) : (s.wrN off v).tbl = s.tbl := (rfl)
@[simp] theorem State.wrN_cls (off v : Nat) : (s.wrN off v).cls = s.cls := (rfl)
@[simp] theorem State.wrN_sec (off v : Nat) : (s.wrN off v).sec = s.sec := (rfl)
@[simp] theorem State.wrN_eng (off v : Nat) : (s.wrN off v).eng = s.eng := (rfl)
@[simp] theorem State.wrN_mov (off v : Nat) : (s.wrN off v).mov = s.mov := (rfl)
@[simp] theorem State.wrN_stk (off v : Nat) : (s.wrN off v).stk = s.stk := (rfl)
@[simp] theorem State.wrN_cgu (off v : Nat) : (s.wrN off v).cgu = s.cgu := (rfl)
@[simp] theorem State.wrN_rst (off v : Nat) : (s.wrN off v).rst = s.rst := (rfl)
@[simp] theorem State.wrN_fuse (off v : Nat) : (s.wrN off v).fuse = s.fuse := (rfl)
@[simp] theorem State.wrN_cfs (off v : Nat) : (s.wrN off v).cfs = s.cfs := (rfl)
@[simp] theorem State.wrN_mgt (off v : Nat) : (s.wrN off v).mgt = s.mgt := (rfl)
@[simp] theorem State.wrN_mge (off v : Nat) : (s.wrN off v).mge = s.mge := (rfl)
@[simp] theorem State.wrN_chans (off v : Nat) : (s.wrN off v).chans = s.chans := (rfl)
@[simp] theorem State.wrN_bufs (off v : Nat) : (s.wrN off v).bufs = s.bufs := (rfl)
@[simp] theorem State.wrN_poolEmptyAt (off v : Nat) : (s.wrN off v).poolEmptyAt = s.poolEmptyAt := (rfl)
@[simp] theorem State.wrN_out (off v : Nat) : (s.wrN off v).out = s.out := (rfl)

@[simp] theorem State.sf_pending (f : Fld) (v : Nat) : (s.sf f v).pending = s.pending := (rfl)
@[simp] theorem State.sf_latches (f : Fld) (v : Nat) : (s.sf f v).latches = s.latches := (rfl)
@[simp] theorem State.sf_heldLow (f : Fld) (v : Nat) : (s.sf f v).heldLow = s.heldLow := (rfl)
@[simp] theorem State.sf_now (f : Fld) (v : Nat) : (s.sf f v).now = s.now := (rfl)
@[simp] theorem State.sf_free (f : Fld) (v : Nat) : (s.sf f v).free = s.free := (rfl)
@[simp] theorem State.sf_seqs (f : Fld) (v : Nat) : (s.sf f v).seqs = s.seqs := (rfl)
@[simp] theorem State.sf_islands (f : Fld) (v : Nat) : (s.sf f v).islands = s.islands := (rfl)
@[simp] theorem State.sf_tku (f : Fld) (v : Nat) : (s.sf f v).tku = s.tku := (rfl)
@[simp] theorem State.sf_flt (f : Fld) (v : Nat) : (s.sf f v).flt = s.flt := (rfl)
@[simp] theorem State.sf_evr (f : Fld) (v : Nat) : (s.sf f v).evr = s.evr := (rfl)
@[simp] theorem State.sf_mem (f : Fld) (v : Nat) : (s.sf f v).mem = s.mem := (rfl)
@[simp] theorem State.sf_hbm (f : Fld) (v : Nat) : (s.sf f v).hbm = s.hbm := (rfl)
@[simp] theorem State.sf_flash (f : Fld) (v : Nat) : (s.sf f v).flash = s.flash := (rfl)
@[simp] theorem State.sf_live (f : Fld) (v : Nat) : (s.sf f v).live = s.live := (rfl)
@[simp] theorem State.sf_fns (f : Fld) (v : Nat) : (s.sf f v).fns = s.fns := (rfl)
@[simp] theorem State.sf_hps (f : Fld) (v : Nat) : (s.sf f v).hps = s.hps := (rfl)
@[simp] theorem State.sf_queues (f : Fld) (v : Nat) : (s.sf f v).queues = s.queues := (rfl)
@[simp] theorem State.sf_tenants (f : Fld) (v : Nat) : (s.sf f v).tenants = s.tenants := (rfl)
@[simp] theorem State.sf_macs (f : Fld) (v : Nat) : (s.sf f v).macs = s.macs := (rfl)
@[simp] theorem State.sf_pipes (f : Fld) (v : Nat) : (s.sf f v).pipes = s.pipes := (rfl)
@[simp] theorem State.sf_tmg (f : Fld) (v : Nat) : (s.sf f v).tmg = s.tmg := (rfl)
@[simp] theorem State.sf_tbl (f : Fld) (v : Nat) : (s.sf f v).tbl = s.tbl := (rfl)
@[simp] theorem State.sf_cls (f : Fld) (v : Nat) : (s.sf f v).cls = s.cls := (rfl)
@[simp] theorem State.sf_sec (f : Fld) (v : Nat) : (s.sf f v).sec = s.sec := (rfl)
@[simp] theorem State.sf_eng (f : Fld) (v : Nat) : (s.sf f v).eng = s.eng := (rfl)
@[simp] theorem State.sf_mov (f : Fld) (v : Nat) : (s.sf f v).mov = s.mov := (rfl)
@[simp] theorem State.sf_stk (f : Fld) (v : Nat) : (s.sf f v).stk = s.stk := (rfl)
@[simp] theorem State.sf_cgu (f : Fld) (v : Nat) : (s.sf f v).cgu = s.cgu := (rfl)
@[simp] theorem State.sf_rst (f : Fld) (v : Nat) : (s.sf f v).rst = s.rst := (rfl)
@[simp] theorem State.sf_fuse (f : Fld) (v : Nat) : (s.sf f v).fuse = s.fuse := (rfl)
@[simp] theorem State.sf_cfs (f : Fld) (v : Nat) : (s.sf f v).cfs = s.cfs := (rfl)
@[simp] theorem State.sf_mgt (f : Fld) (v : Nat) : (s.sf f v).mgt = s.mgt := (rfl)
@[simp] theorem State.sf_mge (f : Fld) (v : Nat) : (s.sf f v).mge = s.mge := (rfl)
@[simp] theorem State.sf_chans (f : Fld) (v : Nat) : (s.sf f v).chans = s.chans := (rfl)
@[simp] theorem State.sf_bufs (f : Fld) (v : Nat) : (s.sf f v).bufs = s.bufs := (rfl)
@[simp] theorem State.sf_poolEmptyAt (f : Fld) (v : Nat) : (s.sf f v).poolEmptyAt = s.poolEmptyAt := (rfl)
@[simp] theorem State.sf_out (f : Fld) (v : Nat) : (s.sf f v).out = s.out := (rfl)

@[simp] theorem State.sb_pending (f : Fld) (v : Bool) : (s.sb f v).pending = s.pending := (rfl)
@[simp] theorem State.sb_latches (f : Fld) (v : Bool) : (s.sb f v).latches = s.latches := (rfl)
@[simp] theorem State.sb_heldLow (f : Fld) (v : Bool) : (s.sb f v).heldLow = s.heldLow := (rfl)
@[simp] theorem State.sb_now (f : Fld) (v : Bool) : (s.sb f v).now = s.now := (rfl)
@[simp] theorem State.sb_free (f : Fld) (v : Bool) : (s.sb f v).free = s.free := (rfl)
@[simp] theorem State.sb_seqs (f : Fld) (v : Bool) : (s.sb f v).seqs = s.seqs := (rfl)
@[simp] theorem State.sb_islands (f : Fld) (v : Bool) : (s.sb f v).islands = s.islands := (rfl)
@[simp] theorem State.sb_tku (f : Fld) (v : Bool) : (s.sb f v).tku = s.tku := (rfl)
@[simp] theorem State.sb_flt (f : Fld) (v : Bool) : (s.sb f v).flt = s.flt := (rfl)
@[simp] theorem State.sb_evr (f : Fld) (v : Bool) : (s.sb f v).evr = s.evr := (rfl)
@[simp] theorem State.sb_mem (f : Fld) (v : Bool) : (s.sb f v).mem = s.mem := (rfl)
@[simp] theorem State.sb_hbm (f : Fld) (v : Bool) : (s.sb f v).hbm = s.hbm := (rfl)
@[simp] theorem State.sb_flash (f : Fld) (v : Bool) : (s.sb f v).flash = s.flash := (rfl)
@[simp] theorem State.sb_live (f : Fld) (v : Bool) : (s.sb f v).live = s.live := (rfl)
@[simp] theorem State.sb_fns (f : Fld) (v : Bool) : (s.sb f v).fns = s.fns := (rfl)
@[simp] theorem State.sb_hps (f : Fld) (v : Bool) : (s.sb f v).hps = s.hps := (rfl)
@[simp] theorem State.sb_queues (f : Fld) (v : Bool) : (s.sb f v).queues = s.queues := (rfl)
@[simp] theorem State.sb_tenants (f : Fld) (v : Bool) : (s.sb f v).tenants = s.tenants := (rfl)
@[simp] theorem State.sb_macs (f : Fld) (v : Bool) : (s.sb f v).macs = s.macs := (rfl)
@[simp] theorem State.sb_pipes (f : Fld) (v : Bool) : (s.sb f v).pipes = s.pipes := (rfl)
@[simp] theorem State.sb_tmg (f : Fld) (v : Bool) : (s.sb f v).tmg = s.tmg := (rfl)
@[simp] theorem State.sb_tbl (f : Fld) (v : Bool) : (s.sb f v).tbl = s.tbl := (rfl)
@[simp] theorem State.sb_cls (f : Fld) (v : Bool) : (s.sb f v).cls = s.cls := (rfl)
@[simp] theorem State.sb_sec (f : Fld) (v : Bool) : (s.sb f v).sec = s.sec := (rfl)
@[simp] theorem State.sb_eng (f : Fld) (v : Bool) : (s.sb f v).eng = s.eng := (rfl)
@[simp] theorem State.sb_mov (f : Fld) (v : Bool) : (s.sb f v).mov = s.mov := (rfl)
@[simp] theorem State.sb_stk (f : Fld) (v : Bool) : (s.sb f v).stk = s.stk := (rfl)
@[simp] theorem State.sb_cgu (f : Fld) (v : Bool) : (s.sb f v).cgu = s.cgu := (rfl)
@[simp] theorem State.sb_rst (f : Fld) (v : Bool) : (s.sb f v).rst = s.rst := (rfl)
@[simp] theorem State.sb_fuse (f : Fld) (v : Bool) : (s.sb f v).fuse = s.fuse := (rfl)
@[simp] theorem State.sb_cfs (f : Fld) (v : Bool) : (s.sb f v).cfs = s.cfs := (rfl)
@[simp] theorem State.sb_mgt (f : Fld) (v : Bool) : (s.sb f v).mgt = s.mgt := (rfl)
@[simp] theorem State.sb_mge (f : Fld) (v : Bool) : (s.sb f v).mge = s.mge := (rfl)
@[simp] theorem State.sb_chans (f : Fld) (v : Bool) : (s.sb f v).chans = s.chans := (rfl)
@[simp] theorem State.sb_bufs (f : Fld) (v : Bool) : (s.sb f v).bufs = s.bufs := (rfl)
@[simp] theorem State.sb_poolEmptyAt (f : Fld) (v : Bool) : (s.sb f v).poolEmptyAt = s.poolEmptyAt := (rfl)
@[simp] theorem State.sb_out (f : Fld) (v : Bool) : (s.sb f v).out = s.out := (rfl)

@[simp] theorem State.reportAs_pending (c v r b : Nat) (l : List Nat) : (s.reportAs c v r b l).pending = s.pending := (rfl)
@[simp] theorem State.reportAs_regs (c v r b : Nat) (l : List Nat) : (s.reportAs c v r b l).regs = s.regs := (rfl)
@[simp] theorem State.reportAs_latches (c v r b : Nat) (l : List Nat) : (s.reportAs c v r b l).latches = s.latches := (rfl)
@[simp] theorem State.reportAs_heldLow (c v r b : Nat) (l : List Nat) : (s.reportAs c v r b l).heldLow = s.heldLow := (rfl)
@[simp] theorem State.reportAs_now (c v r b : Nat) (l : List Nat) : (s.reportAs c v r b l).now = s.now := (rfl)
@[simp] theorem State.reportAs_free (c v r b : Nat) (l : List Nat) : (s.reportAs c v r b l).free = s.free := (rfl)
@[simp] theorem State.reportAs_seqs (c v r b : Nat) (l : List Nat) : (s.reportAs c v r b l).seqs = s.seqs := (rfl)
@[simp] theorem State.reportAs_islands (c v r b : Nat) (l : List Nat) : (s.reportAs c v r b l).islands = s.islands := (rfl)
@[simp] theorem State.reportAs_tku (c v r b : Nat) (l : List Nat) : (s.reportAs c v r b l).tku = s.tku := (rfl)
@[simp] theorem State.reportAs_evr (c v r b : Nat) (l : List Nat) : (s.reportAs c v r b l).evr = s.evr := (rfl)
@[simp] theorem State.reportAs_mem (c v r b : Nat) (l : List Nat) : (s.reportAs c v r b l).mem = s.mem := (rfl)
@[simp] theorem State.reportAs_hbm (c v r b : Nat) (l : List Nat) : (s.reportAs c v r b l).hbm = s.hbm := (rfl)
@[simp] theorem State.reportAs_flash (c v r b : Nat) (l : List Nat) : (s.reportAs c v r b l).flash = s.flash := (rfl)
@[simp] theorem State.reportAs_live (c v r b : Nat) (l : List Nat) : (s.reportAs c v r b l).live = s.live := (rfl)
@[simp] theorem State.reportAs_fns (c v r b : Nat) (l : List Nat) : (s.reportAs c v r b l).fns = s.fns := (rfl)
@[simp] theorem State.reportAs_hps (c v r b : Nat) (l : List Nat) : (s.reportAs c v r b l).hps = s.hps := (rfl)
@[simp] theorem State.reportAs_queues (c v r b : Nat) (l : List Nat) : (s.reportAs c v r b l).queues = s.queues := (rfl)
@[simp] theorem State.reportAs_tenants (c v r b : Nat) (l : List Nat) : (s.reportAs c v r b l).tenants = s.tenants := (rfl)
@[simp] theorem State.reportAs_macs (c v r b : Nat) (l : List Nat) : (s.reportAs c v r b l).macs = s.macs := (rfl)
@[simp] theorem State.reportAs_pipes (c v r b : Nat) (l : List Nat) : (s.reportAs c v r b l).pipes = s.pipes := (rfl)
@[simp] theorem State.reportAs_tmg (c v r b : Nat) (l : List Nat) : (s.reportAs c v r b l).tmg = s.tmg := (rfl)
@[simp] theorem State.reportAs_tbl (c v r b : Nat) (l : List Nat) : (s.reportAs c v r b l).tbl = s.tbl := (rfl)
@[simp] theorem State.reportAs_cls (c v r b : Nat) (l : List Nat) : (s.reportAs c v r b l).cls = s.cls := (rfl)
@[simp] theorem State.reportAs_sec (c v r b : Nat) (l : List Nat) : (s.reportAs c v r b l).sec = s.sec := (rfl)
@[simp] theorem State.reportAs_eng (c v r b : Nat) (l : List Nat) : (s.reportAs c v r b l).eng = s.eng := (rfl)
@[simp] theorem State.reportAs_mov (c v r b : Nat) (l : List Nat) : (s.reportAs c v r b l).mov = s.mov := (rfl)
@[simp] theorem State.reportAs_stk (c v r b : Nat) (l : List Nat) : (s.reportAs c v r b l).stk = s.stk := (rfl)
@[simp] theorem State.reportAs_cgu (c v r b : Nat) (l : List Nat) : (s.reportAs c v r b l).cgu = s.cgu := (rfl)
@[simp] theorem State.reportAs_rst (c v r b : Nat) (l : List Nat) : (s.reportAs c v r b l).rst = s.rst := (rfl)
@[simp] theorem State.reportAs_fuse (c v r b : Nat) (l : List Nat) : (s.reportAs c v r b l).fuse = s.fuse := (rfl)
@[simp] theorem State.reportAs_cfs (c v r b : Nat) (l : List Nat) : (s.reportAs c v r b l).cfs = s.cfs := (rfl)
@[simp] theorem State.reportAs_mgt (c v r b : Nat) (l : List Nat) : (s.reportAs c v r b l).mgt = s.mgt := (rfl)
@[simp] theorem State.reportAs_mge (c v r b : Nat) (l : List Nat) : (s.reportAs c v r b l).mge = s.mge := (rfl)
@[simp] theorem State.reportAs_chans (c v r b : Nat) (l : List Nat) : (s.reportAs c v r b l).chans = s.chans := (rfl)
@[simp] theorem State.reportAs_bufs (c v r b : Nat) (l : List Nat) : (s.reportAs c v r b l).bufs = s.bufs := (rfl)
@[simp] theorem State.reportAs_poolEmptyAt (c v r b : Nat) (l : List Nat) : (s.reportAs c v r b l).poolEmptyAt = s.poolEmptyAt := (rfl)
@[simp] theorem State.reportAs_out (c v r b : Nat) (l : List Nat) : (s.reportAs c v r b l).out = s.out := (rfl)

@[simp] theorem State.report_pending (c v i : Nat) (l : List Nat) : (s.report c v i l).pending = s.pending := (rfl)
@[simp] theorem State.report_regs (c v i : Nat) (l : List Nat) : (s.report c v i l).regs = s.regs := (rfl)
@[simp] theorem State.report_latches (c v i : Nat) (l : List Nat) : (s.report c v i l).latches = s.latches := (rfl)
@[simp] theorem State.report_heldLow (c v i : Nat) (l : List Nat) : (s.report c v i l).heldLow = s.heldLow := (rfl)
@[simp] theorem State.report_now (c v i : Nat) (l : List Nat) : (s.report c v i l).now = s.now := (rfl)
@[simp] theorem State.report_free (c v i : Nat) (l : List Nat) : (s.report c v i l).free = s.free := (rfl)
@[simp] theorem State.report_seqs (c v i : Nat) (l : List Nat) : (s.report c v i l).seqs = s.seqs := (rfl)
@[simp] theorem State.report_islands (c v i : Nat) (l : List Nat) : (s.report c v i l).islands = s.islands := (rfl)
@[simp] theorem State.report_tku (c v i : Nat) (l : List Nat) : (s.report c v i l).tku = s.tku := (rfl)
@[simp] theorem State.report_evr (c v i : Nat) (l : List Nat) : (s.report c v i l).evr = s.evr := (rfl)
@[simp] theorem State.report_mem (c v i : Nat) (l : List Nat) : (s.report c v i l).mem = s.mem := (rfl)
@[simp] theorem State.report_hbm (c v i : Nat) (l : List Nat) : (s.report c v i l).hbm = s.hbm := (rfl)
@[simp] theorem State.report_flash (c v i : Nat) (l : List Nat) : (s.report c v i l).flash = s.flash := (rfl)
@[simp] theorem State.report_live (c v i : Nat) (l : List Nat) : (s.report c v i l).live = s.live := (rfl)
@[simp] theorem State.report_fns (c v i : Nat) (l : List Nat) : (s.report c v i l).fns = s.fns := (rfl)
@[simp] theorem State.report_hps (c v i : Nat) (l : List Nat) : (s.report c v i l).hps = s.hps := (rfl)
@[simp] theorem State.report_queues (c v i : Nat) (l : List Nat) : (s.report c v i l).queues = s.queues := (rfl)
@[simp] theorem State.report_tenants (c v i : Nat) (l : List Nat) : (s.report c v i l).tenants = s.tenants := (rfl)
@[simp] theorem State.report_macs (c v i : Nat) (l : List Nat) : (s.report c v i l).macs = s.macs := (rfl)
@[simp] theorem State.report_pipes (c v i : Nat) (l : List Nat) : (s.report c v i l).pipes = s.pipes := (rfl)
@[simp] theorem State.report_tmg (c v i : Nat) (l : List Nat) : (s.report c v i l).tmg = s.tmg := (rfl)
@[simp] theorem State.report_tbl (c v i : Nat) (l : List Nat) : (s.report c v i l).tbl = s.tbl := (rfl)
@[simp] theorem State.report_cls (c v i : Nat) (l : List Nat) : (s.report c v i l).cls = s.cls := (rfl)
@[simp] theorem State.report_sec (c v i : Nat) (l : List Nat) : (s.report c v i l).sec = s.sec := (rfl)
@[simp] theorem State.report_eng (c v i : Nat) (l : List Nat) : (s.report c v i l).eng = s.eng := (rfl)
@[simp] theorem State.report_mov (c v i : Nat) (l : List Nat) : (s.report c v i l).mov = s.mov := (rfl)
@[simp] theorem State.report_stk (c v i : Nat) (l : List Nat) : (s.report c v i l).stk = s.stk := (rfl)
@[simp] theorem State.report_cgu (c v i : Nat) (l : List Nat) : (s.report c v i l).cgu = s.cgu := (rfl)
@[simp] theorem State.report_rst (c v i : Nat) (l : List Nat) : (s.report c v i l).rst = s.rst := (rfl)
@[simp] theorem State.report_fuse (c v i : Nat) (l : List Nat) : (s.report c v i l).fuse = s.fuse := (rfl)
@[simp] theorem State.report_cfs (c v i : Nat) (l : List Nat) : (s.report c v i l).cfs = s.cfs := (rfl)
@[simp] theorem State.report_mgt (c v i : Nat) (l : List Nat) : (s.report c v i l).mgt = s.mgt := (rfl)
@[simp] theorem State.report_mge (c v i : Nat) (l : List Nat) : (s.report c v i l).mge = s.mge := (rfl)
@[simp] theorem State.report_chans (c v i : Nat) (l : List Nat) : (s.report c v i l).chans = s.chans := (rfl)
@[simp] theorem State.report_bufs (c v i : Nat) (l : List Nat) : (s.report c v i l).bufs = s.bufs := (rfl)
@[simp] theorem State.report_poolEmptyAt (c v i : Nat) (l : List Nat) : (s.report c v i l).poolEmptyAt = s.poolEmptyAt := (rfl)
@[simp] theorem State.report_out (c v i : Nat) (l : List Nat) : (s.report c v i l).out = s.out := (rfl)

@[simp] theorem State.reportFn_pending (c v r p g : Nat) : (s.reportFn c v r p g).pending = s.pending := (rfl)
@[simp] theorem State.reportFn_regs (c v r p g : Nat) : (s.reportFn c v r p g).regs = s.regs := (rfl)
@[simp] theorem State.reportFn_latches (c v r p g : Nat) : (s.reportFn c v r p g).latches = s.latches := (rfl)
@[simp] theorem State.reportFn_heldLow (c v r p g : Nat) : (s.reportFn c v r p g).heldLow = s.heldLow := (rfl)
@[simp] theorem State.reportFn_now (c v r p g : Nat) : (s.reportFn c v r p g).now = s.now := (rfl)
@[simp] theorem State.reportFn_free (c v r p g : Nat) : (s.reportFn c v r p g).free = s.free := (rfl)
@[simp] theorem State.reportFn_seqs (c v r p g : Nat) : (s.reportFn c v r p g).seqs = s.seqs := (rfl)
@[simp] theorem State.reportFn_islands (c v r p g : Nat) : (s.reportFn c v r p g).islands = s.islands := (rfl)
@[simp] theorem State.reportFn_tku (c v r p g : Nat) : (s.reportFn c v r p g).tku = s.tku := (rfl)
@[simp] theorem State.reportFn_evr (c v r p g : Nat) : (s.reportFn c v r p g).evr = s.evr := (rfl)
@[simp] theorem State.reportFn_mem (c v r p g : Nat) : (s.reportFn c v r p g).mem = s.mem := (rfl)
@[simp] theorem State.reportFn_hbm (c v r p g : Nat) : (s.reportFn c v r p g).hbm = s.hbm := (rfl)
@[simp] theorem State.reportFn_flash (c v r p g : Nat) : (s.reportFn c v r p g).flash = s.flash := (rfl)
@[simp] theorem State.reportFn_live (c v r p g : Nat) : (s.reportFn c v r p g).live = s.live := (rfl)
@[simp] theorem State.reportFn_fns (c v r p g : Nat) : (s.reportFn c v r p g).fns = s.fns := (rfl)
@[simp] theorem State.reportFn_hps (c v r p g : Nat) : (s.reportFn c v r p g).hps = s.hps := (rfl)
@[simp] theorem State.reportFn_queues (c v r p g : Nat) : (s.reportFn c v r p g).queues = s.queues := (rfl)
@[simp] theorem State.reportFn_tenants (c v r p g : Nat) : (s.reportFn c v r p g).tenants = s.tenants := (rfl)
@[simp] theorem State.reportFn_macs (c v r p g : Nat) : (s.reportFn c v r p g).macs = s.macs := (rfl)
@[simp] theorem State.reportFn_pipes (c v r p g : Nat) : (s.reportFn c v r p g).pipes = s.pipes := (rfl)
@[simp] theorem State.reportFn_tmg (c v r p g : Nat) : (s.reportFn c v r p g).tmg = s.tmg := (rfl)
@[simp] theorem State.reportFn_tbl (c v r p g : Nat) : (s.reportFn c v r p g).tbl = s.tbl := (rfl)
@[simp] theorem State.reportFn_cls (c v r p g : Nat) : (s.reportFn c v r p g).cls = s.cls := (rfl)
@[simp] theorem State.reportFn_sec (c v r p g : Nat) : (s.reportFn c v r p g).sec = s.sec := (rfl)
@[simp] theorem State.reportFn_eng (c v r p g : Nat) : (s.reportFn c v r p g).eng = s.eng := (rfl)
@[simp] theorem State.reportFn_mov (c v r p g : Nat) : (s.reportFn c v r p g).mov = s.mov := (rfl)
@[simp] theorem State.reportFn_stk (c v r p g : Nat) : (s.reportFn c v r p g).stk = s.stk := (rfl)
@[simp] theorem State.reportFn_cgu (c v r p g : Nat) : (s.reportFn c v r p g).cgu = s.cgu := (rfl)
@[simp] theorem State.reportFn_rst (c v r p g : Nat) : (s.reportFn c v r p g).rst = s.rst := (rfl)
@[simp] theorem State.reportFn_fuse (c v r p g : Nat) : (s.reportFn c v r p g).fuse = s.fuse := (rfl)
@[simp] theorem State.reportFn_cfs (c v r p g : Nat) : (s.reportFn c v r p g).cfs = s.cfs := (rfl)
@[simp] theorem State.reportFn_mgt (c v r p g : Nat) : (s.reportFn c v r p g).mgt = s.mgt := (rfl)
@[simp] theorem State.reportFn_mge (c v r p g : Nat) : (s.reportFn c v r p g).mge = s.mge := (rfl)
@[simp] theorem State.reportFn_chans (c v r p g : Nat) : (s.reportFn c v r p g).chans = s.chans := (rfl)
@[simp] theorem State.reportFn_bufs (c v r p g : Nat) : (s.reportFn c v r p g).bufs = s.bufs := (rfl)
@[simp] theorem State.reportFn_poolEmptyAt (c v r p g : Nat) : (s.reportFn c v r p g).poolEmptyAt = s.poolEmptyAt := (rfl)
@[simp] theorem State.reportFn_out (c v r p g : Nat) : (s.reportFn c v r p g).out = s.out := (rfl)

@[simp] theorem State.cfgViol_pending (m : Master) (off : Nat) : (s.cfgViol m off).pending = s.pending := (rfl)
@[simp] theorem State.cfgViol_regs (m : Master) (off : Nat) : (s.cfgViol m off).regs = s.regs := (rfl)
@[simp] theorem State.cfgViol_latches (m : Master) (off : Nat) : (s.cfgViol m off).latches = s.latches := (rfl)
@[simp] theorem State.cfgViol_heldLow (m : Master) (off : Nat) : (s.cfgViol m off).heldLow = s.heldLow := (rfl)
@[simp] theorem State.cfgViol_now (m : Master) (off : Nat) : (s.cfgViol m off).now = s.now := (rfl)
@[simp] theorem State.cfgViol_free (m : Master) (off : Nat) : (s.cfgViol m off).free = s.free := (rfl)
@[simp] theorem State.cfgViol_seqs (m : Master) (off : Nat) : (s.cfgViol m off).seqs = s.seqs := (rfl)
@[simp] theorem State.cfgViol_islands (m : Master) (off : Nat) : (s.cfgViol m off).islands = s.islands := (rfl)
@[simp] theorem State.cfgViol_tku (m : Master) (off : Nat) : (s.cfgViol m off).tku = s.tku := (rfl)
@[simp] theorem State.cfgViol_evr (m : Master) (off : Nat) : (s.cfgViol m off).evr = s.evr := (rfl)
@[simp] theorem State.cfgViol_mem (m : Master) (off : Nat) : (s.cfgViol m off).mem = s.mem := (rfl)
@[simp] theorem State.cfgViol_hbm (m : Master) (off : Nat) : (s.cfgViol m off).hbm = s.hbm := (rfl)
@[simp] theorem State.cfgViol_flash (m : Master) (off : Nat) : (s.cfgViol m off).flash = s.flash := (rfl)
@[simp] theorem State.cfgViol_live (m : Master) (off : Nat) : (s.cfgViol m off).live = s.live := (rfl)
@[simp] theorem State.cfgViol_fns (m : Master) (off : Nat) : (s.cfgViol m off).fns = s.fns := (rfl)
@[simp] theorem State.cfgViol_hps (m : Master) (off : Nat) : (s.cfgViol m off).hps = s.hps := (rfl)
@[simp] theorem State.cfgViol_queues (m : Master) (off : Nat) : (s.cfgViol m off).queues = s.queues := (rfl)
@[simp] theorem State.cfgViol_tenants (m : Master) (off : Nat) : (s.cfgViol m off).tenants = s.tenants := (rfl)
@[simp] theorem State.cfgViol_macs (m : Master) (off : Nat) : (s.cfgViol m off).macs = s.macs := (rfl)
@[simp] theorem State.cfgViol_pipes (m : Master) (off : Nat) : (s.cfgViol m off).pipes = s.pipes := (rfl)
@[simp] theorem State.cfgViol_tmg (m : Master) (off : Nat) : (s.cfgViol m off).tmg = s.tmg := (rfl)
@[simp] theorem State.cfgViol_tbl (m : Master) (off : Nat) : (s.cfgViol m off).tbl = s.tbl := (rfl)
@[simp] theorem State.cfgViol_cls (m : Master) (off : Nat) : (s.cfgViol m off).cls = s.cls := (rfl)
@[simp] theorem State.cfgViol_sec (m : Master) (off : Nat) : (s.cfgViol m off).sec = s.sec := (rfl)
@[simp] theorem State.cfgViol_eng (m : Master) (off : Nat) : (s.cfgViol m off).eng = s.eng := (rfl)
@[simp] theorem State.cfgViol_mov (m : Master) (off : Nat) : (s.cfgViol m off).mov = s.mov := (rfl)
@[simp] theorem State.cfgViol_stk (m : Master) (off : Nat) : (s.cfgViol m off).stk = s.stk := (rfl)
@[simp] theorem State.cfgViol_cgu (m : Master) (off : Nat) : (s.cfgViol m off).cgu = s.cgu := (rfl)
@[simp] theorem State.cfgViol_rst (m : Master) (off : Nat) : (s.cfgViol m off).rst = s.rst := (rfl)
@[simp] theorem State.cfgViol_fuse (m : Master) (off : Nat) : (s.cfgViol m off).fuse = s.fuse := (rfl)
@[simp] theorem State.cfgViol_cfs (m : Master) (off : Nat) : (s.cfgViol m off).cfs = s.cfs := (rfl)
@[simp] theorem State.cfgViol_mgt (m : Master) (off : Nat) : (s.cfgViol m off).mgt = s.mgt := (rfl)
@[simp] theorem State.cfgViol_mge (m : Master) (off : Nat) : (s.cfgViol m off).mge = s.mge := (rfl)
@[simp] theorem State.cfgViol_chans (m : Master) (off : Nat) : (s.cfgViol m off).chans = s.chans := (rfl)
@[simp] theorem State.cfgViol_bufs (m : Master) (off : Nat) : (s.cfgViol m off).bufs = s.bufs := (rfl)
@[simp] theorem State.cfgViol_poolEmptyAt (m : Master) (off : Nat) : (s.cfgViol m off).poolEmptyAt = s.poolEmptyAt := (rfl)
@[simp] theorem State.cfgViol_out (m : Master) (off : Nat) : (s.cfgViol m off).out = s.out := (rfl)

@[simp] theorem State.gatedEvent_pending (m : Master) (off : Nat) : (s.gatedEvent m off).pending = s.pending := (rfl)
@[simp] theorem State.gatedEvent_regs (m : Master) (off : Nat) : (s.gatedEvent m off).regs = s.regs := (rfl)
@[simp] theorem State.gatedEvent_latches (m : Master) (off : Nat) : (s.gatedEvent m off).latches = s.latches := (rfl)
@[simp] theorem State.gatedEvent_heldLow (m : Master) (off : Nat) : (s.gatedEvent m off).heldLow = s.heldLow := (rfl)
@[simp] theorem State.gatedEvent_now (m : Master) (off : Nat) : (s.gatedEvent m off).now = s.now := (rfl)
@[simp] theorem State.gatedEvent_free (m : Master) (off : Nat) : (s.gatedEvent m off).free = s.free := (rfl)
@[simp] theorem State.gatedEvent_seqs (m : Master) (off : Nat) : (s.gatedEvent m off).seqs = s.seqs := (rfl)
@[simp] theorem State.gatedEvent_islands (m : Master) (off : Nat) : (s.gatedEvent m off).islands = s.islands := (rfl)
@[simp] theorem State.gatedEvent_tku (m : Master) (off : Nat) : (s.gatedEvent m off).tku = s.tku := (rfl)
@[simp] theorem State.gatedEvent_evr (m : Master) (off : Nat) : (s.gatedEvent m off).evr = s.evr := (rfl)
@[simp] theorem State.gatedEvent_mem (m : Master) (off : Nat) : (s.gatedEvent m off).mem = s.mem := (rfl)
@[simp] theorem State.gatedEvent_hbm (m : Master) (off : Nat) : (s.gatedEvent m off).hbm = s.hbm := (rfl)
@[simp] theorem State.gatedEvent_flash (m : Master) (off : Nat) : (s.gatedEvent m off).flash = s.flash := (rfl)
@[simp] theorem State.gatedEvent_live (m : Master) (off : Nat) : (s.gatedEvent m off).live = s.live := (rfl)
@[simp] theorem State.gatedEvent_fns (m : Master) (off : Nat) : (s.gatedEvent m off).fns = s.fns := (rfl)
@[simp] theorem State.gatedEvent_hps (m : Master) (off : Nat) : (s.gatedEvent m off).hps = s.hps := (rfl)
@[simp] theorem State.gatedEvent_queues (m : Master) (off : Nat) : (s.gatedEvent m off).queues = s.queues := (rfl)
@[simp] theorem State.gatedEvent_tenants (m : Master) (off : Nat) : (s.gatedEvent m off).tenants = s.tenants := (rfl)
@[simp] theorem State.gatedEvent_macs (m : Master) (off : Nat) : (s.gatedEvent m off).macs = s.macs := (rfl)
@[simp] theorem State.gatedEvent_pipes (m : Master) (off : Nat) : (s.gatedEvent m off).pipes = s.pipes := (rfl)
@[simp] theorem State.gatedEvent_tmg (m : Master) (off : Nat) : (s.gatedEvent m off).tmg = s.tmg := (rfl)
@[simp] theorem State.gatedEvent_tbl (m : Master) (off : Nat) : (s.gatedEvent m off).tbl = s.tbl := (rfl)
@[simp] theorem State.gatedEvent_cls (m : Master) (off : Nat) : (s.gatedEvent m off).cls = s.cls := (rfl)
@[simp] theorem State.gatedEvent_sec (m : Master) (off : Nat) : (s.gatedEvent m off).sec = s.sec := (rfl)
@[simp] theorem State.gatedEvent_eng (m : Master) (off : Nat) : (s.gatedEvent m off).eng = s.eng := (rfl)
@[simp] theorem State.gatedEvent_mov (m : Master) (off : Nat) : (s.gatedEvent m off).mov = s.mov := (rfl)
@[simp] theorem State.gatedEvent_stk (m : Master) (off : Nat) : (s.gatedEvent m off).stk = s.stk := (rfl)
@[simp] theorem State.gatedEvent_cgu (m : Master) (off : Nat) : (s.gatedEvent m off).cgu = s.cgu := (rfl)
@[simp] theorem State.gatedEvent_rst (m : Master) (off : Nat) : (s.gatedEvent m off).rst = s.rst := (rfl)
@[simp] theorem State.gatedEvent_fuse (m : Master) (off : Nat) : (s.gatedEvent m off).fuse = s.fuse := (rfl)
@[simp] theorem State.gatedEvent_cfs (m : Master) (off : Nat) : (s.gatedEvent m off).cfs = s.cfs := (rfl)
@[simp] theorem State.gatedEvent_mgt (m : Master) (off : Nat) : (s.gatedEvent m off).mgt = s.mgt := (rfl)
@[simp] theorem State.gatedEvent_mge (m : Master) (off : Nat) : (s.gatedEvent m off).mge = s.mge := (rfl)
@[simp] theorem State.gatedEvent_chans (m : Master) (off : Nat) : (s.gatedEvent m off).chans = s.chans := (rfl)
@[simp] theorem State.gatedEvent_bufs (m : Master) (off : Nat) : (s.gatedEvent m off).bufs = s.bufs := (rfl)
@[simp] theorem State.gatedEvent_poolEmptyAt (m : Master) (off : Nat) : (s.gatedEvent m off).poolEmptyAt = s.poolEmptyAt := (rfl)
@[simp] theorem State.gatedEvent_out (m : Master) (off : Nat) : (s.gatedEvent m off).out = s.out := (rfl)

@[simp] theorem State.emit_pending (e : OutEv) : (s.emit e).pending = s.pending := (rfl)
@[simp] theorem State.emit_regs (e : OutEv) : (s.emit e).regs = s.regs := (rfl)
@[simp] theorem State.emit_latches (e : OutEv) : (s.emit e).latches = s.latches := (rfl)
@[simp] theorem State.emit_heldLow (e : OutEv) : (s.emit e).heldLow = s.heldLow := (rfl)
@[simp] theorem State.emit_now (e : OutEv) : (s.emit e).now = s.now := (rfl)
@[simp] theorem State.emit_free (e : OutEv) : (s.emit e).free = s.free := (rfl)
@[simp] theorem State.emit_seqs (e : OutEv) : (s.emit e).seqs = s.seqs := (rfl)
@[simp] theorem State.emit_islands (e : OutEv) : (s.emit e).islands = s.islands := (rfl)
@[simp] theorem State.emit_tku (e : OutEv) : (s.emit e).tku = s.tku := (rfl)
@[simp] theorem State.emit_flt (e : OutEv) : (s.emit e).flt = s.flt := (rfl)
@[simp] theorem State.emit_evr (e : OutEv) : (s.emit e).evr = s.evr := (rfl)
@[simp] theorem State.emit_mem (e : OutEv) : (s.emit e).mem = s.mem := (rfl)
@[simp] theorem State.emit_hbm (e : OutEv) : (s.emit e).hbm = s.hbm := (rfl)
@[simp] theorem State.emit_flash (e : OutEv) : (s.emit e).flash = s.flash := (rfl)
@[simp] theorem State.emit_live (e : OutEv) : (s.emit e).live = s.live := (rfl)
@[simp] theorem State.emit_fns (e : OutEv) : (s.emit e).fns = s.fns := (rfl)
@[simp] theorem State.emit_hps (e : OutEv) : (s.emit e).hps = s.hps := (rfl)
@[simp] theorem State.emit_queues (e : OutEv) : (s.emit e).queues = s.queues := (rfl)
@[simp] theorem State.emit_tenants (e : OutEv) : (s.emit e).tenants = s.tenants := (rfl)
@[simp] theorem State.emit_macs (e : OutEv) : (s.emit e).macs = s.macs := (rfl)
@[simp] theorem State.emit_pipes (e : OutEv) : (s.emit e).pipes = s.pipes := (rfl)
@[simp] theorem State.emit_tmg (e : OutEv) : (s.emit e).tmg = s.tmg := (rfl)
@[simp] theorem State.emit_tbl (e : OutEv) : (s.emit e).tbl = s.tbl := (rfl)
@[simp] theorem State.emit_cls (e : OutEv) : (s.emit e).cls = s.cls := (rfl)
@[simp] theorem State.emit_sec (e : OutEv) : (s.emit e).sec = s.sec := (rfl)
@[simp] theorem State.emit_eng (e : OutEv) : (s.emit e).eng = s.eng := (rfl)
@[simp] theorem State.emit_mov (e : OutEv) : (s.emit e).mov = s.mov := (rfl)
@[simp] theorem State.emit_stk (e : OutEv) : (s.emit e).stk = s.stk := (rfl)
@[simp] theorem State.emit_cgu (e : OutEv) : (s.emit e).cgu = s.cgu := (rfl)
@[simp] theorem State.emit_rst (e : OutEv) : (s.emit e).rst = s.rst := (rfl)
@[simp] theorem State.emit_fuse (e : OutEv) : (s.emit e).fuse = s.fuse := (rfl)
@[simp] theorem State.emit_cfs (e : OutEv) : (s.emit e).cfs = s.cfs := (rfl)
@[simp] theorem State.emit_mgt (e : OutEv) : (s.emit e).mgt = s.mgt := (rfl)
@[simp] theorem State.emit_mge (e : OutEv) : (s.emit e).mge = s.mge := (rfl)
@[simp] theorem State.emit_chans (e : OutEv) : (s.emit e).chans = s.chans := (rfl)
@[simp] theorem State.emit_bufs (e : OutEv) : (s.emit e).bufs = s.bufs := (rfl)
@[simp] theorem State.emit_poolEmptyAt (e : OutEv) : (s.emit e).poolEmptyAt = s.poolEmptyAt := (rfl)

@[simp] theorem State.setIsland_pending (i : Nat) (v : IslandSt) : (s.setIsland i v).pending = s.pending := (rfl)
@[simp] theorem State.setIsland_regs (i : Nat) (v : IslandSt) : (s.setIsland i v).regs = s.regs := (rfl)
@[simp] theorem State.setIsland_latches (i : Nat) (v : IslandSt) : (s.setIsland i v).latches = s.latches := (rfl)
@[simp] theorem State.setIsland_heldLow (i : Nat) (v : IslandSt) : (s.setIsland i v).heldLow = s.heldLow := (rfl)
@[simp] theorem State.setIsland_now (i : Nat) (v : IslandSt) : (s.setIsland i v).now = s.now := (rfl)
@[simp] theorem State.setIsland_free (i : Nat) (v : IslandSt) : (s.setIsland i v).free = s.free := (rfl)
@[simp] theorem State.setIsland_seqs (i : Nat) (v : IslandSt) : (s.setIsland i v).seqs = s.seqs := (rfl)
@[simp] theorem State.setIsland_tku (i : Nat) (v : IslandSt) : (s.setIsland i v).tku = s.tku := (rfl)
@[simp] theorem State.setIsland_flt (i : Nat) (v : IslandSt) : (s.setIsland i v).flt = s.flt := (rfl)
@[simp] theorem State.setIsland_evr (i : Nat) (v : IslandSt) : (s.setIsland i v).evr = s.evr := (rfl)
@[simp] theorem State.setIsland_mem (i : Nat) (v : IslandSt) : (s.setIsland i v).mem = s.mem := (rfl)
@[simp] theorem State.setIsland_hbm (i : Nat) (v : IslandSt) : (s.setIsland i v).hbm = s.hbm := (rfl)
@[simp] theorem State.setIsland_flash (i : Nat) (v : IslandSt) : (s.setIsland i v).flash = s.flash := (rfl)
@[simp] theorem State.setIsland_live (i : Nat) (v : IslandSt) : (s.setIsland i v).live = s.live := (rfl)
@[simp] theorem State.setIsland_fns (i : Nat) (v : IslandSt) : (s.setIsland i v).fns = s.fns := (rfl)
@[simp] theorem State.setIsland_hps (i : Nat) (v : IslandSt) : (s.setIsland i v).hps = s.hps := (rfl)
@[simp] theorem State.setIsland_queues (i : Nat) (v : IslandSt) : (s.setIsland i v).queues = s.queues := (rfl)
@[simp] theorem State.setIsland_tenants (i : Nat) (v : IslandSt) : (s.setIsland i v).tenants = s.tenants := (rfl)
@[simp] theorem State.setIsland_macs (i : Nat) (v : IslandSt) : (s.setIsland i v).macs = s.macs := (rfl)
@[simp] theorem State.setIsland_pipes (i : Nat) (v : IslandSt) : (s.setIsland i v).pipes = s.pipes := (rfl)
@[simp] theorem State.setIsland_tmg (i : Nat) (v : IslandSt) : (s.setIsland i v).tmg = s.tmg := (rfl)
@[simp] theorem State.setIsland_tbl (i : Nat) (v : IslandSt) : (s.setIsland i v).tbl = s.tbl := (rfl)
@[simp] theorem State.setIsland_cls (i : Nat) (v : IslandSt) : (s.setIsland i v).cls = s.cls := (rfl)
@[simp] theorem State.setIsland_sec (i : Nat) (v : IslandSt) : (s.setIsland i v).sec = s.sec := (rfl)
@[simp] theorem State.setIsland_eng (i : Nat) (v : IslandSt) : (s.setIsland i v).eng = s.eng := (rfl)
@[simp] theorem State.setIsland_mov (i : Nat) (v : IslandSt) : (s.setIsland i v).mov = s.mov := (rfl)
@[simp] theorem State.setIsland_stk (i : Nat) (v : IslandSt) : (s.setIsland i v).stk = s.stk := (rfl)
@[simp] theorem State.setIsland_cgu (i : Nat) (v : IslandSt) : (s.setIsland i v).cgu = s.cgu := (rfl)
@[simp] theorem State.setIsland_rst (i : Nat) (v : IslandSt) : (s.setIsland i v).rst = s.rst := (rfl)
@[simp] theorem State.setIsland_fuse (i : Nat) (v : IslandSt) : (s.setIsland i v).fuse = s.fuse := (rfl)
@[simp] theorem State.setIsland_cfs (i : Nat) (v : IslandSt) : (s.setIsland i v).cfs = s.cfs := (rfl)
@[simp] theorem State.setIsland_mgt (i : Nat) (v : IslandSt) : (s.setIsland i v).mgt = s.mgt := (rfl)
@[simp] theorem State.setIsland_mge (i : Nat) (v : IslandSt) : (s.setIsland i v).mge = s.mge := (rfl)
@[simp] theorem State.setIsland_chans (i : Nat) (v : IslandSt) : (s.setIsland i v).chans = s.chans := (rfl)
@[simp] theorem State.setIsland_bufs (i : Nat) (v : IslandSt) : (s.setIsland i v).bufs = s.bufs := (rfl)
@[simp] theorem State.setIsland_poolEmptyAt (i : Nat) (v : IslandSt) : (s.setIsland i v).poolEmptyAt = s.poolEmptyAt := (rfl)
@[simp] theorem State.setIsland_out (i : Nat) (v : IslandSt) : (s.setIsland i v).out = s.out := (rfl)

@[simp] theorem State.fresh_pending : (s.fresh.2).pending = s.pending := (rfl)
@[simp] theorem State.fresh_regs : (s.fresh.2).regs = s.regs := (rfl)
@[simp] theorem State.fresh_latches : (s.fresh.2).latches = s.latches := (rfl)
@[simp] theorem State.fresh_heldLow : (s.fresh.2).heldLow = s.heldLow := (rfl)
@[simp] theorem State.fresh_now : (s.fresh.2).now = s.now := (rfl)
@[simp] theorem State.fresh_seqs : (s.fresh.2).seqs = s.seqs := (rfl)
@[simp] theorem State.fresh_islands : (s.fresh.2).islands = s.islands := (rfl)
@[simp] theorem State.fresh_tku : (s.fresh.2).tku = s.tku := (rfl)
@[simp] theorem State.fresh_flt : (s.fresh.2).flt = s.flt := (rfl)
@[simp] theorem State.fresh_evr : (s.fresh.2).evr = s.evr := (rfl)
@[simp] theorem State.fresh_mem : (s.fresh.2).mem = s.mem := (rfl)
@[simp] theorem State.fresh_hbm : (s.fresh.2).hbm = s.hbm := (rfl)
@[simp] theorem State.fresh_flash : (s.fresh.2).flash = s.flash := (rfl)
@[simp] theorem State.fresh_live : (s.fresh.2).live = s.live := (rfl)
@[simp] theorem State.fresh_fns : (s.fresh.2).fns = s.fns := (rfl)
@[simp] theorem State.fresh_hps : (s.fresh.2).hps = s.hps := (rfl)
@[simp] theorem State.fresh_queues : (s.fresh.2).queues = s.queues := (rfl)
@[simp] theorem State.fresh_tenants : (s.fresh.2).tenants = s.tenants := (rfl)
@[simp] theorem State.fresh_macs : (s.fresh.2).macs = s.macs := (rfl)
@[simp] theorem State.fresh_pipes : (s.fresh.2).pipes = s.pipes := (rfl)
@[simp] theorem State.fresh_tmg : (s.fresh.2).tmg = s.tmg := (rfl)
@[simp] theorem State.fresh_tbl : (s.fresh.2).tbl = s.tbl := (rfl)
@[simp] theorem State.fresh_cls : (s.fresh.2).cls = s.cls := (rfl)
@[simp] theorem State.fresh_sec : (s.fresh.2).sec = s.sec := (rfl)
@[simp] theorem State.fresh_eng : (s.fresh.2).eng = s.eng := (rfl)
@[simp] theorem State.fresh_mov : (s.fresh.2).mov = s.mov := (rfl)
@[simp] theorem State.fresh_stk : (s.fresh.2).stk = s.stk := (rfl)
@[simp] theorem State.fresh_cgu : (s.fresh.2).cgu = s.cgu := (rfl)
@[simp] theorem State.fresh_rst : (s.fresh.2).rst = s.rst := (rfl)
@[simp] theorem State.fresh_fuse : (s.fresh.2).fuse = s.fuse := (rfl)
@[simp] theorem State.fresh_cfs : (s.fresh.2).cfs = s.cfs := (rfl)
@[simp] theorem State.fresh_mgt : (s.fresh.2).mgt = s.mgt := (rfl)
@[simp] theorem State.fresh_mge : (s.fresh.2).mge = s.mge := (rfl)
@[simp] theorem State.fresh_chans : (s.fresh.2).chans = s.chans := (rfl)
@[simp] theorem State.fresh_bufs : (s.fresh.2).bufs = s.bufs := (rfl)
@[simp] theorem State.fresh_poolEmptyAt : (s.fresh.2).poolEmptyAt = s.poolEmptyAt := (rfl)
@[simp] theorem State.fresh_out : (s.fresh.2).out = s.out := (rfl)

@[simp] theorem State.stamp_pending (i m : Nat) : ((s.stamp i m).2).pending = s.pending := (rfl)
@[simp] theorem State.stamp_regs (i m : Nat) : ((s.stamp i m).2).regs = s.regs := (rfl)
@[simp] theorem State.stamp_latches (i m : Nat) : ((s.stamp i m).2).latches = s.latches := (rfl)
@[simp] theorem State.stamp_heldLow (i m : Nat) : ((s.stamp i m).2).heldLow = s.heldLow := (rfl)
@[simp] theorem State.stamp_now (i m : Nat) : ((s.stamp i m).2).now = s.now := (rfl)
@[simp] theorem State.stamp_free (i m : Nat) : ((s.stamp i m).2).free = s.free := (rfl)
@[simp] theorem State.stamp_islands (i m : Nat) : ((s.stamp i m).2).islands = s.islands := (rfl)
@[simp] theorem State.stamp_tku (i m : Nat) : ((s.stamp i m).2).tku = s.tku := (rfl)
@[simp] theorem State.stamp_flt (i m : Nat) : ((s.stamp i m).2).flt = s.flt := (rfl)
@[simp] theorem State.stamp_evr (i m : Nat) : ((s.stamp i m).2).evr = s.evr := (rfl)
@[simp] theorem State.stamp_mem (i m : Nat) : ((s.stamp i m).2).mem = s.mem := (rfl)
@[simp] theorem State.stamp_hbm (i m : Nat) : ((s.stamp i m).2).hbm = s.hbm := (rfl)
@[simp] theorem State.stamp_flash (i m : Nat) : ((s.stamp i m).2).flash = s.flash := (rfl)
@[simp] theorem State.stamp_live (i m : Nat) : ((s.stamp i m).2).live = s.live := (rfl)
@[simp] theorem State.stamp_fns (i m : Nat) : ((s.stamp i m).2).fns = s.fns := (rfl)
@[simp] theorem State.stamp_hps (i m : Nat) : ((s.stamp i m).2).hps = s.hps := (rfl)
@[simp] theorem State.stamp_queues (i m : Nat) : ((s.stamp i m).2).queues = s.queues := (rfl)
@[simp] theorem State.stamp_tenants (i m : Nat) : ((s.stamp i m).2).tenants = s.tenants := (rfl)
@[simp] theorem State.stamp_macs (i m : Nat) : ((s.stamp i m).2).macs = s.macs := (rfl)
@[simp] theorem State.stamp_pipes (i m : Nat) : ((s.stamp i m).2).pipes = s.pipes := (rfl)
@[simp] theorem State.stamp_tmg (i m : Nat) : ((s.stamp i m).2).tmg = s.tmg := (rfl)
@[simp] theorem State.stamp_tbl (i m : Nat) : ((s.stamp i m).2).tbl = s.tbl := (rfl)
@[simp] theorem State.stamp_cls (i m : Nat) : ((s.stamp i m).2).cls = s.cls := (rfl)
@[simp] theorem State.stamp_sec (i m : Nat) : ((s.stamp i m).2).sec = s.sec := (rfl)
@[simp] theorem State.stamp_eng (i m : Nat) : ((s.stamp i m).2).eng = s.eng := (rfl)
@[simp] theorem State.stamp_mov (i m : Nat) : ((s.stamp i m).2).mov = s.mov := (rfl)
@[simp] theorem State.stamp_stk (i m : Nat) : ((s.stamp i m).2).stk = s.stk := (rfl)
@[simp] theorem State.stamp_cgu (i m : Nat) : ((s.stamp i m).2).cgu = s.cgu := (rfl)
@[simp] theorem State.stamp_rst (i m : Nat) : ((s.stamp i m).2).rst = s.rst := (rfl)
@[simp] theorem State.stamp_fuse (i m : Nat) : ((s.stamp i m).2).fuse = s.fuse := (rfl)
@[simp] theorem State.stamp_cfs (i m : Nat) : ((s.stamp i m).2).cfs = s.cfs := (rfl)
@[simp] theorem State.stamp_mgt (i m : Nat) : ((s.stamp i m).2).mgt = s.mgt := (rfl)
@[simp] theorem State.stamp_mge (i m : Nat) : ((s.stamp i m).2).mge = s.mge := (rfl)
@[simp] theorem State.stamp_chans (i m : Nat) : ((s.stamp i m).2).chans = s.chans := (rfl)
@[simp] theorem State.stamp_bufs (i m : Nat) : ((s.stamp i m).2).bufs = s.bufs := (rfl)
@[simp] theorem State.stamp_poolEmptyAt (i m : Nat) : ((s.stamp i m).2).poolEmptyAt = s.poolEmptyAt := (rfl)
@[simp] theorem State.stamp_out (i m : Nat) : ((s.stamp i m).2).out = s.out := (rfl)

@[simp] theorem State.hbmWrite_pending (a : Nat) (l : List Byte) : (s.hbmWrite a l).pending = s.pending := (rfl)
@[simp] theorem State.hbmWrite_regs (a : Nat) (l : List Byte) : (s.hbmWrite a l).regs = s.regs := (rfl)
@[simp] theorem State.hbmWrite_latches (a : Nat) (l : List Byte) : (s.hbmWrite a l).latches = s.latches := (rfl)
@[simp] theorem State.hbmWrite_heldLow (a : Nat) (l : List Byte) : (s.hbmWrite a l).heldLow = s.heldLow := (rfl)
@[simp] theorem State.hbmWrite_now (a : Nat) (l : List Byte) : (s.hbmWrite a l).now = s.now := (rfl)
@[simp] theorem State.hbmWrite_free (a : Nat) (l : List Byte) : (s.hbmWrite a l).free = s.free := (rfl)
@[simp] theorem State.hbmWrite_seqs (a : Nat) (l : List Byte) : (s.hbmWrite a l).seqs = s.seqs := (rfl)
@[simp] theorem State.hbmWrite_islands (a : Nat) (l : List Byte) : (s.hbmWrite a l).islands = s.islands := (rfl)
@[simp] theorem State.hbmWrite_tku (a : Nat) (l : List Byte) : (s.hbmWrite a l).tku = s.tku := (rfl)
@[simp] theorem State.hbmWrite_flt (a : Nat) (l : List Byte) : (s.hbmWrite a l).flt = s.flt := (rfl)
@[simp] theorem State.hbmWrite_evr (a : Nat) (l : List Byte) : (s.hbmWrite a l).evr = s.evr := (rfl)
@[simp] theorem State.hbmWrite_mem (a : Nat) (l : List Byte) : (s.hbmWrite a l).mem = s.mem := (rfl)
@[simp] theorem State.hbmWrite_flash (a : Nat) (l : List Byte) : (s.hbmWrite a l).flash = s.flash := (rfl)
@[simp] theorem State.hbmWrite_live (a : Nat) (l : List Byte) : (s.hbmWrite a l).live = s.live := (rfl)
@[simp] theorem State.hbmWrite_fns (a : Nat) (l : List Byte) : (s.hbmWrite a l).fns = s.fns := (rfl)
@[simp] theorem State.hbmWrite_hps (a : Nat) (l : List Byte) : (s.hbmWrite a l).hps = s.hps := (rfl)
@[simp] theorem State.hbmWrite_queues (a : Nat) (l : List Byte) : (s.hbmWrite a l).queues = s.queues := (rfl)
@[simp] theorem State.hbmWrite_tenants (a : Nat) (l : List Byte) : (s.hbmWrite a l).tenants = s.tenants := (rfl)
@[simp] theorem State.hbmWrite_macs (a : Nat) (l : List Byte) : (s.hbmWrite a l).macs = s.macs := (rfl)
@[simp] theorem State.hbmWrite_pipes (a : Nat) (l : List Byte) : (s.hbmWrite a l).pipes = s.pipes := (rfl)
@[simp] theorem State.hbmWrite_tmg (a : Nat) (l : List Byte) : (s.hbmWrite a l).tmg = s.tmg := (rfl)
@[simp] theorem State.hbmWrite_tbl (a : Nat) (l : List Byte) : (s.hbmWrite a l).tbl = s.tbl := (rfl)
@[simp] theorem State.hbmWrite_cls (a : Nat) (l : List Byte) : (s.hbmWrite a l).cls = s.cls := (rfl)
@[simp] theorem State.hbmWrite_sec (a : Nat) (l : List Byte) : (s.hbmWrite a l).sec = s.sec := (rfl)
@[simp] theorem State.hbmWrite_eng (a : Nat) (l : List Byte) : (s.hbmWrite a l).eng = s.eng := (rfl)
@[simp] theorem State.hbmWrite_mov (a : Nat) (l : List Byte) : (s.hbmWrite a l).mov = s.mov := (rfl)
@[simp] theorem State.hbmWrite_stk (a : Nat) (l : List Byte) : (s.hbmWrite a l).stk = s.stk := (rfl)
@[simp] theorem State.hbmWrite_cgu (a : Nat) (l : List Byte) : (s.hbmWrite a l).cgu = s.cgu := (rfl)
@[simp] theorem State.hbmWrite_rst (a : Nat) (l : List Byte) : (s.hbmWrite a l).rst = s.rst := (rfl)
@[simp] theorem State.hbmWrite_fuse (a : Nat) (l : List Byte) : (s.hbmWrite a l).fuse = s.fuse := (rfl)
@[simp] theorem State.hbmWrite_cfs (a : Nat) (l : List Byte) : (s.hbmWrite a l).cfs = s.cfs := (rfl)
@[simp] theorem State.hbmWrite_mgt (a : Nat) (l : List Byte) : (s.hbmWrite a l).mgt = s.mgt := (rfl)
@[simp] theorem State.hbmWrite_mge (a : Nat) (l : List Byte) : (s.hbmWrite a l).mge = s.mge := (rfl)
@[simp] theorem State.hbmWrite_chans (a : Nat) (l : List Byte) : (s.hbmWrite a l).chans = s.chans := (rfl)
@[simp] theorem State.hbmWrite_bufs (a : Nat) (l : List Byte) : (s.hbmWrite a l).bufs = s.bufs := (rfl)
@[simp] theorem State.hbmWrite_poolEmptyAt (a : Nat) (l : List Byte) : (s.hbmWrite a l).poolEmptyAt = s.poolEmptyAt := (rfl)
@[simp] theorem State.hbmWrite_out (a : Nat) (l : List Byte) : (s.hbmWrite a l).out = s.out := (rfl)

@[simp] theorem State.flashWrite_pending (a : Nat) (l : List Byte) : (s.flashWrite a l).pending = s.pending := (rfl)
@[simp] theorem State.flashWrite_regs (a : Nat) (l : List Byte) : (s.flashWrite a l).regs = s.regs := (rfl)
@[simp] theorem State.flashWrite_latches (a : Nat) (l : List Byte) : (s.flashWrite a l).latches = s.latches := (rfl)
@[simp] theorem State.flashWrite_heldLow (a : Nat) (l : List Byte) : (s.flashWrite a l).heldLow = s.heldLow := (rfl)
@[simp] theorem State.flashWrite_now (a : Nat) (l : List Byte) : (s.flashWrite a l).now = s.now := (rfl)
@[simp] theorem State.flashWrite_free (a : Nat) (l : List Byte) : (s.flashWrite a l).free = s.free := (rfl)
@[simp] theorem State.flashWrite_seqs (a : Nat) (l : List Byte) : (s.flashWrite a l).seqs = s.seqs := (rfl)
@[simp] theorem State.flashWrite_islands (a : Nat) (l : List Byte) : (s.flashWrite a l).islands = s.islands := (rfl)
@[simp] theorem State.flashWrite_tku (a : Nat) (l : List Byte) : (s.flashWrite a l).tku = s.tku := (rfl)
@[simp] theorem State.flashWrite_flt (a : Nat) (l : List Byte) : (s.flashWrite a l).flt = s.flt := (rfl)
@[simp] theorem State.flashWrite_evr (a : Nat) (l : List Byte) : (s.flashWrite a l).evr = s.evr := (rfl)
@[simp] theorem State.flashWrite_mem (a : Nat) (l : List Byte) : (s.flashWrite a l).mem = s.mem := (rfl)
@[simp] theorem State.flashWrite_hbm (a : Nat) (l : List Byte) : (s.flashWrite a l).hbm = s.hbm := (rfl)
@[simp] theorem State.flashWrite_live (a : Nat) (l : List Byte) : (s.flashWrite a l).live = s.live := (rfl)
@[simp] theorem State.flashWrite_fns (a : Nat) (l : List Byte) : (s.flashWrite a l).fns = s.fns := (rfl)
@[simp] theorem State.flashWrite_hps (a : Nat) (l : List Byte) : (s.flashWrite a l).hps = s.hps := (rfl)
@[simp] theorem State.flashWrite_queues (a : Nat) (l : List Byte) : (s.flashWrite a l).queues = s.queues := (rfl)
@[simp] theorem State.flashWrite_tenants (a : Nat) (l : List Byte) : (s.flashWrite a l).tenants = s.tenants := (rfl)
@[simp] theorem State.flashWrite_macs (a : Nat) (l : List Byte) : (s.flashWrite a l).macs = s.macs := (rfl)
@[simp] theorem State.flashWrite_pipes (a : Nat) (l : List Byte) : (s.flashWrite a l).pipes = s.pipes := (rfl)
@[simp] theorem State.flashWrite_tmg (a : Nat) (l : List Byte) : (s.flashWrite a l).tmg = s.tmg := (rfl)
@[simp] theorem State.flashWrite_tbl (a : Nat) (l : List Byte) : (s.flashWrite a l).tbl = s.tbl := (rfl)
@[simp] theorem State.flashWrite_cls (a : Nat) (l : List Byte) : (s.flashWrite a l).cls = s.cls := (rfl)
@[simp] theorem State.flashWrite_sec (a : Nat) (l : List Byte) : (s.flashWrite a l).sec = s.sec := (rfl)
@[simp] theorem State.flashWrite_eng (a : Nat) (l : List Byte) : (s.flashWrite a l).eng = s.eng := (rfl)
@[simp] theorem State.flashWrite_mov (a : Nat) (l : List Byte) : (s.flashWrite a l).mov = s.mov := (rfl)
@[simp] theorem State.flashWrite_stk (a : Nat) (l : List Byte) : (s.flashWrite a l).stk = s.stk := (rfl)
@[simp] theorem State.flashWrite_cgu (a : Nat) (l : List Byte) : (s.flashWrite a l).cgu = s.cgu := (rfl)
@[simp] theorem State.flashWrite_rst (a : Nat) (l : List Byte) : (s.flashWrite a l).rst = s.rst := (rfl)
@[simp] theorem State.flashWrite_fuse (a : Nat) (l : List Byte) : (s.flashWrite a l).fuse = s.fuse := (rfl)
@[simp] theorem State.flashWrite_cfs (a : Nat) (l : List Byte) : (s.flashWrite a l).cfs = s.cfs := (rfl)
@[simp] theorem State.flashWrite_mgt (a : Nat) (l : List Byte) : (s.flashWrite a l).mgt = s.mgt := (rfl)
@[simp] theorem State.flashWrite_mge (a : Nat) (l : List Byte) : (s.flashWrite a l).mge = s.mge := (rfl)
@[simp] theorem State.flashWrite_chans (a : Nat) (l : List Byte) : (s.flashWrite a l).chans = s.chans := (rfl)
@[simp] theorem State.flashWrite_bufs (a : Nat) (l : List Byte) : (s.flashWrite a l).bufs = s.bufs := (rfl)
@[simp] theorem State.flashWrite_poolEmptyAt (a : Nat) (l : List Byte) : (s.flashWrite a l).poolEmptyAt = s.poolEmptyAt := (rfl)
@[simp] theorem State.flashWrite_out (a : Nat) (l : List Byte) : (s.flashWrite a l).out = s.out := (rfl)

@[simp] theorem State.flashErase_pending (a n : Nat) : (s.flashErase a n).pending = s.pending := (rfl)
@[simp] theorem State.flashErase_regs (a n : Nat) : (s.flashErase a n).regs = s.regs := (rfl)
@[simp] theorem State.flashErase_latches (a n : Nat) : (s.flashErase a n).latches = s.latches := (rfl)
@[simp] theorem State.flashErase_heldLow (a n : Nat) : (s.flashErase a n).heldLow = s.heldLow := (rfl)
@[simp] theorem State.flashErase_now (a n : Nat) : (s.flashErase a n).now = s.now := (rfl)
@[simp] theorem State.flashErase_free (a n : Nat) : (s.flashErase a n).free = s.free := (rfl)
@[simp] theorem State.flashErase_seqs (a n : Nat) : (s.flashErase a n).seqs = s.seqs := (rfl)
@[simp] theorem State.flashErase_islands (a n : Nat) : (s.flashErase a n).islands = s.islands := (rfl)
@[simp] theorem State.flashErase_tku (a n : Nat) : (s.flashErase a n).tku = s.tku := (rfl)
@[simp] theorem State.flashErase_flt (a n : Nat) : (s.flashErase a n).flt = s.flt := (rfl)
@[simp] theorem State.flashErase_evr (a n : Nat) : (s.flashErase a n).evr = s.evr := (rfl)
@[simp] theorem State.flashErase_mem (a n : Nat) : (s.flashErase a n).mem = s.mem := (rfl)
@[simp] theorem State.flashErase_hbm (a n : Nat) : (s.flashErase a n).hbm = s.hbm := (rfl)
@[simp] theorem State.flashErase_live (a n : Nat) : (s.flashErase a n).live = s.live := (rfl)
@[simp] theorem State.flashErase_fns (a n : Nat) : (s.flashErase a n).fns = s.fns := (rfl)
@[simp] theorem State.flashErase_hps (a n : Nat) : (s.flashErase a n).hps = s.hps := (rfl)
@[simp] theorem State.flashErase_queues (a n : Nat) : (s.flashErase a n).queues = s.queues := (rfl)
@[simp] theorem State.flashErase_tenants (a n : Nat) : (s.flashErase a n).tenants = s.tenants := (rfl)
@[simp] theorem State.flashErase_macs (a n : Nat) : (s.flashErase a n).macs = s.macs := (rfl)
@[simp] theorem State.flashErase_pipes (a n : Nat) : (s.flashErase a n).pipes = s.pipes := (rfl)
@[simp] theorem State.flashErase_tmg (a n : Nat) : (s.flashErase a n).tmg = s.tmg := (rfl)
@[simp] theorem State.flashErase_tbl (a n : Nat) : (s.flashErase a n).tbl = s.tbl := (rfl)
@[simp] theorem State.flashErase_cls (a n : Nat) : (s.flashErase a n).cls = s.cls := (rfl)
@[simp] theorem State.flashErase_sec (a n : Nat) : (s.flashErase a n).sec = s.sec := (rfl)
@[simp] theorem State.flashErase_eng (a n : Nat) : (s.flashErase a n).eng = s.eng := (rfl)
@[simp] theorem State.flashErase_mov (a n : Nat) : (s.flashErase a n).mov = s.mov := (rfl)
@[simp] theorem State.flashErase_stk (a n : Nat) : (s.flashErase a n).stk = s.stk := (rfl)
@[simp] theorem State.flashErase_cgu (a n : Nat) : (s.flashErase a n).cgu = s.cgu := (rfl)
@[simp] theorem State.flashErase_rst (a n : Nat) : (s.flashErase a n).rst = s.rst := (rfl)
@[simp] theorem State.flashErase_fuse (a n : Nat) : (s.flashErase a n).fuse = s.fuse := (rfl)
@[simp] theorem State.flashErase_cfs (a n : Nat) : (s.flashErase a n).cfs = s.cfs := (rfl)
@[simp] theorem State.flashErase_mgt (a n : Nat) : (s.flashErase a n).mgt = s.mgt := (rfl)
@[simp] theorem State.flashErase_mge (a n : Nat) : (s.flashErase a n).mge = s.mge := (rfl)
@[simp] theorem State.flashErase_chans (a n : Nat) : (s.flashErase a n).chans = s.chans := (rfl)
@[simp] theorem State.flashErase_bufs (a n : Nat) : (s.flashErase a n).bufs = s.bufs := (rfl)
@[simp] theorem State.flashErase_poolEmptyAt (a n : Nat) : (s.flashErase a n).poolEmptyAt = s.poolEmptyAt := (rfl)
@[simp] theorem State.flashErase_out (a n : Nat) : (s.flashErase a n).out = s.out := (rfl)

@[simp] theorem State.setFn_pending (p g : Nat) (h : FnCfg → FnCfg) : (s.setFn p g h).pending = s.pending := (rfl)
@[simp] theorem State.setFn_regs (p g : Nat) (h : FnCfg → FnCfg) : (s.setFn p g h).regs = s.regs := (rfl)
@[simp] theorem State.setFn_latches (p g : Nat) (h : FnCfg → FnCfg) : (s.setFn p g h).latches = s.latches := (rfl)
@[simp] theorem State.setFn_heldLow (p g : Nat) (h : FnCfg → FnCfg) : (s.setFn p g h).heldLow = s.heldLow := (rfl)
@[simp] theorem State.setFn_now (p g : Nat) (h : FnCfg → FnCfg) : (s.setFn p g h).now = s.now := (rfl)
@[simp] theorem State.setFn_free (p g : Nat) (h : FnCfg → FnCfg) : (s.setFn p g h).free = s.free := (rfl)
@[simp] theorem State.setFn_seqs (p g : Nat) (h : FnCfg → FnCfg) : (s.setFn p g h).seqs = s.seqs := (rfl)
@[simp] theorem State.setFn_islands (p g : Nat) (h : FnCfg → FnCfg) : (s.setFn p g h).islands = s.islands := (rfl)
@[simp] theorem State.setFn_tku (p g : Nat) (h : FnCfg → FnCfg) : (s.setFn p g h).tku = s.tku := (rfl)
@[simp] theorem State.setFn_flt (p g : Nat) (h : FnCfg → FnCfg) : (s.setFn p g h).flt = s.flt := (rfl)
@[simp] theorem State.setFn_evr (p g : Nat) (h : FnCfg → FnCfg) : (s.setFn p g h).evr = s.evr := (rfl)
@[simp] theorem State.setFn_mem (p g : Nat) (h : FnCfg → FnCfg) : (s.setFn p g h).mem = s.mem := (rfl)
@[simp] theorem State.setFn_hbm (p g : Nat) (h : FnCfg → FnCfg) : (s.setFn p g h).hbm = s.hbm := (rfl)
@[simp] theorem State.setFn_flash (p g : Nat) (h : FnCfg → FnCfg) : (s.setFn p g h).flash = s.flash := (rfl)
@[simp] theorem State.setFn_live (p g : Nat) (h : FnCfg → FnCfg) : (s.setFn p g h).live = s.live := (rfl)
@[simp] theorem State.setFn_hps (p g : Nat) (h : FnCfg → FnCfg) : (s.setFn p g h).hps = s.hps := (rfl)
@[simp] theorem State.setFn_queues (p g : Nat) (h : FnCfg → FnCfg) : (s.setFn p g h).queues = s.queues := (rfl)
@[simp] theorem State.setFn_tenants (p g : Nat) (h : FnCfg → FnCfg) : (s.setFn p g h).tenants = s.tenants := (rfl)
@[simp] theorem State.setFn_macs (p g : Nat) (h : FnCfg → FnCfg) : (s.setFn p g h).macs = s.macs := (rfl)
@[simp] theorem State.setFn_pipes (p g : Nat) (h : FnCfg → FnCfg) : (s.setFn p g h).pipes = s.pipes := (rfl)
@[simp] theorem State.setFn_tmg (p g : Nat) (h : FnCfg → FnCfg) : (s.setFn p g h).tmg = s.tmg := (rfl)
@[simp] theorem State.setFn_tbl (p g : Nat) (h : FnCfg → FnCfg) : (s.setFn p g h).tbl = s.tbl := (rfl)
@[simp] theorem State.setFn_cls (p g : Nat) (h : FnCfg → FnCfg) : (s.setFn p g h).cls = s.cls := (rfl)
@[simp] theorem State.setFn_sec (p g : Nat) (h : FnCfg → FnCfg) : (s.setFn p g h).sec = s.sec := (rfl)
@[simp] theorem State.setFn_eng (p g : Nat) (h : FnCfg → FnCfg) : (s.setFn p g h).eng = s.eng := (rfl)
@[simp] theorem State.setFn_mov (p g : Nat) (h : FnCfg → FnCfg) : (s.setFn p g h).mov = s.mov := (rfl)
@[simp] theorem State.setFn_stk (p g : Nat) (h : FnCfg → FnCfg) : (s.setFn p g h).stk = s.stk := (rfl)
@[simp] theorem State.setFn_cgu (p g : Nat) (h : FnCfg → FnCfg) : (s.setFn p g h).cgu = s.cgu := (rfl)
@[simp] theorem State.setFn_rst (p g : Nat) (h : FnCfg → FnCfg) : (s.setFn p g h).rst = s.rst := (rfl)
@[simp] theorem State.setFn_fuse (p g : Nat) (h : FnCfg → FnCfg) : (s.setFn p g h).fuse = s.fuse := (rfl)
@[simp] theorem State.setFn_cfs (p g : Nat) (h : FnCfg → FnCfg) : (s.setFn p g h).cfs = s.cfs := (rfl)
@[simp] theorem State.setFn_mgt (p g : Nat) (h : FnCfg → FnCfg) : (s.setFn p g h).mgt = s.mgt := (rfl)
@[simp] theorem State.setFn_mge (p g : Nat) (h : FnCfg → FnCfg) : (s.setFn p g h).mge = s.mge := (rfl)
@[simp] theorem State.setFn_chans (p g : Nat) (h : FnCfg → FnCfg) : (s.setFn p g h).chans = s.chans := (rfl)
@[simp] theorem State.setFn_bufs (p g : Nat) (h : FnCfg → FnCfg) : (s.setFn p g h).bufs = s.bufs := (rfl)
@[simp] theorem State.setFn_poolEmptyAt (p g : Nat) (h : FnCfg → FnCfg) : (s.setFn p g h).poolEmptyAt = s.poolEmptyAt := (rfl)
@[simp] theorem State.setFn_out (p g : Nat) (h : FnCfg → FnCfg) : (s.setFn p g h).out = s.out := (rfl)

@[simp] theorem State.modHp_pending (p : Nat) (h : HpSt → HpSt) : (s.modHp p h).pending = s.pending := (rfl)
@[simp] theorem State.modHp_regs (p : Nat) (h : HpSt → HpSt) : (s.modHp p h).regs = s.regs := (rfl)
@[simp] theorem State.modHp_latches (p : Nat) (h : HpSt → HpSt) : (s.modHp p h).latches = s.latches := (rfl)
@[simp] theorem State.modHp_heldLow (p : Nat) (h : HpSt → HpSt) : (s.modHp p h).heldLow = s.heldLow := (rfl)
@[simp] theorem State.modHp_now (p : Nat) (h : HpSt → HpSt) : (s.modHp p h).now = s.now := (rfl)
@[simp] theorem State.modHp_free (p : Nat) (h : HpSt → HpSt) : (s.modHp p h).free = s.free := (rfl)
@[simp] theorem State.modHp_seqs (p : Nat) (h : HpSt → HpSt) : (s.modHp p h).seqs = s.seqs := (rfl)
@[simp] theorem State.modHp_islands (p : Nat) (h : HpSt → HpSt) : (s.modHp p h).islands = s.islands := (rfl)
@[simp] theorem State.modHp_tku (p : Nat) (h : HpSt → HpSt) : (s.modHp p h).tku = s.tku := (rfl)
@[simp] theorem State.modHp_flt (p : Nat) (h : HpSt → HpSt) : (s.modHp p h).flt = s.flt := (rfl)
@[simp] theorem State.modHp_evr (p : Nat) (h : HpSt → HpSt) : (s.modHp p h).evr = s.evr := (rfl)
@[simp] theorem State.modHp_mem (p : Nat) (h : HpSt → HpSt) : (s.modHp p h).mem = s.mem := (rfl)
@[simp] theorem State.modHp_hbm (p : Nat) (h : HpSt → HpSt) : (s.modHp p h).hbm = s.hbm := (rfl)
@[simp] theorem State.modHp_flash (p : Nat) (h : HpSt → HpSt) : (s.modHp p h).flash = s.flash := (rfl)
@[simp] theorem State.modHp_live (p : Nat) (h : HpSt → HpSt) : (s.modHp p h).live = s.live := (rfl)
@[simp] theorem State.modHp_fns (p : Nat) (h : HpSt → HpSt) : (s.modHp p h).fns = s.fns := (rfl)
@[simp] theorem State.modHp_queues (p : Nat) (h : HpSt → HpSt) : (s.modHp p h).queues = s.queues := (rfl)
@[simp] theorem State.modHp_tenants (p : Nat) (h : HpSt → HpSt) : (s.modHp p h).tenants = s.tenants := (rfl)
@[simp] theorem State.modHp_macs (p : Nat) (h : HpSt → HpSt) : (s.modHp p h).macs = s.macs := (rfl)
@[simp] theorem State.modHp_pipes (p : Nat) (h : HpSt → HpSt) : (s.modHp p h).pipes = s.pipes := (rfl)
@[simp] theorem State.modHp_tmg (p : Nat) (h : HpSt → HpSt) : (s.modHp p h).tmg = s.tmg := (rfl)
@[simp] theorem State.modHp_tbl (p : Nat) (h : HpSt → HpSt) : (s.modHp p h).tbl = s.tbl := (rfl)
@[simp] theorem State.modHp_cls (p : Nat) (h : HpSt → HpSt) : (s.modHp p h).cls = s.cls := (rfl)
@[simp] theorem State.modHp_sec (p : Nat) (h : HpSt → HpSt) : (s.modHp p h).sec = s.sec := (rfl)
@[simp] theorem State.modHp_eng (p : Nat) (h : HpSt → HpSt) : (s.modHp p h).eng = s.eng := (rfl)
@[simp] theorem State.modHp_mov (p : Nat) (h : HpSt → HpSt) : (s.modHp p h).mov = s.mov := (rfl)
@[simp] theorem State.modHp_stk (p : Nat) (h : HpSt → HpSt) : (s.modHp p h).stk = s.stk := (rfl)
@[simp] theorem State.modHp_cgu (p : Nat) (h : HpSt → HpSt) : (s.modHp p h).cgu = s.cgu := (rfl)
@[simp] theorem State.modHp_rst (p : Nat) (h : HpSt → HpSt) : (s.modHp p h).rst = s.rst := (rfl)
@[simp] theorem State.modHp_fuse (p : Nat) (h : HpSt → HpSt) : (s.modHp p h).fuse = s.fuse := (rfl)
@[simp] theorem State.modHp_cfs (p : Nat) (h : HpSt → HpSt) : (s.modHp p h).cfs = s.cfs := (rfl)
@[simp] theorem State.modHp_mgt (p : Nat) (h : HpSt → HpSt) : (s.modHp p h).mgt = s.mgt := (rfl)
@[simp] theorem State.modHp_mge (p : Nat) (h : HpSt → HpSt) : (s.modHp p h).mge = s.mge := (rfl)
@[simp] theorem State.modHp_chans (p : Nat) (h : HpSt → HpSt) : (s.modHp p h).chans = s.chans := (rfl)
@[simp] theorem State.modHp_bufs (p : Nat) (h : HpSt → HpSt) : (s.modHp p h).bufs = s.bufs := (rfl)
@[simp] theorem State.modHp_poolEmptyAt (p : Nat) (h : HpSt → HpSt) : (s.modHp p h).poolEmptyAt = s.poolEmptyAt := (rfl)
@[simp] theorem State.modHp_out (p : Nat) (h : HpSt → HpSt) : (s.modHp p h).out = s.out := (rfl)

@[simp] theorem State.setTku_pending (h : TkuSt → TkuSt) : (s.setTku h).pending = s.pending := (rfl)
@[simp] theorem State.setTku_regs (h : TkuSt → TkuSt) : (s.setTku h).regs = s.regs := (rfl)
@[simp] theorem State.setTku_latches (h : TkuSt → TkuSt) : (s.setTku h).latches = s.latches := (rfl)
@[simp] theorem State.setTku_heldLow (h : TkuSt → TkuSt) : (s.setTku h).heldLow = s.heldLow := (rfl)
@[simp] theorem State.setTku_now (h : TkuSt → TkuSt) : (s.setTku h).now = s.now := (rfl)
@[simp] theorem State.setTku_free (h : TkuSt → TkuSt) : (s.setTku h).free = s.free := (rfl)
@[simp] theorem State.setTku_seqs (h : TkuSt → TkuSt) : (s.setTku h).seqs = s.seqs := (rfl)
@[simp] theorem State.setTku_islands (h : TkuSt → TkuSt) : (s.setTku h).islands = s.islands := (rfl)
@[simp] theorem State.setTku_flt (h : TkuSt → TkuSt) : (s.setTku h).flt = s.flt := (rfl)
@[simp] theorem State.setTku_evr (h : TkuSt → TkuSt) : (s.setTku h).evr = s.evr := (rfl)
@[simp] theorem State.setTku_mem (h : TkuSt → TkuSt) : (s.setTku h).mem = s.mem := (rfl)
@[simp] theorem State.setTku_hbm (h : TkuSt → TkuSt) : (s.setTku h).hbm = s.hbm := (rfl)
@[simp] theorem State.setTku_flash (h : TkuSt → TkuSt) : (s.setTku h).flash = s.flash := (rfl)
@[simp] theorem State.setTku_live (h : TkuSt → TkuSt) : (s.setTku h).live = s.live := (rfl)
@[simp] theorem State.setTku_fns (h : TkuSt → TkuSt) : (s.setTku h).fns = s.fns := (rfl)
@[simp] theorem State.setTku_hps (h : TkuSt → TkuSt) : (s.setTku h).hps = s.hps := (rfl)
@[simp] theorem State.setTku_queues (h : TkuSt → TkuSt) : (s.setTku h).queues = s.queues := (rfl)
@[simp] theorem State.setTku_tenants (h : TkuSt → TkuSt) : (s.setTku h).tenants = s.tenants := (rfl)
@[simp] theorem State.setTku_macs (h : TkuSt → TkuSt) : (s.setTku h).macs = s.macs := (rfl)
@[simp] theorem State.setTku_pipes (h : TkuSt → TkuSt) : (s.setTku h).pipes = s.pipes := (rfl)
@[simp] theorem State.setTku_tmg (h : TkuSt → TkuSt) : (s.setTku h).tmg = s.tmg := (rfl)
@[simp] theorem State.setTku_tbl (h : TkuSt → TkuSt) : (s.setTku h).tbl = s.tbl := (rfl)
@[simp] theorem State.setTku_cls (h : TkuSt → TkuSt) : (s.setTku h).cls = s.cls := (rfl)
@[simp] theorem State.setTku_sec (h : TkuSt → TkuSt) : (s.setTku h).sec = s.sec := (rfl)
@[simp] theorem State.setTku_eng (h : TkuSt → TkuSt) : (s.setTku h).eng = s.eng := (rfl)
@[simp] theorem State.setTku_mov (h : TkuSt → TkuSt) : (s.setTku h).mov = s.mov := (rfl)
@[simp] theorem State.setTku_stk (h : TkuSt → TkuSt) : (s.setTku h).stk = s.stk := (rfl)
@[simp] theorem State.setTku_cgu (h : TkuSt → TkuSt) : (s.setTku h).cgu = s.cgu := (rfl)
@[simp] theorem State.setTku_rst (h : TkuSt → TkuSt) : (s.setTku h).rst = s.rst := (rfl)
@[simp] theorem State.setTku_fuse (h : TkuSt → TkuSt) : (s.setTku h).fuse = s.fuse := (rfl)
@[simp] theorem State.setTku_cfs (h : TkuSt → TkuSt) : (s.setTku h).cfs = s.cfs := (rfl)
@[simp] theorem State.setTku_mgt (h : TkuSt → TkuSt) : (s.setTku h).mgt = s.mgt := (rfl)
@[simp] theorem State.setTku_mge (h : TkuSt → TkuSt) : (s.setTku h).mge = s.mge := (rfl)
@[simp] theorem State.setTku_chans (h : TkuSt → TkuSt) : (s.setTku h).chans = s.chans := (rfl)
@[simp] theorem State.setTku_bufs (h : TkuSt → TkuSt) : (s.setTku h).bufs = s.bufs := (rfl)
@[simp] theorem State.setTku_poolEmptyAt (h : TkuSt → TkuSt) : (s.setTku h).poolEmptyAt = s.poolEmptyAt := (rfl)
@[simp] theorem State.setTku_out (h : TkuSt → TkuSt) : (s.setTku h).out = s.out := (rfl)

/-! ## The changed field -/

@[simp] theorem State.wr_regs (off : Nat) (v : Word) : (s.wr off v).regs = tabSet resetWord s.regs off v := (rfl)
@[simp] theorem State.reportAs_arriving (c v r b : Nat) (l : List Nat) :
    (s.reportAs c v r b l).flt.arriving = s.flt.arriving ++ [⟨c, v, r, b, l⟩] := (rfl)
@[simp] theorem State.report_arriving (c v i : Nat) (l : List Nat) :
    (s.report c v i l).flt.arriving = s.flt.arriving ++ [⟨c, v, c / 256 * 256 + i, c / 256 * 256 + i, l⟩] := (rfl)
@[simp] theorem State.emit_out (e : OutEv) : (s.emit e).out = e :: s.out := (rfl)
@[simp] theorem State.setTku_tku (f : TkuSt → TkuSt) : (s.setTku f).tku = f s.tku := (rfl)
@[simp] theorem State.fresh_free : s.fresh.2.free = s.free + 1 := (rfl)
@[simp] theorem State.fresh_fst : s.fresh.1 = s.free := (rfl)

/-! ## Bit fields -/

theorem bitsOf_lt (n lo w : Nat) : bitsOf n lo w < 2 ^ w := Nat.mod_lt _ (Nat.two_pow_pos w)

theorem bitsOf_eq (n lo w : Nat) : bitsOf n lo w = n / 2 ^ lo % 2 ^ w := by simp [bitsOf, Nat.shiftRight_eq_div_pow]

/-- A number is what lies above a field, the field, and what lies below it. -/
theorem split_bits (n lo w : Nat) : n = n / 2 ^ (lo + w) * 2 ^ (lo + w) + bitsOf n lo w * 2 ^ lo + n % 2 ^ lo := by
  rw [bitsOf_eq]
  have h1 : n = n / 2 ^ lo * 2 ^ lo + n % 2 ^ lo := by
    have := Nat.div_add_mod n (2 ^ lo); rw [Nat.mul_comm] at this; omega
  have h2 : n / 2 ^ lo = n / 2 ^ lo / 2 ^ w * 2 ^ w + n / 2 ^ lo % 2 ^ w := by
    have := Nat.div_add_mod (n / 2 ^ lo) (2 ^ w); rw [Nat.mul_comm] at this; omega
  have h3 : n / 2 ^ lo / 2 ^ w = n / 2 ^ (lo + w) := by rw [Nat.div_div_eq_div_mul, ← Nat.pow_add]
  calc n = n / 2 ^ lo * 2 ^ lo + n % 2 ^ lo := h1
    _ = (n / 2 ^ (lo + w) * 2 ^ w + n / 2 ^ lo % 2 ^ w) * 2 ^ lo + n % 2 ^ lo := by rw [← h3, ← h2]
    _ = _ := by rw [Nat.add_mul, Nat.mul_assoc, ← Nat.pow_add, Nat.add_comm w lo]

/-- A field replaced: the same three parts with the new middle. -/
theorem putBits_eq (n lo w v : Nat) :
    putBits n lo w v = n / 2 ^ (lo + w) * 2 ^ (lo + w) + v % 2 ^ w * 2 ^ lo + n % 2 ^ lo := by
  have h := split_bits n lo w
  unfold putBits
  omega

/-- What three parts put together read as, part by part. -/
theorem parts_read (a v r lo w : Nat) (hv : v < 2 ^ w) (hr : r < 2 ^ lo) :
    bitsOf (a * 2 ^ (lo + w) + v * 2 ^ lo + r) lo w = v := by
  rw [bitsOf_eq]
  have h1 : a * 2 ^ (lo + w) + v * 2 ^ lo + r = 2 ^ lo * (a * 2 ^ w + v) + r := by
    rw [Nat.pow_add]; ring
  rw [h1, Nat.mul_add_div (Nat.two_pow_pos lo), Nat.div_eq_of_lt hr, Nat.add_zero, Nat.mul_comm a, Nat.mul_add_mod, Nat.mod_eq_of_lt hv]

@[simp] theorem bitsOf_putBits_same (n lo w v : Nat) : bitsOf (putBits n lo w v) lo w = v % 2 ^ w := by
  rw [putBits_eq]
  exact parts_read _ _ _ _ _ (Nat.mod_lt _ (Nat.two_pow_pos w)) (Nat.mod_lt _ (Nat.two_pow_pos lo))

/-- A field below a replaced one. -/
theorem bitsOf_putBits_below (n lo w v lo' w' : Nat) (h : lo' + w' ≤ lo) : bitsOf (putBits n lo w v) lo' w' = bitsOf n lo' w' := by
  have key : ∀ x : Nat, bitsOf x lo' w' = bitsOf (x % 2 ^ lo) lo' w' := by
    intro x
    rw [bitsOf_eq, bitsOf_eq]
    obtain ⟨c, rfl⟩ : ∃ c, lo = lo' + w' + c := ⟨lo - (lo' + w'), by omega⟩
    have h1 : x % 2 ^ (lo' + w' + c) / 2 ^ lo' = x / 2 ^ lo' % 2 ^ (w' + c) := by
      rw [Nat.add_assoc, Nat.pow_add 2 lo', Nat.mod_mul_right_div_self]
    rw [h1, Nat.pow_add, Nat.mod_mul_right_mod]
  rw [key (putBits n lo w v), key n, putBits_eq]
  congr 1
  have h2 : n / 2 ^ (lo + w) * 2 ^ (lo + w) + v % 2 ^ w * 2 ^ lo + n % 2 ^ lo =
      2 ^ lo * (n / 2 ^ (lo + w) * 2 ^ w + v % 2 ^ w) + n % 2 ^ lo := by rw [Nat.pow_add]; ring
  rw [h2, Nat.mul_add_mod, Nat.mod_mod]

/-- A field above a replaced one. -/
theorem bitsOf_putBits_above (n lo w v lo' w' : Nat) (h : lo + w ≤ lo') : bitsOf (putBits n lo w v) lo' w' = bitsOf n lo' w' := by
  have key : ∀ x : Nat, bitsOf x lo' w' = x / 2 ^ (lo + w) / 2 ^ (lo' - (lo + w)) % 2 ^ w' := by
    intro x; rw [bitsOf_eq, Nat.div_div_eq_div_mul, ← Nat.pow_add]; congr 3; omega
  rw [key (putBits n lo w v), key n, putBits_eq]
  have hlt : v % 2 ^ w * 2 ^ lo + n % 2 ^ lo < 2 ^ (lo + w) := by
    have h1 : v % 2 ^ w + 1 ≤ 2 ^ w := Nat.mod_lt _ (Nat.two_pow_pos w)
    have h2 : n % 2 ^ lo < 2 ^ lo := Nat.mod_lt _ (Nat.two_pow_pos lo)
    calc v % 2 ^ w * 2 ^ lo + n % 2 ^ lo < (v % 2 ^ w + 1) * 2 ^ lo := by rw [Nat.add_mul]; omega
      _ ≤ 2 ^ w * 2 ^ lo := Nat.mul_le_mul_right _ h1
      _ = 2 ^ (lo + w) := by rw [← Nat.pow_add, Nat.add_comm]
  have : (n / 2 ^ (lo + w) * 2 ^ (lo + w) + v % 2 ^ w * 2 ^ lo + n % 2 ^ lo) / 2 ^ (lo + w) = n / 2 ^ (lo + w) := by
    rw [Nat.add_assoc, Nat.mul_comm, Nat.mul_add_div (Nat.two_pow_pos _), Nat.div_eq_of_lt hlt, Nat.add_zero]
  rw [this]

theorem putBits_lt {n lo w v b : Nat} (hn : n < 2 ^ b) (h : lo + w ≤ b) : putBits n lo w v < 2 ^ b := by
  rw [putBits_eq]
  have h1 : v % 2 ^ w + 1 ≤ 2 ^ w := Nat.mod_lt _ (Nat.two_pow_pos w)
  have h2 : n % 2 ^ lo < 2 ^ lo := Nat.mod_lt _ (Nat.two_pow_pos lo)
  have hlt : v % 2 ^ w * 2 ^ lo + n % 2 ^ lo < 2 ^ (lo + w) := by
    calc v % 2 ^ w * 2 ^ lo + n % 2 ^ lo < (v % 2 ^ w + 1) * 2 ^ lo := by rw [Nat.add_mul]; omega
      _ ≤ 2 ^ w * 2 ^ lo := Nat.mul_le_mul_right _ h1
      _ = 2 ^ (lo + w) := by rw [← Nat.pow_add, Nat.add_comm]
  have h3 : n / 2 ^ (lo + w) < 2 ^ (b - (lo + w)) := by
    rw [Nat.div_lt_iff_lt_mul (Nat.two_pow_pos _), ← Nat.pow_add]
    rwa [Nat.sub_add_cancel h]
  calc n / 2 ^ (lo + w) * 2 ^ (lo + w) + v % 2 ^ w * 2 ^ lo + n % 2 ^ lo
      < (n / 2 ^ (lo + w) + 1) * 2 ^ (lo + w) := by rw [Nat.add_mul]; omega
    _ ≤ 2 ^ (b - (lo + w)) * 2 ^ (lo + w) := Nat.mul_le_mul_right _ h3
    _ = 2 ^ b := by rw [← Nat.pow_add, Nat.sub_add_cancel h]

/-! ## Registers -/

theorem State.rd_wr (off j : Nat) (v : Word) : (s.wr off v).rd j = if j = off then v else s.rd j := by
  simp [State.rd, tabGet_tabSet]

@[simp] theorem State.rd_wr_self (off : Nat) (v : Word) : (s.wr off v).rd off = v := by simp [State.rd_wr]

theorem State.rd_wr_other {off j : Nat} (v : Word) (h : j ≠ off) : (s.wr off v).rd j = s.rd j := by simp [State.rd_wr, h]

theorem State.rdN_lt (off : Nat) : s.rdN off < 2 ^ 32 := (s.rd off).isLt

theorem State.rdN_wrN (off j v : Nat) : (s.wrN off v).rdN j = if j = off then v % 2 ^ 32 else s.rdN j := by
  unfold State.rdN State.wrN
  rw [State.rd_wr]
  split <;> simp [word]

@[simp] theorem State.rdN_wrN_self (off v : Nat) : (s.wrN off v).rdN off = v % 2 ^ 32 := by simp [State.rdN_wrN]

theorem State.rdN_wrN_other {off j : Nat} (v : Nat) (h : j ≠ off) : (s.wrN off v).rdN j = s.rdN j := by simp [State.rdN_wrN, h]

/-- A field's new value; the field lies within its word. -/
theorem State.gf_sf_self (f : Fld) (v : Nat) (h : f.lo + f.width ≤ 32) : (s.sf f v).gf f = v % 2 ^ f.width := by
  unfold State.gf State.sf
  rw [State.rdN_wrN_self, Nat.mod_eq_of_lt (putBits_lt (s.rdN_lt _) h), bitsOf_putBits_same]

/-- Fields of one word that do not overlap. -/
def Fld.apart (f g : Fld) : Bool := f.reg != g.reg || decide (f.lo + f.width ≤ g.lo) || decide (g.lo + g.width ≤ f.lo)

/-- A field that a write of another leaves alone. -/
theorem State.gf_sf_other (f g : Fld) (v : Nat) (h : f.lo + f.width ≤ 32) (ha : f.apart g = true) : (s.sf f v).gf g = s.gf g := by
  unfold State.gf State.sf
  by_cases hr : g.reg = f.reg
  · rw [hr, State.rdN_wrN_self, Nat.mod_eq_of_lt (putBits_lt (s.rdN_lt _) h)]
    simp only [Fld.apart, hr, bne_self_eq_false, Bool.false_or, Bool.or_eq_true, decide_eq_true_eq] at ha
    rcases ha with ha | ha
    · exact bitsOf_putBits_above _ _ _ _ _ _ ha
    · exact bitsOf_putBits_below _ _ _ _ _ _ ha
  · rw [State.rdN_wrN_other _ _ hr]

theorem State.gb_sb_self (f : Fld) (v : Bool) (h : f.lo + 1 ≤ 32) (hw : f.width = 1) : (s.sb f v).gb f = v := by
  have : f.lo + f.width ≤ 32 := by omega
  cases v <;> simp [State.gb, State.sb, State.gf_sf_self s f _ this, hw, b2n]

theorem State.gb_sb_other (f g : Fld) (v : Bool) (h : f.lo + f.width ≤ 32) (ha : f.apart g = true) : (s.sb f v).gb g = s.gb g := by
  simp [State.gb, State.sb, State.gf_sf_other s f g _ h ha]

theorem State.gf_sb_other (f g : Fld) (v : Bool) (h : f.lo + f.width ≤ 32) (ha : f.apart g = true) : (s.sb f v).gf g = s.gf g := by
  simp [State.sb, State.gf_sf_other s f g _ h ha]

theorem State.gb_sf_other (f g : Fld) (v : Nat) (h : f.lo + f.width ≤ 32) (ha : f.apart g = true) : (s.sf f v).gb g = s.gb g := by
  simp [State.gb, State.gf_sf_other s f g _ h ha]

/-- A register that a write of a field leaves alone. -/
theorem State.rd_sf_other (f : Fld) (v : Nat) {off : Nat} (h : off ≠ f.reg) : (s.sf f v).rd off = s.rd off := by
  simp [State.sf, State.wrN, State.rd_wr_other s _ h]

/-- Registers are read from the register file alone. -/
theorem State.rd_of_regs {t u : State} (h : t.regs = u.regs) (off : Nat) : t.rd off = u.rd off := by simp [State.rd, h]
theorem State.gf_of_regs {t u : State} (h : t.regs = u.regs) (f : Fld) : t.gf f = u.gf f := by simp [State.gf, State.rdN, State.rd_of_regs h]
theorem State.gb_of_regs {t u : State} (h : t.regs = u.regs) (f : Fld) : t.gb f = u.gb f := by simp [State.gb, State.gf_of_regs h]

@[simp] theorem State.gf_reportAs (c v r b : Nat) (l : List Nat) (f : Fld) : (s.reportAs c v r b l).gf f = s.gf f := (rfl)
@[simp] theorem State.gb_reportAs (c v r b : Nat) (l : List Nat) (f : Fld) : (s.reportAs c v r b l).gb f = s.gb f := (rfl)
@[simp] theorem State.rd_reportAs (c v r b : Nat) (l : List Nat) (off : Nat) : (s.reportAs c v r b l).rd off = s.rd off := (rfl)
@[simp] theorem State.gf_report (c v i : Nat) (l : List Nat) (f : Fld) : (s.report c v i l).gf f = s.gf f := (rfl)
@[simp] theorem State.gb_report (c v i : Nat) (l : List Nat) (f : Fld) : (s.report c v i l).gb f = s.gb f := (rfl)
@[simp] theorem State.rd_report (c v i : Nat) (l : List Nat) (off : Nat) : (s.report c v i l).rd off = s.rd off := (rfl)
@[simp] theorem State.gf_emit (e : OutEv) (f : Fld) : (s.emit e).gf f = s.gf f := (rfl)
@[simp] theorem State.gb_emit (e : OutEv) (f : Fld) : (s.emit e).gb f = s.gb f := (rfl)
@[simp] theorem State.rd_emit (e : OutEv) (off : Nat) : (s.emit e).rd off = s.rd off := (rfl)
@[simp] theorem State.gf_setTku (h : TkuSt → TkuSt) (f : Fld) : (s.setTku h).gf f = s.gf f := (rfl)
@[simp] theorem State.gb_setTku (h : TkuSt → TkuSt) (f : Fld) : (s.setTku h).gb f = s.gb f := (rfl)
@[simp] theorem State.rd_setTku (h : TkuSt → TkuSt) (off : Nat) : (s.setTku h).rd off = s.rd off := (rfl)

/-! ## Stamps (R47) -/

theorem State.stamp_seq (i m : Nat) : (s.stamp i m).1.seq = s.seqOf m := (rfl)

theorem State.stamp_next (i m : Nat) : (s.stamp i m).2.seqOf m = (s.seqOf m + 1) % 2 ^ 32 := by simp [State.stamp, State.seqOf]

theorem State.stamp_other (i m : Nat) {k : Nat} (h : k ≠ m) : (s.stamp i m).2.seqOf k = s.seqOf k := by
  simp [State.stamp, State.seqOf, tabGet_tabSet_other _ _ _ h]

end Sys2Proof.Machine
end

