-- ==== Sys2Proof/Laws/Writer.lean ====
section
/-! SUPPORT. Laws of the register bus and of blocks that work: when a command's effect is what its meaning says, and when it has none. -/

namespace Sys2Proof.Machine

variable (s : State)

/-- An access that gets to the register bus is what follows it there. -/
theorem State.reaches_decodes {m : Master} {off : Nat} (f : State → State) (h : s.decodes m off = true) : s.reaches m off f = f s := by
  cases m with
  | host p g =>
    simp only [State.decodes, Bool.and_eq_true, Bool.not_eq_true'] at h
    obtain ⟨⟨⟨⟨h1, h2⟩, h3⟩, h4⟩, h5⟩ := h
    simp only [State.reaches, State.memAccess, h1, h2, h3, h5]
    simp_all
  | skylark => rfl
  | engine t => rfl

/-- A write that its register takes does what the command says. -/
theorem State.asWriter_accepts {m : Master} {off : Nat} (f : State → State) (h : s.accepts m off = true) : s.asWriter m off f = f s := by
  simp only [State.accepts, Bool.and_eq_true] at h
  simp [State.asWriter, s.reaches_decodes _ h.1.1, h.1.2, h.2]

/-- A write without the right is dropped and logged (R8, R26). -/
theorem State.asWriter_denies {m : Master} {off : Nat} (f : State → State) (h : s.denies m off = true) : s.asWriter m off f = s.cfgViol m off := by
  simp only [State.denies, Bool.and_eq_true, Bool.not_eq_true'] at h
  simp [State.asWriter, s.reaches_decodes _ h.1.1, h.1.2, h.2]

theorem State.inBlock_works {b i : Nat} (f : State → State) (h : s.works b i = true) : s.inBlock b i f = f s := by simp [State.inBlock, h]

theorem State.inBlock_stopped {b i : Nat} (f : State → State) (h : s.works b i = false) : s.inBlock b i f = s := by simp [State.inBlock, h]

/-- A command whose meaning is `.next t` completes with whatever holds of `t`. -/
theorem completes_of {c : Instr} {s t : State} {P : State → Prop} (h : exec c s = .next t) (hp : P t) : completes c s P := ⟨t, h, hp⟩

end Sys2Proof.Machine
end

