-- ==== Sys2Proof/Laws/Bus.lean ====
section
/-! SUPPORT. Laws of the register bus: where an access with the right to its register lands, and what a read leaves. -/

namespace Sys2Proof.Machine

variable (s : State)

/-- The offsets of a PF0's window that are the device's registers and not its function page. -/
theorem State.hostKey_zero {off : Nat} (p : Nat) (h : s.safeTalk = false) (hlo : off < 0x10000000) (hp : ¬(0x80000 ≤ off ∧ off < 0x90000)) :
    s.hostKey p 0 off = some off := by
  simp only [State.hostKey, h]
  have : ¬(0x10000000 ≤ off) := by omega
  simp [this]; omega

/-- In Safe-Talk mode the recovery function's window shows CFS at its own offsets only; no other offset that `decodes` accepts stays in the window. -/
theorem State.decodes_safeTalk {p : Fin 2} {g : Fin 514} {off : Nat} (h : s.decodes (.host p g) off = true) (hb : blockOf off ≠ 0xFC) : s.safeTalk = false := by
  simp only [State.decodes, Bool.and_eq_true, Bool.or_eq_true, beq_iff_eq, bne_iff_ne] at h
  simp only [State.safeTalk, beq_eq_false_iff_ne]
  rcases h.2 with h | h
  · exact h
  · exact absurd h hb

theorem State.decodes_fn {p : Fin 2} {g : Fin 514} {off : Nat} (h : s.decodes (.host p g) off = true) : g = 0 := by
  simp only [State.decodes, Bool.and_eq_true, beq_iff_eq] at h
  exact Fin.ext h.1.2

/-- A host's access that the register bus gets passes the checks of its function. -/
theorem State.memAccess_decodes {p : Fin 2} {g : Fin 514} {off a : Nat} {b : Bool} (f : State → State) (h : s.decodes (.host p g) off = true) :
    s.memAccess p g a b f = f s := by
  simp only [State.decodes, Bool.and_eq_true, Bool.not_eq_true', beq_iff_eq] at h
  obtain ⟨⟨⟨⟨h1, h2⟩, h3⟩, h4⟩, h5⟩ := h
  simp [State.memAccess, h1, h2, h3]

theorem gatedKey_eq {k : Nat} (hk : k < 0x10000000) : s.gatedKey k = !s.enabled (blockOf k) := by simp [State.gatedKey, hk]

/-- A write that gets to its register, whole and in an enabled block, is judged by its master's rights (R26). -/
theorem State.busWrite_decodes {m : Master} {off v : Nat} (ha : off % 4 = 0) (hlo : off < 0x10000000) (hp : ¬(0x80000 ≤ off ∧ off < 0x90000))
    (hb : blockOf off ≠ 0xFC) (hd : s.decodes m off = true) (he : s.enabled (blockOf off) = true) : s.busWrite m off 15 v = s.writeBy m off off v := by
  have ho : off / 4 * 4 = off := by omega
  have hg := gatedKey_eq s hlo
  cases m with
  | host p g =>
    obtain rfl := s.decodes_fn hd
    simp only [State.busWrite, ho, s.memAccess_decodes _ hd]
    have := s.hostKey_zero p (s.decodes_safeTalk hd hb) hlo hp
    simp [this, hg, he]
  | skylark => simp [State.busWrite, ho, hg, he, Nat.not_le.mpr hlo]
  | engine t => simp [State.busWrite, ho, hg, he, Nat.not_le.mpr hlo]

theorem State.busWrite_accepts {m : Master} {off v : Nat} (ha : off % 4 = 0) (hlo : off < 0x10000000) (hp : ¬(0x80000 ≤ off ∧ off < 0x90000))
    (hb : blockOf off ≠ 0xFC) (h : s.accepts m off = true) : s.busWrite m off 15 v = s.writeReg m off off v := by
  simp only [State.accepts, Bool.and_eq_true] at h
  rw [s.busWrite_decodes ha hlo hp hb h.1.1 h.1.2]
  simp [State.writeBy, h.2]

theorem State.busWrite_denies {m : Master} {off v : Nat} (ha : off % 4 = 0) (hlo : off < 0x10000000) (hp : ¬(0x80000 ≤ off ∧ off < 0x90000))
    (hb : blockOf off ≠ 0xFC) (ht : off ≠ R.TOP_MASTERS) (h : s.denies m off = true) : s.busWrite m off 15 v = s.cfgViol m off := by
  simp only [State.denies, Bool.and_eq_true, Bool.not_eq_true'] at h
  have : ¬(0x100000000 ≤ off) := by omega
  rw [s.busWrite_decodes ha hlo hp hb h.1.1 h.1.2]
  simp [State.writeBy, h.2, ht, this]

/-- A read by a master of the device itself, in an enabled block. -/
theorem State.busRead_inner {m : Master} {off : Nat} (hm : ∀ p f, m ≠ .host p f) (ha : off % 4 = 0) (hlo : off < 0x10000000)
    (he : s.enabled (blockOf off) = true) : s.busRead m off = (s.readReg m off).2.emit (.regRead (s.readReg m off).1.toNat) := by
  have ho : off / 4 * 4 = off := by omega
  have hg := gatedKey_eq s hlo
  cases m with
  | host p g => exact absurd rfl (hm p g)
  | skylark => simp [State.busRead, ho, hg, he, Nat.not_le.mpr hlo]
  | engine t => simp [State.busRead, ho, hg, he, Nat.not_le.mpr hlo]

/-- A read by a PF0, in an enabled block. -/
theorem State.busRead_host {p : Fin 2} {off : Nat} (hd : s.decodes (.host p 0) off = true) (ha : off % 4 = 0) (hlo : off < 0x10000000)
    (hp : ¬(0x80000 ≤ off ∧ off < 0x90000)) (hb : blockOf off ≠ 0xFC) (he : s.enabled (blockOf off) = true) :
    s.busRead (.host p 0) off =
      (s.readReg (.host p 0) off).2.emit (.completion p 0 0 (leBytes 4 (s.readReg (.host p 0) off).1.toNat)) := by
  have ho : off / 4 * 4 = off := by omega
  have hg := gatedKey_eq s hlo
  have := s.hostKey_zero p (s.decodes_safeTalk hd hb) hlo hp
  simp only [State.busRead, ho, s.memAccess_decodes _ hd]
  simp [this, hg, he]

theorem State.readReg_plain (m : Master) {k : Nat} (h : latchSet k = []) : s.readReg m k = (s.peek k, s.readClears k) := by simp [State.readReg, h]

theorem State.readReg_first (m : Master) {k : Nat} {ks : List Nat} (h : latchSet k = k :: ks) :
    s.readReg m k = (s.peek k, s.takeLatch m k (k :: ks)) := by simp [State.readReg, h]

theorem State.readReg_later (m : Master) {k base : Nat} {ks : List Nat} {l : Latch} (h : latchSet k = base :: ks) (hk : k ≠ base)
    (hl : s.latchOf m base = some l) : s.readReg m k = (l.words.getD (indexIn k (base :: ks)) 0, s) := by simp [State.readReg, h, hk, hl]

@[simp] theorem State.latchOf_takeLatch (m : Master) (base : Nat) (keys : List Nat) :
    (s.takeLatch m base keys).latchOf m base = some ⟨m, base, keys.map s.peek⟩ := by simp [State.latchOf, State.takeLatch]

end Sys2Proof.Machine
end

