-- ==== Sys2Proof/Laws/Memory.lean ====
section
/-! SUPPORT. Laws of byte memories: a read after a write, what a write and an erase leave alone, and the canonical form that every memory operation keeps. -/

namespace Sys2Proof.Machine

section Bytes

variable (d : Nat → Byte)

/-- A write leaves every byte outside its range as it was. -/
theorem tabGet_memWrite_out (m : Tab Byte) (a : Nat) (l : List Byte) {x : Nat} (h : x < a ∨ a + l.length ≤ x) :
    tabGet d (memWrite d m a l) x = tabGet d m x := by
  induction l generalizing m a with
  | nil => rfl
  | cons b t ih =>
    simp only [List.length_cons] at h
    rw [memWrite, ih _ _ (by omega), tabGet_tabSet_other d m b (by omega)]

/-- Byte `i` of a write stands at its place. -/
theorem tabGet_memWrite_in (m : Tab Byte) (a : Nat) (l : List Byte) {i : Nat} (h : i < l.length) :
    tabGet d (memWrite d m a l) (a + i) = l[i] := by
  induction l generalizing m a i with
  | nil => simp at h
  | cons b t ih =>
    cases i with
    | zero => rw [memWrite, tabGet_memWrite_out d _ _ _ (by omega)]; simp
    | succ i =>
      have := ih (tabSet d m a b) (a + 1) (i := i) (by simpa using h)
      rw [memWrite, show a + (i + 1) = a + 1 + i by omega, this]; simp

theorem memRead_congr {m m' : Tab Byte} {a n : Nat} (h : ∀ i, i < n → tabGet d m (a + i) = tabGet d m' (a + i)) :
    memRead d m a n = memRead d m' a n := by
  induction n generalizing a with
  | zero => rfl
  | succ n ih =>
    rw [memRead, memRead, show tabGet d m a = tabGet d m' a from h 0 (by omega)]
    exact congrArg _ (ih fun i hi => by rw [show a + 1 + i = a + (i + 1) by omega]; exact h (i + 1) (by omega))

@[simp] theorem memRead_length (m : Tab Byte) (a n : Nat) : (memRead d m a n).length = n := by
  induction n generalizing a with
  | zero => rfl
  | succ n ih => simp [memRead, ih]

/-- Bytes written are read back. -/
theorem memRead_memWrite (m : Tab Byte) (a : Nat) (l : List Byte) : memRead d (memWrite d m a l) a l.length = l := by
  induction l generalizing m a with
  | nil => rfl
  | cons b t ih =>
    rw [List.length_cons, memRead, memWrite, ih, tabGet_memWrite_out d _ _ _ (by omega)]; simp

/-- A read away from a write gives what it gave before. -/
theorem memRead_memWrite_out (m : Tab Byte) {a : Nat} {l : List Byte} {x n : Nat} (h : x + n ≤ a ∨ a + l.length ≤ x) :
    memRead d (memWrite d m a l) x n = memRead d m x n :=
  memRead_congr d fun _ _ => tabGet_memWrite_out d m a l (by omega)

theorem tabGet_filter_keep (m : Tab Byte) (f : Nat × Byte → Bool) {x : Nat} (h : ∀ v, f (x, v) = true) : tabGet d (m.filter f) x = tabGet d m x := by
  induction m with
  | nil => rfl
  | cons e t ih =>
    obtain ⟨k, v⟩ := e
    by_cases hk : x = k
    · subst hk; simp [h, tabGet]
    · by_cases hf : f (k, v) = true <;> simp [hf, tabGet, hk, ih]

theorem tabGet_filter_drop (m : Tab Byte) (f : Nat × Byte → Bool) {x : Nat} (h : ∀ v, f (x, v) = false) : tabGet d (m.filter f) x = d x := by
  induction m with
  | nil => rfl
  | cons e t ih =>
    obtain ⟨k, v⟩ := e
    by_cases hk : x = k
    · subst hk; simp [h, ih]
    · by_cases hf : f (k, v) = true <;> simp [hf, tabGet, hk, ih]

/-- A write keeps the canonical form. -/
theorem memWrite_wf (m : Tab Byte) (a : Nat) (l : List Byte) (h : tabWf d m = true) : tabWf d (memWrite d m a l) = true := by
  induction l generalizing m a with
  | nil => exact h
  | cons b t ih => exact ih _ _ (tabSet_wf d h)

end Bytes

/-- An erased byte of flash reads as erased, and every other as before. -/
theorem State.flashErase_get (s : State) (a n x : Nat) :
    tabGet flashDefault (s.flashErase a n).flash x = if a ≤ x ∧ x < a + n then flashDefault x else tabGet flashDefault s.flash x := by
  by_cases h : a ≤ x ∧ x < a + n
  · rw [if_pos h]; exact tabGet_filter_drop _ _ _ fun _ => by simp; omega
  · rw [if_neg h]; exact tabGet_filter_keep _ _ _ fun _ => by simp; omega

/-! ## The canonical form of the register file and the memories -/

theorem State.memWf_iff (s : State) :
    s.memWf = true ↔ tabWf resetWord s.regs = true ∧ tabWf hbmDefault s.hbm = true ∧ tabWf flashDefault s.flash = true := by
  simp [State.memWf, and_assoc]

theorem State.reset_memWf : State.reset.memWf = true := (rfl)

theorem State.wr_memWf {s : State} (h : s.memWf = true) (off : Nat) (v : Word) : (s.wr off v).memWf = true := by
  rw [State.memWf_iff] at h ⊢; exact ⟨tabSet_wf _ h.1, h.2⟩

theorem State.hbmWrite_memWf {s : State} (h : s.memWf = true) (a : Nat) (l : List Byte) : (s.hbmWrite a l).memWf = true := by
  rw [State.memWf_iff] at h ⊢; exact ⟨h.1, memWrite_wf _ _ _ _ h.2.1, h.2.2⟩

theorem State.flashWrite_memWf {s : State} (h : s.memWf = true) (a : Nat) (l : List Byte) : (s.flashWrite a l).memWf = true := by
  rw [State.memWf_iff] at h ⊢; exact ⟨h.1, h.2.1, memWrite_wf _ _ _ _ h.2.2⟩

theorem State.flashErase_memWf {s : State} (h : s.memWf = true) (a n : Nat) : (s.flashErase a n).memWf = true := by
  rw [State.memWf_iff] at h ⊢; exact ⟨h.1, h.2.1, tabFilter_wf _ _ h.2.2⟩

/-- A state with the same register file, HBM and flash has the canonical form too. -/
theorem State.memWf_of_eq {s t : State} (h : s.memWf = true) (hr : t.regs = s.regs) (hh : t.hbm = s.hbm) (hf : t.flash = s.flash) : t.memWf = true := by
  rw [State.memWf_iff] at h ⊢; rwa [hr, hh, hf]

/-- A fold of operations that keep the canonical form keeps it. -/
theorem foldl_memWf {α : Type} (l : List α) (f : State → α → State) (hf : ∀ (s : State) x, s.memWf = true → (f s x).memWf = true) (s : State)
    (h : s.memWf = true) : (l.foldl f s).memWf = true := by
  induction l generalizing s with
  | nil => exact h
  | cons x t ih => exact ih _ (hf _ _ h)

end Sys2Proof.Machine
end

