-- ==== Sys2Proof/Laws/Regs.lean ====
section
/-! SUPPORT. Laws of the register file: what a field, a wide register and a counter read after a write, and which registers an update leaves as they were. -/

namespace Sys2Proof.Machine

variable (s : State)

/-! ## Fields and words after a write -/

theorem bitsOf_mod (z lo wd : Nat) (h : lo + wd ≤ 32) : bitsOf (z % 2 ^ 32) lo wd = bitsOf z lo wd := by
  have e : (2 : Nat) ^ 32 = 2 ^ lo * 2 ^ (32 - lo) := by rw [← Nat.pow_add]; congr 1; omega
  rw [bitsOf_eq, bitsOf_eq, e, Nat.mod_mul_right_div_self, Nat.mod_mod_of_dvd]
  exact Nat.pow_dvd_pow 2 (by omega)

theorem State.gf_wrN (off v : Nat) (f : Fld) : (s.wrN off v).gf f = if f.reg = off then bitsOf (v % 2 ^ 32) f.lo f.width else s.gf f := by
  simp only [State.gf, State.rdN_wrN]; split <;> rfl

theorem State.rdN_sf_other (f : Fld) (v : Nat) {off : Nat} (h : off ≠ f.reg) : (s.sf f v).rdN off = s.rdN off := by
  simp [State.rdN, s.rd_sf_other f v h]

/-- A field of another register. -/
theorem State.gf_sf_reg (f g : Fld) (v : Nat) (h : g.reg ≠ f.reg) : (s.sf f v).gf g = s.gf g := by simp [State.gf, s.rdN_sf_other f v h]

theorem State.gb_sf_reg (f g : Fld) (v : Nat) (h : g.reg ≠ f.reg) : (s.sf f v).gb g = s.gb g := by simp [State.gb, s.gf_sf_reg f g v h]

theorem State.gf_lt (f : Fld) : s.gf f < 2 ^ f.width := bitsOf_lt _ _ _

theorem State.gb_eq_of_gf {s t : State} {f : Fld} (h : s.gf f = t.gf f) : s.gb f = t.gb f := by simp [State.gb, h]

/-! ## Wide registers -/

theorem State.rdN_wrWide_other {n off v j : Nat} (h : j < off ∨ off + 4 * n ≤ j) : (s.wrWide off n v).rdN j = s.rdN j := by
  induction n generalizing s off v with
  | zero => rfl
  | succ n ih => rw [State.wrWide, ih _ (by omega), s.rdN_wrN_other _ (by omega)]

theorem State.rdWide_congr {t u : State} {n off : Nat} (h : ∀ i, i < n → t.rdN (off + 4 * i) = u.rdN (off + 4 * i)) : t.rdWide off n = u.rdWide off n := by
  induction n generalizing off with
  | zero => rfl
  | succ n ih =>
    rw [State.rdWide, State.rdWide, ih fun i hi => ?_]
    · rw [show t.rdN off = u.rdN off from h 0 (by omega)]
    · have := h (i + 1) (by omega)
      rwa [show off + 4 * (i + 1) = off + 4 + 4 * i by omega] at this

/-- A wide register reads what was written to it. -/
theorem State.rdWide_wrWide (n off v : Nat) : (s.wrWide off n v).rdWide off n = v % 2 ^ (32 * n) := by
  induction n generalizing s off v with
  | zero => simp [State.rdWide, Nat.mod_one]
  | succ n ih =>
    rw [State.wrWide, State.rdWide, ih, State.rdN_wrWide_other _ (by omega), State.rdN_wrN_self, show 32 * (n + 1) = 32 + 32 * n by ring,
      Nat.pow_add, Nat.mod_mul]

theorem State.rd64_wr64 (off v : Nat) : (s.wr64 off v).rd64 off = v % 2 ^ 64 := s.rdWide_wrWide 2 off v

/-- A counter counts modulo 2^48 (R106). -/
theorem State.rd64_bumpBy (off n : Nat) : (s.bumpBy off n).rd64 off = (s.rd64 off + n) % 2 ^ 48 := by
  rw [State.bumpBy, State.rd64_wr64]
  exact Nat.mod_eq_of_lt (Nat.lt_trans (Nat.mod_lt _ (by decide)) (by decide))

@[simp] theorem State.rd64_bump (off : Nat) : (s.bump off).rd64 off = (s.rd64 off + 1) % 2 ^ 48 := s.rd64_bumpBy off 1

theorem State.rdN_wr64_other {off v j : Nat} (h : j < off ∨ off + 8 ≤ j) : (s.wr64 off v).rdN j = s.rdN j := s.rdN_wrWide_other (n := 2) (by omega)

theorem State.rdN_bump_other {off j : Nat} (h : j < off ∨ off + 8 ≤ j) : (s.bump off).rdN j = s.rdN j := s.rdN_wr64_other h

theorem State.rd64_bump_other {off j : Nat} (h : j + 4 < off ∨ off + 8 ≤ j) : (s.bump off).rd64 j = s.rd64 j :=
  State.rdWide_congr (n := 2) fun i hi => s.rdN_bump_other (by omega)

theorem State.gf_bump (off : Nat) (f : Fld) (h : f.reg < off ∨ off + 8 ≤ f.reg) : (s.bump off).gf f = s.gf f := by simp [State.gf, s.rdN_bump_other h]

/-- What the updates of registers leave: everything but the register file. -/
theorem State.wrWide_only (off n v : Nat) : s.wrWide off n v = { s with regs := (s.wrWide off n v).regs } := by
  induction n generalizing s off v with
  | zero => rfl
  | succ n ih => rw [State.wrWide, ih]; rfl

theorem State.wrN_only (off v : Nat) : s.wrN off v = { s with regs := (s.wrN off v).regs } := (rfl)
theorem State.sf_only (f : Fld) (v : Nat) : s.sf f v = { s with regs := (s.sf f v).regs } := (rfl)
theorem State.sb_only (f : Fld) (v : Bool) : s.sb f v = { s with regs := (s.sb f v).regs } := (rfl)
theorem State.wr64_only (off v : Nat) : s.wr64 off v = { s with regs := (s.wr64 off v).regs } := s.wrWide_only off 2 v
theorem State.bump_only (off : Nat) : s.bump off = { s with regs := (s.bump off).regs } := s.wr64_only off _

theorem State.satInc_only (f : Fld) : s.satInc f = { s with regs := (s.satInc f).regs } := by
  unfold State.satInc; split <;> rfl

theorem State.satInc32_only (off : Nat) : s.satInc32 off = { s with regs := (s.satInc32 off).regs } := by
  unfold State.satInc32; split <;> rfl

/-! ## Registers that an update leaves as they were -/

theorem regsBut_refl (f : Nat → Bool) : regsBut s s f := fun _ _ => rfl

theorem regsBut_of_regs {s t : State} (h : t.regs = s.regs) (f : Nat → Bool) : regsBut s t f := fun _ _ => State.rd_of_regs h _

theorem regsBut_trans {s t u : State} {f : Nat → Bool} (h : regsBut s t f) (k : regsBut t u f) : regsBut s u f := fun o ho => (k o ho).trans (h o ho)

theorem regsBut_mono {s t : State} {f g : Nat → Bool} (h : regsBut s t f) (hg : ∀ o, f o = true → g o = true) : regsBut s t g := by
  intro o ho
  apply h
  cases e : f o
  · rfl
  · rw [hg o e] at ho; exact absurd ho (by simp)

theorem regsBut_wr {f : Nat → Bool} {off : Nat} (v : Word) (h : f off = true) : regsBut s (s.wr off v) f := by
  intro o ho
  exact s.rd_wr_other v (by rintro rfl; rw [h] at ho; exact absurd ho (by simp))

theorem regsBut_wrN {f : Nat → Bool} {off : Nat} (v : Nat) (h : f off = true) : regsBut s (s.wrN off v) f := regsBut_wr s _ h
theorem regsBut_sf {f : Nat → Bool} {g : Fld} (v : Nat) (h : f g.reg = true) : regsBut s (s.sf g v) f := regsBut_wr s _ h
theorem regsBut_sb {f : Nat → Bool} {g : Fld} (v : Bool) (h : f g.reg = true) : regsBut s (s.sb g v) f := regsBut_wr s _ h

theorem regsBut_wrWide {f : Nat → Bool} {off n : Nat} (v : Nat) (h : ∀ i, i < n → f (off + 4 * i) = true) : regsBut s (s.wrWide off n v) f := by
  induction n generalizing s off v with
  | zero => exact regsBut_refl s f
  | succ n ih =>
    refine regsBut_trans (regsBut_wrN s _ (h 0 (by omega))) (ih _ _ fun i hi => ?_)
    have := h (i + 1) (by omega)
    rwa [show off + 4 * (i + 1) = off + 4 + 4 * i by omega] at this

theorem regsBut_bump {f : Nat → Bool} {off : Nat} (h : f off = true) (h4 : f (off + 4) = true) : regsBut s (s.bump off) f :=
  regsBut_wrWide s _ fun i hi => by interval_cases i <;> simpa

theorem regsBut_satInc {f : Nat → Bool} {g : Fld} (h : f g.reg = true) : regsBut s (s.satInc g) f := by
  unfold State.satInc; split
  · exact regsBut_sf s _ h
  · exact regsBut_refl s f

theorem regsBut_satInc32 {f : Nat → Bool} {off : Nat} (h : f off = true) : regsBut s (s.satInc32 off) f := by
  unfold State.satInc32; split
  · exact regsBut_wrN s _ h
  · exact regsBut_refl s f

theorem rdN_of_regsBut {s t : State} {f : Nat → Bool} (h : regsBut s t f) {off : Nat} (ho : f off = false) : t.rdN off = s.rdN off := by
  simp [State.rdN, h off ho]

theorem gf_of_regsBut {s t : State} {f : Nat → Bool} (h : regsBut s t f) (g : Fld) (ho : f g.reg = false) : t.gf g = s.gf g := by
  simp [State.gf, rdN_of_regsBut h ho]

end Sys2Proof.Machine
end

