-- ==== Sys2Proof/Laws/Tku.lean ====
section
/-! SUPPORT. Laws of the timekeeper's shared operations: publishing a bound, rewriting the record, entering a state. -/

namespace Sys2Proof.Machine

variable (s : State)

/-! ## The frame of the timekeeper -/

theorem tkuFrame_refl : tkuFrame s s := ⟨rfl, regsBut_refl s _⟩

theorem tkuFrame_trans {s t u : State} (h : tkuFrame s t) (k : tkuFrame t u) : tkuFrame s u :=
  ⟨by rw [k.1, h.1], regsBut_trans h.2 k.2⟩

theorem tkuFrame_wrN {off : Nat} (v : Nat) (h : blockOf off = 3) : tkuFrame s (s.wrN off v) := ⟨rfl, regsBut_wrN s v (by simp [ofBlock, h])⟩
theorem tkuFrame_sf {f : Fld} (v : Nat) (h : blockOf f.reg = 3) : tkuFrame s (s.sf f v) := tkuFrame_wrN s _ h
theorem tkuFrame_sb {f : Fld} (v : Bool) (h : blockOf f.reg = 3) : tkuFrame s (s.sb f v) := tkuFrame_wrN s _ h
theorem tkuFrame_setTku (g : TkuSt → TkuSt) : tkuFrame s (s.setTku g) := ⟨rfl, regsBut_refl s _⟩
theorem tkuFrame_report (c v i : Nat) (l : List Nat) : tkuFrame s (s.report c v i l) := ⟨rfl, regsBut_refl s _⟩

theorem tkuFrame_wrWide {off n : Nat} (v : Nat) (h : ∀ i, i < n → blockOf (off + 4 * i) = 3) : tkuFrame s (s.wrWide off n v) :=
  ⟨by rw [s.wrWide_only off n v], regsBut_wrWide s v fun i hi => by simp [ofBlock, h i hi]⟩

theorem tkuFrame_satInc {f : Fld} (h : blockOf f.reg = 3) : tkuFrame s (s.satInc f) := by
  unfold State.satInc; split
  · exact tkuFrame_sf s _ h
  · exact tkuFrame_refl s

/-! ## Publishing (R61, R65) -/

theorem State.publish_only : s.publish = { s with regs := (s.sf F.TKU_STATE_BOUND (codeOfBound s.boundNow)).regs, tku := s.publish.tku } := (rfl)

theorem codeOfBound_lt (b : Option Nat) : codeOfBound b < 256 := by
  cases b with
  | none => decide
  | some b =>
    have key : ∀ fuel c, boundFrom b fuel c < 256 := by
      intro fuel
      induction fuel with
      | zero => intro c; simp [boundFrom]
      | succ n ih => intro c; unfold boundFrom; split <;> [(split <;> [omega; exact ih _]); decide]
    exact key 256 0

@[simp] theorem State.publish_pubCode : s.publish.pubCode = codeOfBound s.boundNow := by
  show (s.sf F.TKU_STATE_BOUND (codeOfBound s.boundNow)).gf F.TKU_STATE_BOUND = _
  rw [State.gf_sf_self _ _ _ (by decide)]
  exact Nat.mod_eq_of_lt (codeOfBound_lt _)

theorem State.publish_gf (f : Fld) (h : F.TKU_STATE_BOUND.apart f = true) : s.publish.gf f = s.gf f := s.gf_sf_other _ _ _ (by decide) h

@[simp] theorem State.publish_tkuState : s.publish.tkuState = s.tkuState := s.publish_gf _ (by decide)

theorem State.publish_regs : regsBut s s.publish (· == R.TKU_STATE) := regsBut_sf s _ (by simp [F.TKU_STATE_BOUND])

theorem tkuFrame_publish : tkuFrame s s.publish := ⟨rfl, regsBut_mono s.publish_regs (by simp [ofBlock, blockOf, R.TKU_STATE])⟩

/-- What a computation of the bound leaves in TKU: the bound, when it was computed, and the bus message. -/
theorem State.publish_tku : s.publish.tku = { s.tku with
    bound := s.boundNow.getD 0, lastCompute := s.now, busNum := s.tku.busNum + 1, lastBus := s.now, bus := s.publish.tku.bus } := by
  simp only [State.publish, State.busSend, State.setTku_tku, State.sf_tku, State.setTku_now, State.sf_now]

@[simp] theorem State.publish_arriving : s.publish.flt = s.flt := by simp only [State.publish, State.busSend, State.setTku_flt, State.sf_flt]

/-! ## The traceability record (R83, R84) -/

theorem tkuFrame_stamp (i d : Nat) : tkuFrame s (s.stamp i d).2 := ⟨rfl, regsBut_refl s _⟩
theorem tkuFrame_copyRecord (st : Stamp) : tkuFrame s (s.copyRecord st) := ⟨rfl, regsBut_refl s _⟩
theorem State.copyRecord_but (st : Stamp) (f : Nat → Bool) : regsBut s (s.copyRecord st) f := regsBut_of_regs rfl f
theorem State.stamp_but (i d : Nat) (f : Nat → Bool) : regsBut s (s.stamp i d).2 f := regsBut_of_regs rfl f
@[simp] theorem State.copyRecord_rdN (st : Stamp) (off : Nat) : (s.copyRecord st).rdN off = s.rdN off := (rfl)
@[simp] theorem State.stamp_rdN (i d off : Nat) : (s.stamp i d).2.rdN off = s.rdN off := (rfl)
@[simp] theorem State.copyRecord_tku (st : Stamp) : (s.copyRecord st).tku = s.tku := (rfl)
@[simp] theorem State.copyRecord_flt (st : Stamp) : (s.copyRecord st).flt = s.flt := (rfl)

theorem State.recordWords_regs : regsBut s s.recordWords (regSpan R.TKU_TREC (R.TKU_TREC + 64)) := by
  unfold State.recordWords
  exact regsBut_trans (regsBut_wrN s _ rfl) (regsBut_trans (regsBut_wrN _ _ rfl) (regsBut_wrN _ _ rfl))

theorem tkuFrame_recordWords : tkuFrame s s.recordWords := by
  unfold State.recordWords
  exact tkuFrame_trans (tkuFrame_wrN s _ rfl) (tkuFrame_trans (tkuFrame_wrN _ _ rfl) (tkuFrame_wrN _ _ rfl))

@[simp] theorem State.recordWords_tku : s.recordWords.tku = s.tku := by simp only [State.recordWords, State.wrN_tku]
@[simp] theorem State.recordWords_flt : s.recordWords.flt = s.flt := by simp only [State.recordWords, State.wrN_flt]

/-- The stamp of a change lies in the record's last three words. -/
theorem State.recordStamp_regs (v : Nat) : regsBut s (s.wrWide (R.TKU_TREC + 52) 3 v) (regSpan R.TKU_TREC (R.TKU_TREC + 64)) := by
  refine regsBut_wrWide s v fun i hi => ?_
  simp only [regSpan, Bool.and_eq_true, decide_eq_true_eq]
  omega

theorem tkuFrame_recordStamp (v : Nat) : tkuFrame s (s.wrWide (R.TKU_TREC + 52) 3 v) := by
  refine tkuFrame_wrWide s v fun i hi => ?_
  simp only [blockOf, R.TKU_TREC]
  omega

theorem State.rewriteRecord_regs : regsBut s s.rewriteRecord (regSpan R.TKU_TREC (R.TKU_TREC + 64)) := by
  unfold State.rewriteRecord
  exact regsBut_trans s.recordWords_regs (regsBut_trans (State.stamp_but _ _ _ _)
    (regsBut_trans (State.recordStamp_regs _ _) (State.copyRecord_but _ _ _)))

theorem tkuFrame_rewriteRecord : tkuFrame s s.rewriteRecord := by
  unfold State.rewriteRecord
  exact tkuFrame_trans (tkuFrame_recordWords s) (tkuFrame_trans (tkuFrame_stamp _ _ _)
    (tkuFrame_trans (tkuFrame_recordStamp _ _) (tkuFrame_copyRecord _ _)))

/-- The words of the record that a rewrite does not compute keep what they hold. -/
theorem State.rewriteRecord_word {i : Nat} (hi : i < 13) (h0 : i ≠ 0) (h10 : i ≠ 10) (h11 : i ≠ 11) :
    s.rewriteRecord.rdN (R.TKU_TREC + 4 * i) = s.rdN (R.TKU_TREC + 4 * i) := by
  unfold State.rewriteRecord
  rw [State.copyRecord_rdN, State.rdN_wrWide_other _ (by omega), State.stamp_rdN]
  unfold State.recordWords
  rw [State.rdN_wrN_other _ _ (by omega), State.rdN_wrN_other _ _ (by omega), State.rdN_wrN_other _ _ (by omega)]

theorem State.wrWide_tku (off n v : Nat) : (s.wrWide off n v).tku = s.tku := by rw [s.wrWide_only off n v]
theorem State.wrWide_flt (off n v : Nat) : (s.wrWide off n v).flt = s.flt := by rw [s.wrWide_only off n v]

theorem State.rewriteRecord_gf (f : Fld) (h : regSpan R.TKU_TREC (R.TKU_TREC + 64) f.reg = false) : s.rewriteRecord.gf f = s.gf f :=
  gf_of_regsBut s.rewriteRecord_regs f h

@[simp] theorem State.rewriteRecord_tkuState : s.rewriteRecord.tkuState = s.tkuState := s.rewriteRecord_gf _ (by decide)
@[simp] theorem State.rewriteRecord_pubCode : s.rewriteRecord.pubCode = s.pubCode := s.rewriteRecord_gf _ (by decide)
@[simp] theorem State.rewriteRecord_tku : s.rewriteRecord.tku = s.tku := by
  unfold State.rewriteRecord
  rw [State.copyRecord_tku, State.wrWide_tku, State.stamp_tku, State.recordWords_tku]

@[simp] theorem State.rewriteRecord_flt : s.rewriteRecord.flt = s.flt := by
  unfold State.rewriteRecord
  rw [State.copyRecord_flt, State.wrWide_flt, State.stamp_flt, State.recordWords_flt]

/-! ## Entering a state (R58) -/

/-- The state before the change is logged: in HOLDOVER with the time of entry and the frequency held. -/
def State.enterFrom (s : State) (st : Nat) : State :=
  if st = 3 then ((s.setTku fun t => { t with holdEntry := s.now, heldFreq := s.freqNow }).wrWide (R.TKU_TREC + 28) 3 (fullOf s.tku.dt)) else s

theorem State.tkuEnter_eq (st : Nat) :
    s.tkuEnter st = (((s.enterFrom st).sf F.TKU_STATE_STATE st).report 0x0302 0 0 []).publish.rewriteRecord := (rfl)

theorem tkuFrame_enterFrom (st : Nat) : tkuFrame s (s.enterFrom st) := by
  unfold State.enterFrom
  split
  · exact tkuFrame_trans (tkuFrame_setTku s _) (tkuFrame_wrWide _ _ fun i hi => by simp only [blockOf, R.TKU_TREC]; omega)
  · exact tkuFrame_refl s

theorem tkuFrame_tkuEnter (st : Nat) : tkuFrame s (s.tkuEnter st) := by
  rw [s.tkuEnter_eq st]
  exact tkuFrame_trans (tkuFrame_trans (tkuFrame_trans (tkuFrame_trans (tkuFrame_enterFrom s st) (tkuFrame_sf _ _ rfl)) (tkuFrame_report _ _ _ _ _))
    (tkuFrame_publish _)) (tkuFrame_rewriteRecord _)

theorem State.setTku_but (g : TkuSt → TkuSt) (f : Nat → Bool) : regsBut s (s.setTku g) f := regsBut_of_regs rfl f

theorem State.enterFrom_regs (st : Nat) : regsBut s (s.enterFrom st) (regSpan R.TKU_TREC (R.TKU_TREC + 64)) := by
  unfold State.enterFrom
  split
  · refine regsBut_trans (State.setTku_but s _ _) (regsBut_wrWide _ _ fun i hi => ?_)
    simp only [regSpan, Bool.and_eq_true, decide_eq_true_eq]
    omega
  · exact regsBut_refl s _

@[simp] theorem State.enterFrom_flt (st : Nat) : (s.enterFrom st).flt = s.flt := by
  unfold State.enterFrom
  split
  · rw [State.wrWide_flt]; rfl
  · rfl

/-- What entering a state leaves in TKU's other fields outside the record. -/
theorem State.tkuEnter_gf {st : Nat} (f : Fld) (h1 : F.TKU_STATE_STATE.apart f = true) (h2 : F.TKU_STATE_BOUND.apart f = true)
    (h3 : regSpan R.TKU_TREC (R.TKU_TREC + 64) f.reg = false) : (s.tkuEnter st).gf f = s.gf f := by
  rw [s.tkuEnter_eq st, State.rewriteRecord_gf _ f h3, State.publish_gf _ f h2, State.gf_report, State.gf_sf_other _ _ _ _ (by decide) h1,
    gf_of_regsBut (s.enterFrom_regs st) f h3]

@[simp] theorem State.tkuEnter_state {st : Nat} : (s.tkuEnter st).tkuState = st % 8 := by
  rw [s.tkuEnter_eq st, State.rewriteRecord_tkuState, State.publish_tkuState, State.tkuState, State.gf_report, State.gf_sf_self _ _ _ (by decide)]
  rfl

/-- Entering a state is logged with the old and the new state. -/
theorem State.tkuEnter_reported (st : Nat) : (s.tkuEnter st).flt.arriving = s.flt.arriving ++ [⟨0x0302, 0, 0x0300, 0x0300, []⟩] := by
  rw [s.tkuEnter_eq st, State.rewriteRecord_flt, State.publish_arriving, State.report_arriving, State.sf_flt, State.enterFrom_flt]

/-- The time of entry to HOLDOVER. -/
theorem State.enterFrom_holdEntry : (s.enterFrom 3).tku.holdEntry = s.now := by
  unfold State.enterFrom
  rw [if_pos rfl, State.wrWide_tku, State.setTku_tku]

theorem State.tkuEnter_holdEntry : (s.tkuEnter 3).tku.holdEntry = s.now := by
  rw [s.tkuEnter_eq 3, State.rewriteRecord_tku, State.publish_tku]
  simp only [State.report_tku, State.sf_tku, State.enterFrom_holdEntry]

/-- Entering any state but HOLDOVER publishes the bound of the state entered; in FREERUN there is none. -/
theorem State.tkuEnter_pubCode_zero : (s.tkuEnter 0).pubCode = 0xFF := by
  rw [s.tkuEnter_eq 0, State.rewriteRecord_pubCode, State.publish_pubCode, State.boundNow, State.tkuState, State.gf_report,
    State.gf_sf_self _ _ _ (by decide)]
  rfl

/-- What entering a state leaves of TKU's own state, but for the entry to HOLDOVER, the bound and the bus message. -/
theorem State.tkuEnter_tku {st : Nat} (h : st ≠ 3) : (s.tkuEnter st).tku =
    { s.tku with bound := (s.tkuEnter st).tku.bound, lastCompute := s.now, busNum := s.tku.busNum + 1, lastBus := s.now, bus := (s.tkuEnter st).tku.bus } := by
  rw [s.tkuEnter_eq st, State.rewriteRecord_tku, State.publish_tku]
  simp only [State.report_tku, State.sf_tku, State.enterFrom, if_neg h, State.report_now, State.sf_now]

end Sys2Proof.Machine
end

