-- ==== Sys2Proof/WellFormed.lean ====
section
/-! DEFINITION. Which commands can arrive: operands within the ranges that the manual gives what they name. Every meaning is total, so an ill-formed command is no
reason to stop; it is one that nothing outside the device can send. -/

namespace Sys2Proof

/-- The owner of an HBM word exists: a Hedgerow location or overflow row, an LPM row, an entry of the four MAC tables, a queue (R153, R164, R165, R249). -/
def MemOwner.wf : MemOwner → Bool
  | .hedgerow loc => decide (loc < 2 ^ 24 + 16384)
  | .lpm row => decide (row < 262144)
  | .macEntry k => decide (k < 4 * 262144)
  | .queue g => decide (g < 131072)
  | _ => true

/-- A request carries at most 4 KiB, the largest that PCI Express allows. -/
def Mw4Kind.wf : Mw4Kind → Bool
  | .rd len => decide (1 ≤ len) && decide (len ≤ 4096)
  | .wr data _ => decide (1 ≤ data.length) && decide (data.length ≤ 4096)
  | .atomic => true

/-- A stack message's header lies within its fields (R437). -/
def StkMsg.wf (m : StkMsg) : Bool :=
  decide (m.src < 4) && decide (m.dst < 4) && decide (m.hops < 4) && decide (m.mgen < 256) && decide (m.lseq < 65536) && decide (m.lack < 65536)

/-- Host data of at most `n` bytes, or none where the read failed. -/
def hostOk (n : Nat) : Option (List Byte) → Bool
  | some l => decide (l.length ≤ n)
  | none => true

/-- Failed tests are numbered from `a` to below `b`, and each has a failing unit (R508, R509). -/
def testsOk (a b : Nat) (l : List (Nat × Nat × Nat)) : Bool :=
  l.all fun e => decide (a ≤ e.1) && decide (e.1 < b) && decide (e.2.1 < 65536) && decide (1 ≤ e.2.2)

/-- A command is well-formed. -/
def wellFormed : Instr → Bool
  | .registerWrite _ off _ _ => decide (off < 0x10000000)
  | .latchedRead _ off => decide (off < 0x10000000)
  | .readClear _ off => decide (off < 0x10000000)
  | .tkuTimeRead _ => true
  | .fnTimeRead _ _ => true
  | .trecRead _ => true
  | .topLockSet _ => true
  | .scrubStep _ _ owner => owner.wf
  | .servoUpdate _ _ => true
  | .lockreq _ => true
  | .holdreq _ => true
  | .untrace _ => true
  | .srcChange _ _ _ => true
  | .servoWatchdog => true
  | .ppsiTimeout => true
  | .stackTimeLoss => true
  | .boundRecompute => true
  | .busMessageReceive _ => true
  | .tkuSet _ => true
  | .tkuStep _ => true
  | .adjApply => true
  | .adjBusyClear => true
  | .tkuCommit _ => true
  | .ptpReceive _ => true
  | .ptmTrig _ _ => true
  | .ptmPeriod _ => true
  | .ptmResponsed _ _ _ => true
  | .tkuPtmFail _ => true
  | .ppsiEdge _ _ => true
  | .ppsoEdge => true
  | .quadmodeWrite _ _ _ => true
  | .portStart _ _ => true
  | .portStop _ _ => true
  | .portStopped _ => true
  | .macLinkUp _ => true
  | .macLinkDown _ _ => true
  | .macAnFail _ => true
  | .macFrameReceive _ frame _ => decide (1 ≤ frame.length)
  | .pauseFrameReceive _ frame => decide (1 ≤ frame.length)
  | .pauseHoldExpire _ _ => true
  | .macPauseStorm _ _ => true
  | .pauseFrameSend _ => true
  | .pauseRefresh _ => true
  | .counterSnapshot _ _ => true
  | .pipelinePass _ => true
  | .lookupAnswer _ => true
  | .clsLookupTmo _ => true
  | .fragExpire _ _ => true
  | .prsCommit _ => true
  | .prsBankSwitch _ => true
  | .prsRefillDone => true
  | .ruleSwap _ => true
  | .clsSwapDone => true
  | .swapDrainDone => true
  | .epochHoldRevoke => true
  | .writeRule _ _ _ => true
  | .readRule _ _ _ => true
  | .writeAlist _ _ _ => true
  | .readAlist _ _ _ => true
  | .copyBank _ _ _ => true
  | .clearBank _ _ _ => true
  | .tblCommit _ => true
  | .tblInsert _ _ => true
  | .tblUpdate _ _ => true
  | .tblDelete _ _ => true
  | .tblRead _ _ => true
  | .readLoc _ _ => true
  | .flushOwner _ _ => true
  | .compact _ _ => true
  | .lpmInsert _ _ => true
  | .lpmUpdate _ _ => true
  | .lpmDelete _ _ => true
  | .lpmRead _ _ => true
  | .macWrite _ _ => true
  | .macDelete _ _ => true
  | .macRead _ _ => true
  | .macFlush _ _ => true
  | .learnProcess _ => true
  | .ageSweep _ => true
  | .shaperTick => true
  | .tmgSelect _ => true
  | .launchCalendarEnter _ => true
  | .launchInstant _ => true
  | .gateEntryChange _ => true
  | .gclCommit _ _ => true
  | .gclTakeEffect _ => true
  | .sampleSweep => true
  | .writeNode _ _ _ => true
  | .readNode _ _ _ => true
  | .flushQueue _ _ _ => true
  | .writeMeter _ _ _ => true
  | .readMeter _ _ _ => true
  | .frameTransmit _ sky => (sky.map fun f => decide (f.bytes.length ≤ 16384)).getD true
  | .orsRelease _ => true
  | .orsOpen _ _ => true
  | .orsModify _ _ => true
  | .orsClose _ _ => true
  | .orsRead _ _ => true
  | .orsDisable _ => true
  | .mw4Request _ _ o kind => decide (o < 2 ^ 35) && kind.wf
  | .hpCommit _ _ => true
  | .hpCommitBoundary _ => true
  | .completionReceive _ tag _ _ _ data => decide (tag < 16384) && decide (data.length ≤ 4096)
  | .hpCplTimeout _ tag => decide (tag < 16384)
  | .hpProtocol _ _ _ => true
  | .hpLinkCorr _ _ => true
  | .hpInternal _ => true
  | .l1Entry _ _ => true
  | .l0pWidthChange _ _ _ => true
  | .d3hotEntry _ _ => true
  | .pmeTurnOff _ => true
  | .perstAssert _ => true
  | .perstDeassert _ => true
  | .hotReset _ => true
  | .hpLinkDown _ => true
  | .hpLinkUp _ _ width _ => decide (width ≤ 16)
  | .flrPf0 _ => true
  | .flr _ _ => true
  | .hpResetDone _ => true
  | .bmeClear _ _ => true
  | .vfDisable _ => true
  | .doorbell _ _ off _ _ => decide (off < 0x10000)
  | .cqDoorbell _ _ off _ _ => decide (off < 0x10000)
  | .ringFetch _ => true
  | .fetchComplete _ => true
  | .sendDispatch _ _ => true
  | .coalTimer _ => true
  | .queueDrainDone _ => true
  | .queueStopTimeout _ => true
  | .adminEnable _ _ _ => true
  | .adminDisable _ _ _ => true
  | .nop _ => true
  | .createQueue _ => true
  | .destroyQueue _ => true
  | .stopQueue _ => true
  | .restartQueue _ => true
  | .queryQueue _ => true
  | .modifyCq _ => true
  | .qmgRead _ _ => true
  | .qmgHalt _ _ => true
  | .createTenant _ => true
  | .destroyTenant _ => true
  | .tenantFreed _ => true
  | .modifyTenant _ => true
  | .queryTenant _ => true
  | .attachVf _ => true
  | .detachVf _ => true
  | .purgeQueues _ => true
  | .dirtyStart _ => true
  | .dirtyStop _ => true
  | .dirtySync _ => true
  | .dirtyCiReread _ _ => true
  | .quiesce _ => true
  | .quiesceDone _ => true
  | .fnmQuiesceTmo _ => true
  | .resume _ => true
  | .saveState _ => true
  | .restoreState _ _ => true
  | .add _ _ _ _ => true
  | .sub _ _ _ _ => true
  | .and _ _ _ _ => true
  | .or _ _ _ _ => true
  | .xor _ _ _ _ => true
  | .sll _ _ _ _ => true
  | .srl _ _ _ _ => true
  | .sra _ _ _ _ => true
  | .rotl _ _ _ _ => true
  | .mul _ _ _ _ => true
  | .mulhu _ _ _ _ => true
  | .divu _ _ _ _ => true
  | .remu _ _ _ _ => true
  | .sltu _ _ _ _ => true
  | .slt _ _ _ _ => true
  | .crc32c _ _ _ _ => true
  | .bswap _ _ _ => true
  | .clz _ _ _ => true
  | .popcnt _ _ _ => true
  | .addi _ _ _ _ => true
  | .andi _ _ _ _ => true
  | .ori _ _ _ _ => true
  | .xori _ _ _ _ => true
  | .slli _ _ _ _ => true
  | .srli _ _ _ _ => true
  | .srai _ _ _ _ => true
  | .sltui _ _ _ _ => true
  | .slti _ _ _ _ => true
  | .puth0 _ _ _ _ => true
  | .puth1 _ _ _ _ => true
  | .puth2 _ _ _ _ => true
  | .puth3 _ _ _ _ => true
  | .ld8u _ _ _ _ => true
  | .ld16u _ _ _ _ => true
  | .ld32u _ _ _ _ => true
  | .ld64 _ _ _ _ => true
  | .ld8s _ _ _ _ => true
  | .ld16s _ _ _ _ => true
  | .ld32s _ _ _ _ => true
  | .st8 _ _ _ _ => true
  | .st16 _ _ _ _ => true
  | .st32 _ _ _ _ => true
  | .st64 _ _ _ _ => true
  | .amoadd _ _ _ _ => true
  | .amoswap _ _ _ _ => true
  | .amocas _ _ _ _ => true
  | .amoand _ _ _ _ => true
  | .amoor _ _ _ _ => true
  | .beq _ _ _ _ => true
  | .bne _ _ _ _ => true
  | .blt _ _ _ _ => true
  | .bge _ _ _ _ => true
  | .bltu _ _ _ _ => true
  | .bgeu _ _ _ _ => true
  | .j _ _ => true
  | .jal _ _ => true
  | .jalr _ _ _ _ => true
  | .fence _ => true
  | .trap _ _ => true
  | .brk _ _ => true
  | .illegal _ _ => true
  | .pcfault _ => true
  | .stamp _ _ => true
  | .csrr _ _ _ => true
  | .tlook _ _ _ _ => true
  | .tlookAnswer _ => true
  | .tlookTimeout _ => true
  | .claim _ _ _ _ => true
  | .claimGrant _ => true
  | .seal _ _ _ => true
  | .crecv _ _ _ _ => true
  | .crecvGrant _ => true
  | .cfree _ _ => true
  | .evsend _ _ _ => true
  | .wait _ _ _ => true
  | .waitWake _ => true
  | .fork _ _ _ _ => true
  | .forkGrant _ => true
  | .join _ _ _ => true
  | .joinWake _ => true
  | .exit _ _ => true
  | .move _ _ _ _ => true
  | .moveAccept => true
  | .balloc _ _ _ => true
  | .ballocGrant _ => true
  | .ballocTimeout _ => true
  | .bfree _ _ => true
  | .pret _ _ _ => true
  | .psend _ _ _ => true
  | .returnQueueAccept _ => true
  | .swardRun _ _ => true
  | .swardHold _ _ => true
  | .swardStopped _ => true
  | .icinv _ _ => true
  | .icinvDone _ => true
  | .threadHalt _ _ => true
  | .threadResume _ _ => true
  | .threadStep _ _ => true
  | .threadKill _ _ => true
  | .engChanHeld _ _ => true
  | .engWaitCycle _ => true
  | .skyqPop _ => true
  | .createSa _ block => hostOk 256 block
  | .destroySa _ => true
  | .querySa _ => true
  | .updateSa _ => true
  | .createXpt _ block => hostOk 256 block
  | .destroyXpt _ => true
  | .queryXpt _ => true
  | .modifyXpt _ => true
  | .xptReceive _ => true
  | .workRequest _ _ => true
  | .ackTimeout _ => true
  | .rnrWaitExpire _ => true
  | .ackDeadline _ => true
  | .rateIncrease _ => true
  | .tcpRto _ => true
  | .tcpDelayedAck _ => true
  | .burstStart _ => true
  | .burstComplete _ _ => true
  | .movCommit _ _ => true
  | .movCommitApply => true
  | .helloSend _ => true
  | .helloReceive _ msg _ => msg.wf
  | .stkLinkUp _ => true
  | .stkLinkDown _ _ => true
  | .linkReplay _ => true
  | .controlMessageReceive _ msg _ => msg.wf
  | .pdelayReq _ => true
  | .pdelayResp => true
  | .assignSend present => decide (present.length ≤ 4) && present.all fun e => decide (e.1 < 4)
  | .assign => true
  | .timeSend => true
  | .time => true
  | .lookupReq => true
  | .lookupRsp => true
  | .txdone => true
  | .data _ msg _ => msg.wf
  | .handoverWrite _ => true
  | .handover => true
  | .successionTimeout _ => true
  | .election others => decide (others.length ≤ 3)
  | .masterWaitTimeout _ => true
  | .report => true
  | .recordWrite => true
  | .mirrorCiReread _ _ => true
  | .keepProgram _ => true
  | .ladderDone _ _ _ => true
  | .stormWindowEnd => true
  | .declarationClear _ _ => true
  | .keepack _ _ => true
  | .recordRead _ _ => true
  | .clockSwitch _ _ _ => true
  | .cguSwitchForced _ => true
  | .switchRestart _ _ => true
  | .islandStopRequest _ _ _ => true
  | .cguPllUnlock _ _ => true
  | .pllRetry _ => true
  | .cguPllRelock _ => true
  | .cguRefFail => true
  | .refRecover _ => true
  | .blockEnable _ _ => true
  | .blockActive _ => true
  | .blockGate _ _ => true
  | .powerOnReset _ _ _ => true
  | .pornFall => true
  | .warmReset _ => true
  | .managementReset _ => true
  | .rstMgtWdog => true
  | .mgtWdogKick _ => true
  | .blockResetMac _ _ => true
  | .blockResetEng _ _ => true
  | .blockResetCry _ _ => true
  | .blockResetXpt _ _ => true
  | .blockResetOrs _ _ => true
  | .blockResetStk _ _ => true
  | .blockResetDone => true
  | .thermalSample temps => decide (temps.length = 8)
  | .rstThermtrip => true
  | .ageMinute => true
  | .romBoot fails => testsOk 0 4 fails
  | .firmwareBoot fails _ => testsOk 4 16 fails
  | .cfsOpen _ => true
  | .cfsWrite _ => true
  | .cfsClose _ => true
  | .cfsAbort _ => true
  | .cfsRead _ => true
  | .burnsvn _ => true
  | .warmreq _ => true
  | .mctpPacketReceive _ _ pkt _ => decide (1 ≤ pkt.length)
  | .setEndpointId => true
  | .getEndpointId => true
  | .getEndpointUuid => true
  | .getMctpVersionSupport => true
  | .getMessageTypeSupport => true
  | .getVendorDefinedMessageSupport => true
  | .getIdentity => true
  | .getHealth => true
  | .regRead => true
  | .regWrite => true
  | .readRecords => true
  | .ackKeep => true
  | .fltDone => true
  | .cfsOp => true
  | .warmResetCmd => true
  | .timeGet => true
  | .timeAdj => true
  | .setMasters => true
  | .setNet => true
  | .alertResponse => true
  | .mgtSmbTimeout => true
  | .phyPoll _ _ _ => true
  | .mgeFrameReceive frame => decide (1 ≤ frame.length)
  | .mgeFrameTransmit _ => true
  | .mgeCollision _ => true
  | .backoffExpire => true
  | .mgeStop _ => true
  | .mdioFrame _ _ => true
  | .mdioDone _ => true
  | .pauseWatchdogEnd _ _ => true
  | .ppsoPulseEnd => true
  | .followUpTimeout _ => true
  | .copyBankDone => true
  | .cfsCommandDone _ => true
  | .ratePacedSend _ => true
  | .mgeFrameEnd => true
  | .l1Exit _ => true
  | .configWrite _ _ _ => true
  | .gatedRead _ off => decide (off < 0x10000000)

end Sys2Proof
end

