-- ==== Sys2Proof/Tests/Slice0.lean ====
section
/-! SUPPORT. Tests on fixed values, and for each statement a state that meets its hypotheses. -/

namespace Sys2Proof.Tests

open Sys2Proof.Machine

/-! ## Ill-formed commands, one for each check -/

theorem test_ill_formed_is_refused :
    [Instr.registerWrite .skylark 0x10000000 15 0, .latchedRead .skylark 0x10000000, .readClear .skylark 0x10000000, .gatedRead .skylark 0x10000000,
      .scrubStep 0 false (.hedgerow (2 ^ 24 + 16384)), .scrubStep 0 false (.lpm 262144), .scrubStep 0 false (.macEntry 1048576), .scrubStep 0 false (.queue 131072),
      .macFrameReceive 0 [] ⟨0, 0, 0, 0⟩, .pauseFrameReceive 0 [], .mgeFrameReceive [], .mctpPacketReceive 0 0 [] true].all (fun c => !wellFormed c) = true := by
  decide

end Sys2Proof.Tests
end

section
/-! SUPPORT. Reasoning rules for one engine thread (R314, R331, R333, R336, R345): what a replaced thread reads as, what an issue, a retirement and a wait
change, and the statement about WAIT that rests on them. -/

namespace Sys2Proof.Machine

variable {s u v : State} {t : Nat}

/-! ## A change of one thread -/

/-- From `s` to `u` only the engines have changed, and of the threads none but `t`. -/
def threadOnly (s u : State) (t : Nat) : Prop := u = { s with eng := u.eng } ∧ othersKeep s u [t]

theorem threadOnly.trans (h : threadOnly s u t) (k : threadOnly u v t) : threadOnly s v t := by
  obtain ⟨hu, hkeep⟩ := h
  obtain ⟨hv, kkeep⟩ := k
  refine ⟨?_, fun j hj => (kkeep j hj).trans (hkeep j hj)⟩
  rw [hu] at hv
  exact hv

theorem State.thread_setThread (s : State) (t k : Nat) (x : ThreadSt) : (s.setThread t x).thread k = if k = t then x else s.thread k := by
  have hset : (s.setThread t x).eng.threads = tabSet (fun _ => {}) s.eng.threads t x := by
    simp only [State.setThread, State.modEng]
    split <;> rfl
  simp only [State.thread, hset, tabGet_tabSet]

@[simp] theorem State.thread_setThread_self (s : State) (t : Nat) (x : ThreadSt) : (s.setThread t x).thread t = x := by
  simp [State.thread_setThread]

/-- A thread that does not start drops no latch, so that replacing it changes the engines alone (R2). -/
theorem threadOnly_setThread (x : ThreadSt) (h : (s.thread t).st ≠ 0) : threadOnly s (s.setThread t x) t := by
  refine ⟨by simp [State.setThread, State.modEng, h], fun k hk => ?_⟩
  rw [State.thread_setThread, if_neg (by simpa using hk)]

/-! ## A thread's registers -/

theorem ThreadSt.g_setG (x : ThreadSt) (rd r : Nat) (v : DWord) : (x.setG rd v).g r = if r = rd ∧ r ≠ 0 then v else x.g r := by
  by_cases hrd : rd = 0
  · simp [ThreadSt.setG, hrd]
  · by_cases hr : r = 0
    · simp [ThreadSt.g, hr]
    · simp [ThreadSt.setG, ThreadSt.g, hrd, hr, tabGet_tabSet]

/-- Writing a register changes the registers alone. -/
theorem ThreadSt.setG_only (x : ThreadSt) (rd : Nat) (v : DWord) : x.setG rd v = { x with regs := (x.setG rd v).regs } := by
  unfold ThreadSt.setG
  split <;> rfl

theorem ThreadSt.done_g (x : ThreadSt) (rd r : Nat) (v : DWord) : (x.done rd v).g r = if r = rd ∧ r ≠ 0 then v else x.g r := x.g_setG rd r v

@[simp] theorem ThreadSt.done_st (x : ThreadSt) (rd : Nat) (v : DWord) : (x.done rd v).st = x.st := by
  rw [ThreadSt.done, x.setG_only]; rfl
@[simp] theorem ThreadSt.done_pend (x : ThreadSt) (rd : Nat) (v : DWord) : (x.done rd v).pend = x.pend := by
  rw [ThreadSt.done, x.setG_only]; rfl
@[simp] theorem ThreadSt.done_pc (x : ThreadSt) (rd : Nat) (v : DWord) : (x.done rd v).pc = (x.pc + 4) % 2 ^ 32 := (rfl)
@[simp] theorem ThreadSt.done_retired (x : ThreadSt) (rd : Nat) (v : DWord) : (x.done rd v).retired = (x.retired + 1) % 2 ^ 64 := by
  rw [ThreadSt.done, x.setG_only]; rfl

/-! ## The issue of an instruction -/

/-- The pc behind an instruction of the code image is no wrap to 0: an image has less than 2^32 bytes (R333). -/
theorem State.issuing.pc_add_four {w : Nat} (h : s.issuing t w) : ((s.thread t).pc + 4) % 2 ^ 32 = (s.thread t).pc + 4 := by
  obtain ⟨-, hpc, -⟩ := h
  obtain ⟨halign, hin⟩ : (s.thread t).pc % 4 = 0 ∧ (s.thread t).pc < s.codeSize (swardOf t) := by simpa [State.pcOk] using hpc
  have hsize : s.gf (F.ENG_SWCSIZE_SIZE (swardOf t)) < 2 ^ 9 := s.gf_lt _
  simp only [State.codeSize] at hin
  omega

theorem State.issuing.st {w : Nat} (h : s.issuing t w) : (s.thread t).st = 1 := by
  obtain ⟨hmay, -, -⟩ := h
  simp only [State.mayIssue, Bool.and_eq_true, beq_iff_eq] at hmay
  obtain ⟨⟨⟨hst, -⟩, -⟩, -⟩ := hmay
  exact hst

/-- A thread whose instruction stands at its pc issues it (R333, R337). -/
theorem State.issues_of_issuing {w : Nat} (h : s.issuing t w) (f : State → State) : s.issues t w f = f (s.issued t) := by
  obtain ⟨hmay, hpc, hword⟩ := h
  simp only [State.issues, hmay, if_true, State.fetch, hpc, Bool.not_true, Bool.false_eq_true, if_false, hword, State.issued]

/-- A STEP that is used up: the thread may issue no more, and its period of being HALTED begins anew (R351, R354). -/
theorem State.thread_stepUsed (s : State) (t : Nat) :
    (s.stepUsed t).thread t = { s.thread t with
      step := (s.thread t).step && !(s.thread t).halted
      stopped := if (s.thread t).halted then some s.now else (s.thread t).stopped } := by
  simp only [State.stepUsed]
  split
  next hh => simp [hh]
  next hh => cases hx : s.thread t; simp_all

theorem threadOnly_stepUsed (h : (s.thread t).st ≠ 0) : threadOnly s (s.stepUsed t) t := by
  simp only [State.stepUsed]
  split
  · exact threadOnly_setThread _ h
  · exact ⟨rfl, fun _ _ => rfl⟩

/-- The thread at its issue is as it was, but for the STEP that is used up: the line filled into the cache is no part of it. -/
theorem State.thread_issued (s : State) (t : Nat) :
    (s.issued t).thread t = { s.thread t with
      step := (s.thread t).step && !(s.thread t).halted
      stopped := if (s.thread t).halted then some s.now else (s.thread t).stopped } :=
  State.thread_stepUsed _ t

theorem State.issuing.issued_st {w : Nat} (h : s.issuing t w) : ((s.issued t).thread t).st ≠ 0 := by simp [State.thread_issued, h.st]

theorem State.issuing.threadOnly_issued {w : Nat} (h : s.issuing t w) : threadOnly s (s.issued t) t :=
  have hfill (f : EngSt → Tab (List Nat)) : threadOnly s (s.modEng fun g => { g with icache := f g }) t := ⟨rfl, fun _ _ => rfl⟩
  have hst : (s.thread t).st ≠ 0 := by simp [h.st]
  (hfill _).trans (threadOnly_stepUsed hst)

/-! ## Retiring, waiting, waking and taking events -/

@[simp] theorem State.thread_ends (s : State) (t rd : Nat) (v : DWord) : (s.ends t rd v).thread t = (s.thread t).done rd v :=
  s.thread_setThread_self t _

@[simp] theorem State.thread_wakes (s : State) (t rd : Nat) (v : DWord) :
    (s.wakes t rd v).thread t = { (s.thread t).done rd v with st := 1, wait := .none } :=
  s.thread_setThread_self t _

@[simp] theorem State.thread_waits (s : State) (t : Nat) (w : Wait) : (s.waits t w).thread t = { s.thread t with st := 2, wait := w } :=
  s.thread_setThread_self t _

@[simp] theorem State.thread_takeEvents (s : State) (t m : Nat) :
    (s.takeEvents t m).thread t = { s.thread t with pend := (s.thread t).pend - ((s.thread t).pend &&& m) } :=
  s.thread_setThread_self t _

theorem threadOnly_takeEvents (m : Nat) (h : (s.thread t).st ≠ 0) : threadOnly s (s.takeEvents t m) t := threadOnly_setThread _ h

theorem threadOnly_takeEvents_ends (m rd : Nat) (v : DWord) (h : (s.thread t).st ≠ 0) : threadOnly s ((s.takeEvents t m).ends t rd v) t :=
  (threadOnly_takeEvents m h).trans (threadOnly_setThread _ (by simpa using h))

theorem threadOnly_takeEvents_wakes (m rd : Nat) (v : DWord) (h : (s.thread t).st ≠ 0) : threadOnly s ((s.takeEvents t m).wakes t rd v) t :=
  (threadOnly_takeEvents m h).trans (threadOnly_setThread _ (by simpa using h))

/-! ## WAIT -/

theorem exec_wait (t : Fin 8192) (rd ra : Fin 32) (s : State) : exec (.wait t rd ra) s = .next (s.waitEvents t rd ra) := by rfl

theorem exec_waitWake (t : Fin 8192) (s : State) :
    exec (.waitWake t) s = .next (s.inBlock 0xC0 (islSW (swardOf t)) fun s => s.waitWake t) := by rfl

/-- A WAIT that is issued takes the events of its mask, or waits for one; the issue itself changes neither the registers nor the pending events. -/
theorem exec_wait_of_issuing (t : Fin 8192) (rd ra : Fin 32) (h : s.issuing t (encX rd ra 0 0x08 0)) :
    exec (.wait t rd ra) s = .next
      (let x := s.thread t
       let m := (x.g ra).toNat % 2 ^ 32
       if m = 0 || x.pend &&& m ≠ 0 then ((s.issued t).takeEvents t m).ends t rd (dword (x.pend &&& m)) else (s.issued t).waits t (.event rd m)) := by
  have hpend : ((s.issued t).thread t).pend = (s.thread t).pend := by rw [State.thread_issued]
  have hreg : ((s.issued t).thread t).g ra = (s.thread t).g ra := by rw [State.thread_issued]; rfl
  rw [exec_wait, State.waitEvents, State.issues_of_issuing h]
  simp only [hpend, hreg]

/-- A WAIT with a mask of 0, or with an event of its mask pending, retires at once with those events in rd (R345). -/
theorem wait_takes_at_once (t : Fin 8192) (rd ra : Fin 32) (h : s.issuing t (encX rd ra 0 0x08 0)) {m : Nat}
    (hm : ((s.thread t).g ra).toNat % 2 ^ 32 = m) (hgot : m = 0 ∨ (s.thread t).pend &&& m ≠ 0) :
    completes (.wait t rd ra) s fun u => threadOnly s u t ∧
      u.thread t = { ((s.issued t).thread t) with pend := (s.thread t).pend - ((s.thread t).pend &&& m) }.done rd (dword ((s.thread t).pend &&& m)) := by
  refine ⟨_, exec_wait_of_issuing t rd ra h, ?_⟩
  simp only [hm, ne_eq, Bool.or_eq_true, decide_eq_true_eq, if_pos hgot]
  refine ⟨h.threadOnly_issued.trans (threadOnly_takeEvents_ends _ _ _ h.issued_st), ?_⟩
  simp [State.thread_issued]

/-- A WAIT without a pending event of its mask waits for one (R345). -/
theorem wait_blocks (t : Fin 8192) (rd ra : Fin 32) (h : s.issuing t (encX rd ra 0 0x08 0)) {m : Nat}
    (hm : ((s.thread t).g ra).toNat % 2 ^ 32 = m) (hm0 : m ≠ 0) (hgot : (s.thread t).pend &&& m = 0) :
    completes (.wait t rd ra) s fun u => threadOnly s u t ∧ u.thread t = { ((s.issued t).thread t) with st := 2, wait := .event rd m } := by
  refine ⟨_, exec_wait_of_issuing t rd ra h, ?_⟩
  simp only [hm, hgot, hm0, ne_eq, not_true, decide_false, Bool.or_false, Bool.false_eq_true, if_false]
  exact ⟨h.threadOnly_issued.trans (threadOnly_setThread _ h.issued_st), State.thread_waits _ _ _⟩

/-- WAIT_WAKE of a thread that waits for an event of `m`, in a sward that works (R345). -/
theorem exec_waitWake_event (t : Fin 8192) {rd m : Nat} (hworks : s.works 0xC0 (islSW (swardOf t)) = true) (hwait : (s.thread t).wait = .event rd m) :
    exec (.waitWake t) s = .next (if (s.thread t).pend &&& m = 0 then s else (s.takeEvents t m).wakes t rd (dword ((s.thread t).pend &&& m))) := by
  simp only [exec_waitWake, State.inBlock, hworks, if_true, State.waitWake, hwait]

/-- Settles O50: at its issue a WAIT takes what of its mask is pending or begins to wait, and WAIT_WAKE then takes it in the same way. -/
theorem waitTakesPendingEvents : Obligations.WaitTakesPendingEvents := by
  unfold Obligations.WaitTakesPendingEvents
  refine ⟨fun s t rd ra hissue => ⟨fun hgot => ?atOnce, fun hm hgot => ?waits⟩,
    fun s t rd m hworks hst hwait => ⟨fun hgot => ?notYet, fun hgot => ?wakes⟩⟩
  case atOnce =>
    obtain ⟨u, hexec, ⟨honly, hothers⟩, hthread⟩ := wait_takes_at_once t rd ra (by simpa [encX] using hissue) rfl hgot
    rw [State.thread_issued] at hthread
    refine ⟨u, hexec, honly, hothers, ?_⟩
    rw [hthread]
    exact ⟨by simp, by simp [hissue.st], by simpa using hissue.pc_add_four, by simp, fun r => ThreadSt.done_g _ _ _ _⟩
  case waits =>
    obtain ⟨u, hexec, ⟨honly, hothers⟩, hthread⟩ := wait_blocks t rd ra (by simpa [encX] using hissue) rfl hm hgot
    rw [State.thread_issued] at hthread
    exact ⟨u, hexec, honly, by simp [hthread], fun k hk => hothers k (by simpa using hk)⟩
  case notYet => rw [exec_waitWake_event t hworks hwait, if_pos hgot]
  case wakes =>
    obtain ⟨honly, hothers⟩ := threadOnly_takeEvents_wakes m rd (dword ((s.thread t).pend &&& m)) (s := s) (t := t) (by simp [hst])
    refine ⟨_, by rw [exec_waitWake_event t hworks hwait, if_neg hgot], honly, hothers, ?_⟩
    rw [State.thread_wakes, State.thread_takeEvents]
    exact ⟨by simp, rfl, rfl, fun r => ThreadSt.done_g _ _ _ _⟩

/-! ## States that meet the hypotheses -/

/-- A device whose sward 0 runs an image that begins with WAIT g2, g3, and whose thread 5 is `x`. -/
def waitDevice (x : ThreadSt) : State :=
  let s := ((State.reset.sb (F.ENG_SWCTL_RUN 0) true).sb (F.CGU_ISL_RUNNING (islSW 0)) true).sb (F.CGU_CLKEN_EN 0xC0) true
  ((s.sf (F.ENG_SWCSIZE_SIZE 0) 1).hbmWrite 0 (leBytes 4 (encX 2 3 0 0x08 0))).setThread 5 x

/-- Thread 5 issues the WAIT with event 2 of its mask pending, and with no event of it pending. -/
theorem waitDevice_issuing :
    (waitDevice { st := 1, regs := [(3, 12)], pend := 5 }).issuing 5 (encX 2 3 0 0x08 0) ∧
      (waitDevice { st := 1, regs := [(3, 10)], pend := 5 }).issuing 5 (encX 2 3 0 0x08 0) := by
  unfold State.issuing
  decide

/-- Thread 5 waits in a sward that works, so that WAIT_WAKE is not idle. -/
theorem waitDevice_works : (waitDevice { st := 2, pend := 5, wait := .event 2 9 }).works 0xC0 (islSW (swardOf 5)) = true := by
  decide

end Sys2Proof.Machine
end
